-- ==== Sys2Proof/Word.lean ====
section
/-! DEFINITION. The byte of the two serial links, and the bounds of the part's 32-bit numbers.
The manual treats record fields as whole numbers, so they are `Nat` (or `Int` where signed); only what
travels on a wire, and what the check codes shift, is a bit vector. -/

namespace Sys2Proof

/-- One byte of a system-link or reader-line frame (R191, R193). -/
abbrev Byte := BitVec 8

/-- 4,294,967,295, the top of ids, ship times, charge numbers and saturating counters. -/
abbrev max32 : Nat := 4294967295

/-- 4,294,967,296, the modulus of the elapsed-time count (R157). -/
abbrev mod32 : Nat := 4294967296

end Sys2Proof
end

