-- ==== Sys2Proof/Config.lean ====
section
/-! DEFINITION. What is fixed for the part: its capacities and fixed thresholds, and the two values the
manual leaves open, which are opaque constants that no proof can see into. -/

namespace Sys2Proof.Config

/-! ## Capacities -/

/-- Person slots 0..8,191 (R1). -/
abbrev personSlots : Nat := 8192
/-- Buckets of the Card Index (R13). -/
abbrev buckets : Nat := 2048
/-- Positions of one bucket (R14). -/
abbrev bucketPositions : Nat := 8
/-- Cabin slots 0..3,071 (R23). -/
abbrev cabinSlots : Nat := 3072
/-- Occupants of one cabin (R24). -/
abbrev cabinOccupants : Nat := 6
/-- Audit records of one ring (R31). -/
abbrev auditRing : Nat := 8
/-- Folio slots 0..4,095 (R46). -/
abbrev folioSlots : Nat := 4096
/-- Venues 0..63 (R63). -/
abbrev venues : Nat := 64
/-- Entries of the Charge Journal (R94). -/
abbrev journalEntries : Nat := 4096
/-- Entries of the deferred list (R92). -/
abbrev deferredEntries : Nat := 16
/-- Lanes 0..7 (R102). -/
abbrev lanes : Nat := 8
/-- Records of one crossing bank (R125). -/
abbrev bankRecords : Nat := 512
/-- Slots of the Missing List (R137). -/
abbrev missingSlots : Nat := 256
/-- Reader lines 0..15 (R142). -/
abbrev lines : Nat := 16
/-- Frames and reservations of one outbound queue (R145). -/
abbrev outboundSlots : Nat := 16
/-- Unanswered requests (R180). -/
abbrev unansweredRequests : Nat := 4
/-- Messages and reservations of the outgoing queue (R182). -/
abbrev outgoingSlots : Nat := 8
/-- Notice messages of the outgoing queue (R182). -/
abbrev noticeSlots : Nat := 4
/-- The largest body of a system-link frame (R191). -/
abbrev bodyBytes : Nat := 1024

/-! ## Fixed thresholds and durations -/

/-- The fail threshold, fixed (R171, R184). -/
abbrev failThreshold : Nat := 300
/-- The weak threshold, fixed (R171, R184). -/
abbrev weakThreshold : Nat := 600
/-- The tune timer of a LONG tune, in ms (R168). -/
abbrev longTuneMs : Nat := 3000
/-- The tune timer of a SHORT tune, in ms (R168). -/
abbrev shortTuneMs : Nat := 500
/-- The least interval between tuning polls, in ms (R148). -/
abbrev tuningPollMs : Nat := 100
/-- The least interval between IDENTs, in ms (R148). -/
abbrev identMs : Nat := 2000

/-! ## Free values -/

/-- R189 lets a notice raised during RESTART be queued before or after RESTART's reply and does not say
which: log entry 4. Applied to `State.draws`, a fresh value for every draw. -/
opaque restartNoticeFirst : Nat → Bool

/-- R182 does not say what the part clocks out after the last byte of a message when the transaction runs
on: log entry 5. Applied to `State.draws` and the position beyond the message. -/
opaque byteBeyondMessage : Nat → Nat → Byte

end Sys2Proof.Config
end

