-- ==== Sys2Proof/Machine/Bytes.lean ====
section
/-! DEFINITION. Byte order and the two check codes (R191, R192, R194): the most significant byte first, signed values in
two's complement. -/

namespace Sys2Proof.Machine

open Sys2Proof (Byte)

/-! ## Numbers to bytes -/

/-- One byte. -/
def u8 (n : Nat) : List Byte := [BitVec.ofNat 8 n]
/-- Two bytes, most significant first. -/
def u16 (n : Nat) : List Byte := [BitVec.ofNat 8 (n / 256), BitVec.ofNat 8 n]
/-- Four bytes, most significant first. -/
def u32 (n : Nat) : List Byte := u16 (n / 65536) ++ u16 n
/-- Eight bytes, most significant first. -/
def u64 (n : Nat) : List Byte := u32 (n / 4294967296) ++ u32 n
/-- Eight bytes of a signed value in two's complement. -/
def s64 (n : Int) : List Byte := u64 (n % 18446744073709551616).toNat
/-- Four bytes of a signed value in two's complement. -/
def s32 (n : Int) : List Byte := u32 (n % 4294967296).toNat
/-- A yes/no byte (R192). -/
def flag (b : Bool) : List Byte := u8 (if b then 1 else 0)
/-- An optional field: its presence byte, then the field when present (R192). -/
def opt {α : Type} (enc : α → List Byte) : Option α → List Byte
  | none => u8 0
  | some v => u8 1 ++ enc v
/-- A list: its count byte, then the items (R192). -/
def listOf {α : Type} (enc : α → List Byte) (l : List α) : List Byte := u8 l.length ++ (l.map enc).flatten

/-! ## Bytes to numbers -/

/-- The number whose bytes, most significant first, are `l`. -/
def numberOf (l : List Byte) : Nat := l.foldl (fun n b => n * 256 + b.toNat) 0

/-- The value in two's complement of an unsigned number below `m`. -/
def signedOf (m n : Nat) : Int := if 2 * n < m then (n : Int) else (n : Int) - (m : Int)

/-! ## Check codes (R194) -/

/-- The bits of a byte, most significant first. -/
def bitsOf (b : Byte) : List Bool := [7, 6, 5, 4, 3, 2, 1, 0].map b.getLsbD

/-- One bit into a check register of `w` bits: shift left one place, and combine with the generator when the bit
shifted out differs from the entering bit. -/
def crcBit {w : Nat} (generator register : BitVec w) (bit : Bool) : BitVec w :=
  if register.msb != bit then (register <<< 1) ^^^ generator else register <<< 1

/-- A check code over `l` from the starting register. -/
def crcOver {w : Nat} (generator start : BitVec w) (l : List Byte) : BitVec w :=
  l.foldl (fun r b => (bitsOf b).foldl (crcBit generator) r) start

/-- The CRC-16 of system-link frames. -/
def crc16 (l : List Byte) : BitVec 16 := crcOver 0x1021#16 0xFFFF#16 l

/-- The CRC-8 of reader-line frames. -/
def crc8 (l : List Byte) : BitVec 8 := crcOver 0x07#8 0x00#8 l

/-- A frame closed by its CRC-16, high byte first. -/
def withCrc16 (l : List Byte) : List Byte := l ++ u16 (crc16 l).toNat

/-- A frame closed by its CRC-8. -/
def withCrc8 (l : List Byte) : List Byte := l ++ [crc8 l]

end Sys2Proof.Machine
end

