-- ==== Sys2Proof/Syntax.lean ====
section
/-! DEFINITION. The commands of the part: one constructor of `Instr` for each row of
spec/opcode_table.json, with the row's operands.

A command of the system link (a request) carries the frame's tag and its body fields as the body walk of
R192 reads them: enumeration bytes, flag sets and slots are plain numbers, because a value outside its range
reaches the owning block, which refuses it under its own rule. The commands by which a block takes the next
entry of its own queue (a door TAP, a reconcile step) carry no operand: what they act on stands in the
state. The commands of one line, lane or head name it. -/

namespace Sys2Proof

/-- A UID field as it travels (R192): a length byte and ten bytes, of which the first `len` are the UID when `len` is 4, 7 or 10.
R192's sender makes the others zero; what they do when they are not is the model's choice at `uidOf` (log entry 28). -/
structure RawUid where
  len  : Nat
  data : List Byte
  deriving DecidableEq, Repr

/-- The fields of R2 as PERSON PUT carries them, in table order. -/
structure PersonFields where
  id          : Nat
  category    : Nat
  roles       : Nat
  zones       : Nat
  shift       : Option (Nat × Nat)
  stay        : Option (Nat × Nat)
  cabins      : List Nat
  folio       : Option Nat
  alcohol     : Nat
  childCap    : Option Nat
  chargeHold  : Nat
  gangwayHold : Nat
  excused     : Nat
  deriving DecidableEq, Repr

/-- The fields of a package (R49) as FOLIO PUT carries them. -/
structure PackageFields where
  kind  : Nat
  cap   : Nat
  units : Nat
  deriving DecidableEq, Repr

/-- The fields of FOLIO PUT after its slot (R54): `through` is the posted-through number K. -/
structure FolioFields where
  id      : Nat
  state   : Nat
  limit   : Nat
  package : Option PackageFields
  posted  : Int
  through : Nat
  deriving DecidableEq, Repr

/-- The fields of HEAD PUT after its line and address (R165). -/
structure HeadFields where
  cls           : Nat
  bound         : Nat
  neighbourhood : Nat
  group         : Option Nat
  deriving DecidableEq, Repr

/-- The commands of the GC-3280, in the order of spec/opcode_table.json. -/
inductive Instr where
  -- the system link, the clock, parameters and notices (Chapter 10)
  | powerOnReset
  | requestFrameTaken (bytes : List Byte)
  | truncatedFrame (bytes : List Byte)
  | readTransaction (count : Nat)
  | noticeQueued
  | shipClockTick
  | clockSet (tag : Byte) (time : Nat)
  | clockGet (tag : Byte)
  | paramSet (tag : Byte) (ident : Nat) (value : Int)
  | paramGet (tag : Byte) (ident : Option Nat)
  | noticeMask (tag : Byte) (classes : Nat)
  | noticeClear (tag : Byte) (classes : Nat)
  | statusGet (tag : Byte)
  | restart (tag : Byte)
  -- persons and cards (Chapter 1)
  | personPut (tag : Byte) (slot : Nat) (fields : PersonFields)
  | personGet (tag : Byte) (selector value : Nat)
  | personDrop (tag : Byte) (slot : Nat)
  | cardEnrol (tag : Byte) (uid : RawUid) (slot issue state : Nat)
  | cardRevoke (tag : Byte) (uid : RawUid) (issue : Nat)
  | cardSuspend (tag : Byte) (uid : RawUid) (issue : Nat)
  | cardResume (tag : Byte) (uid : RawUid) (issue : Nat)
  | cardFind (tag : Byte) (uid : RawUid)
  | cardPurge (tag : Byte)
  -- cabins (Chapter 2)
  | cabinPut (tag : Byte) (number zone : Nat)
  | cabinGet (tag : Byte) (number : Nat)
  | cabinDrop (tag : Byte) (number : Nat)
  | privacySet (tag : Byte) (number value : Nat)
  | indicatorOnRoom (line : Nat)
  -- folios, venues and the journal (Chapters 3 and 5)
  | folioPut (tag : Byte) (slot : Nat) (fields : FolioFields)
  | reconcileScanStep
  | folioLimit (tag : Byte) (slot limit : Nat)
  | folioState (tag : Byte) (slot state : Nat)
  | folioGet (tag : Byte) (selector value : Nat)
  | folioFree (tag : Byte) (slot : Nat)
  | venuePut (tag : Byte) (venue rate eligible : Nat)
  | upstreamSet (tag : Byte) (value : Nat)
  | journalBase (tag : Byte) (number : Nat)
  | chargesRead (tag : Byte) (start count : Nat)
  | chargesRetire (tag : Byte) (number : Nat)
  -- lanes, banks, census and sweeper (Chapters 6 and 7)
  | lanePut (tag : Byte) (lane direction mode : Nat)
  | laneOpen (tag : Byte) (lane : Nat)
  | laneHold (tag : Byte) (lane : Nat)
  | laneRelease (tag : Byte) (lane : Nat)
  | laneClose (tag : Byte) (lane : Nat)
  | laneGet (tag : Byte) (lane : Nat)
  | bankFlush (tag : Byte)
  | crossingsRead (tag : Byte) (start count : Nat)
  | bankRelease (tag : Byte) (bank : Nat)
  | crossingBase (tag : Byte) (number : Nat)
  | presenceSet (tag : Byte) (slot presence : Nat)
  | censusGet (tag : Byte)
  | allaboardStart (tag : Byte)
  | sweepStep
  | missingRead (tag : Byte) (start count : Nat)
  -- lines and heads (Chapters 8 and 9)
  | lineStart (tag : Byte) (line : Nat)
  | lineStop (tag : Byte) (line : Nat)
  | lineGet (tag : Byte) (line : Nat)
  | headPut (tag : Byte) (line address : Nat) (fields : HeadFields)
  | headDrop (tag : Byte) (line address : Nat)
  | headGet (tag : Byte) (line address : Nat)
  | headTune (tag : Byte) (line address kind : Nat)
  | settingsPush (tag : Byte) (line dest : Nat) (page : List Byte) (map : Option (List Byte))
  | settingsPushEnqueue (line : Nat)
  | turnStart (line : Nat)
  | groupFrameSent (line : Nat)
  | answerReceived (line : Nat) (bytes : List Byte)
  | answerTimeout (line : Nat)
  -- the job units take their intake entries (Chapters 2, 4, 5 and 6)
  | doorTap
  | opened
  | notOpened
  | privacyOn
  | privacyOff
  | deadboltOn
  | deadboltOff
  | purchaseTap
  | confirm
  | void
  | holdExpiry (line address : Nat)
  | laneTap
  | passed
  | officerAccept
  | officerReject
  | pendingTimeout (lane : Nat)
  | officerWaitExpiry (lane : Nat)
  -- the Head Manager's own steps (Chapter 9)
  | tuneStart
  | tuneFrameEnqueue (line address : Nat)
  | tuneTimeout (line address : Nat)
  | faultRetryExpiry (line address : Nat)
  | headDueForTune (line address : Nat)
  | tuneOverdue (line address : Nat)
  deriving DecidableEq, Repr

end Sys2Proof
end

