-- ==== Sys2Proof/Decode.lean ====
section
/-! DEFINITION. From a request frame's body to the command it carries (R192), by a table of rows that reads like the
kind-code table of R191, and the word decoding the host asks for. Decoding is total: a kind code that names no request,
and a body whose walk does not fit, are told apart by name. -/

namespace Sys2Proof

open Sys2Proof.Machine (numberOf signedOf)

/-! ## The body walk (R192) -/

/-- A walk of a body field by field: it reads from the bytes left, or fails (BAD_LENGTH). -/
abbrev Walk := StateT (List Byte) Option

/-- The next `n` bytes. -/
def walkBytes (n : Nat) : Walk (List Byte) := fun l => if n ≤ l.length then some (l.take n, l.drop n) else none

/-- The next byte. -/
def walkByte : Walk Byte := do return (← walkBytes 1).headD 0

/-- A number of `n` bytes, most significant first. -/
def walkNat (n : Nat) : Walk Nat := do return numberOf (← walkBytes n)

/-- A signed number of `n` bytes. -/
def walkInt (n : Nat) : Walk Int := do return signedOf (256 ^ n) (numberOf (← walkBytes n))

/-- An optional field: a presence byte of 0 or 1, then the field when it is 1. -/
def walkOpt {α : Type} (w : Walk α) : Walk (Option α) := do
  match ← walkNat 1 with
  | 0 => return none
  | 1 => return some (← w)
  | _ => failure

/-- `n` fields of one kind. -/
def walkMany {α : Type} (w : Walk α) : Nat → Walk (List α)
  | 0 => return []
  | n + 1 => do
    let x ← w
    return x :: (← walkMany w n)

/-- A list: a count byte of at most `most`, then the items. -/
def walkList {α : Type} (most : Nat) (w : Walk α) : Walk (List α) := do
  let n ← walkNat 1
  if n ≤ most then walkMany w n else failure

/-- Two numbers, one after the other. -/
def walkPair (n : Nat) : Walk (Nat × Nat) := do return (← walkNat n, ← walkNat n)

/-- A UID: a length byte and ten bytes. -/
def walkUid : Walk RawUid := do return ⟨← walkNat 1, ← walkBytes 10⟩

/-- The fields of PERSON PUT after the slot, in the order of R2. -/
def walkPerson : Walk PersonFields := do
  return { id := ← walkNat 4, category := ← walkNat 1, roles := ← walkNat 1, zones := ← walkNat 4,
           shift := ← walkOpt (walkPair 4), stay := ← walkOpt (walkPair 4), cabins := ← walkList 2 (walkNat 2),
           folio := ← walkOpt (walkNat 2), alcohol := ← walkNat 1, childCap := ← walkOpt (walkNat 4),
           chargeHold := ← walkNat 1, gangwayHold := ← walkNat 1, excused := ← walkNat 1 }

/-- The fields of a package, in the order of R49. -/
def walkPackage : Walk PackageFields := do return ⟨← walkNat 1, ← walkNat 4, ← walkNat 1⟩

/-- The fields of FOLIO PUT after the slot, in the order of R54. -/
def walkFolio : Walk FolioFields := do
  return { id := ← walkNat 4, state := ← walkNat 1, limit := ← walkNat 4, package := ← walkOpt walkPackage,
           posted := ← walkInt 8, through := ← walkNat 4 }

/-- The fields of HEAD PUT after line and address, in the order of R165. -/
def walkHead : Walk HeadFields := do
  return { cls := ← walkNat 1, bound := ← walkNat 2, neighbourhood := ← walkNat 1, group := ← walkOpt (walkNat 1) }

/-- The kind codes of R191 with the walk of each request's body: the fields its rule names, in the rule's order. DEDUCED (log entry
13): the count of a READ takes the two bytes of a count, and the page of SETTINGS PUSH may hold any number of bytes its count byte
can give, so that a page of none or of more than 96 comes to R177's OUT_OF_RANGE and is no BAD_LENGTH. The N of JOURNAL BASE and of
CROSSING BASE is walked as a charge or crossing number, 4 bytes, and not as R192's 8-byte next charge number, so that no frame carries an
N above 4,294,967,295 (DEDUCED, log entry 13). -/
def requestRows (tag : Byte) : List (Nat × Walk Instr) := [
  (0x01, do return .clockSet tag (← walkNat 4)),
  (0x02, return .clockGet tag),
  (0x03, do return .paramSet tag (← walkNat 1) (← walkInt 4)),
  (0x04, do return .paramGet tag (← walkOpt (walkNat 1))),
  (0x05, do return .noticeMask tag (← walkNat 2)),
  (0x06, do return .noticeClear tag (← walkNat 2)),
  (0x07, return .statusGet tag),
  (0x08, return .restart tag)] ++ [
  (0x10, do return .personPut tag (← walkNat 2) (← walkPerson)),
  (0x11, do return .personGet tag (← walkNat 1) (← walkNat 4)),
  (0x12, do return .personDrop tag (← walkNat 2)),
  (0x13, do return .cardEnrol tag (← walkUid) (← walkNat 2) (← walkNat 1) (← walkNat 1)),
  (0x14, do return .cardRevoke tag (← walkUid) (← walkNat 1)),
  (0x15, do return .cardSuspend tag (← walkUid) (← walkNat 1)),
  (0x16, do return .cardResume tag (← walkUid) (← walkNat 1)),
  (0x17, do return .cardFind tag (← walkUid)),
  (0x18, return .cardPurge tag)] ++ [
  (0x20, do return .cabinPut tag (← walkNat 2) (← walkNat 1)),
  (0x21, do return .cabinGet tag (← walkNat 2)),
  (0x22, do return .cabinDrop tag (← walkNat 2)),
  (0x23, do return .privacySet tag (← walkNat 2) (← walkNat 1))] ++ [
  (0x30, do return .folioPut tag (← walkNat 2) (← walkFolio)),
  (0x31, do return .folioLimit tag (← walkNat 2) (← walkNat 4)),
  (0x32, do return .folioState tag (← walkNat 2) (← walkNat 1)),
  (0x33, do return .folioGet tag (← walkNat 1) (← walkNat 4)),
  (0x34, do return .folioFree tag (← walkNat 2)),
  (0x35, do return .venuePut tag (← walkNat 1) (← walkNat 2) (← walkNat 1)),
  (0x36, do return .upstreamSet tag (← walkNat 1)),
  (0x37, do return .journalBase tag (← walkNat 4)),
  (0x38, do return .chargesRead tag (← walkNat 4) (← walkNat 2)),
  (0x39, do return .chargesRetire tag (← walkNat 4))] ++ [
  (0x40, do return .lanePut tag (← walkNat 1) (← walkNat 1) (← walkNat 1)),
  (0x41, do return .laneOpen tag (← walkNat 1)),
  (0x42, do return .laneHold tag (← walkNat 1)),
  (0x43, do return .laneRelease tag (← walkNat 1)),
  (0x44, do return .laneClose tag (← walkNat 1)),
  (0x45, do return .laneGet tag (← walkNat 1)),
  (0x46, return .bankFlush tag),
  (0x47, do return .crossingsRead tag (← walkNat 2) (← walkNat 2)),
  (0x48, do return .bankRelease tag (← walkNat 1)),
  (0x49, do return .crossingBase tag (← walkNat 4)),
  (0x4A, do return .presenceSet tag (← walkNat 2) (← walkNat 1)),
  (0x4B, return .censusGet tag),
  (0x4C, return .allaboardStart tag),
  (0x4D, do return .missingRead tag (← walkNat 1) (← walkNat 2))] ++ [
  (0x50, do return .lineStart tag (← walkNat 1)),
  (0x51, do return .lineStop tag (← walkNat 1)),
  (0x52, do return .lineGet tag (← walkNat 1)),
  (0x53, do return .headPut tag (← walkNat 1) (← walkNat 1) (← walkHead)),
  (0x54, do return .headDrop tag (← walkNat 1) (← walkNat 1)),
  (0x55, do return .headGet tag (← walkNat 1) (← walkNat 1)),
  (0x56, do return .headTune tag (← walkNat 1) (← walkNat 1) (← walkNat 1)),
  (0x57, do return .settingsPush tag (← walkNat 1) (← walkNat 1) (← walkList 255 walkByte)
                          (← walkOpt (walkBytes 25)))]

/-- What a frame's kind code and body spell. -/
inductive Decoded where
  | request (c : Instr)
  | unknownKind
  | badLength
  deriving DecidableEq, Repr

/-- Decode a request by its kind code, tag and body (R180 cases 2 to 4): the walk must end after exactly the body. -/
def decodeRequest (kind : Nat) (tag : Byte) (body : List Byte) : Decoded :=
  match (requestRows tag).find? (fun row => row.1 == kind) with
  | none => .unknownKind
  | some (_, walk) =>
    match walk body with
    | some (c, []) => .request c
    | _ => .badLength

/-- The command a table word spells: no row of spec/opcode_table.json has bits, so none. -/
def decodeTableWord (_nbits _w : Nat) : Option Instr := none

end Sys2Proof
end

