-- ==== Sys2Proof/Machine/Table.lean ====
section
/-! DEFINITION. The tables of the part: a table holds the records of its occupied places, keyed by the
place's number, in one canonical form (keys strictly rising), so that equal tables are equal data. -/

namespace Sys2Proof.Machine

/-- A table of the part: the occupied places with their records, lowest place first. -/
structure Table (α : Type) where
  cells : List (Nat × α)
  deriving DecidableEq, Repr

variable {α : Type}

/-- The table with no occupied place. -/
def Table.empty : Table α := ⟨[]⟩

/-- The first record kept under `k`. -/
def Table.lookupCells : List (Nat × α) → Nat → Option α
  | [], _ => none
  | (k', v) :: rest, k => if k' = k then some v else Table.lookupCells rest k

/-- Put `v` under `k`, keeping the keys rising and every other place as it is. -/
def Table.insertCells : List (Nat × α) → Nat → α → List (Nat × α)
  | [], k, v => [(k, v)]
  | (k', v') :: rest, k, v =>
    if k < k' then (k, v) :: (k', v') :: rest
    else if k' = k then (k, v) :: rest
    else (k', v') :: Table.insertCells rest k v

/-- The record of place `k`, none when the place is empty. -/
def Table.get (t : Table α) (k : Nat) : Option α := Table.lookupCells t.cells k

/-- Fill or refill place `k`. -/
def Table.set (t : Table α) (k : Nat) (v : α) : Table α := ⟨Table.insertCells t.cells k v⟩

/-- Empty place `k`. -/
def Table.erase (t : Table α) (k : Nat) : Table α := ⟨t.cells.filter (fun c => c.1 ≠ k)⟩

/-- Change the record of place `k` when it is occupied. -/
def Table.modify (t : Table α) (k : Nat) (f : α → α) : Table α :=
  match t.get k with
  | some v => t.set k (f v)
  | none => t

/-- Change every record. -/
def Table.map (t : Table α) (f : Nat → α → α) : Table α := ⟨t.cells.map (fun c => (c.1, f c.1 c.2))⟩

/-- Keep the records that pass `p`. -/
def Table.keep (t : Table α) (p : Nat → α → Bool) : Table α := ⟨t.cells.filter (fun c => p c.1 c.2)⟩

/-- The occupied places, lowest first. -/
def Table.keys (t : Table α) : List Nat := t.cells.map (·.1)

/-- The number of occupied places. -/
def Table.size (t : Table α) : Nat := t.cells.length

/-- The lowest occupied place whose record passes `p`. -/
def Table.findKey (t : Table α) (p : α → Bool) : Option Nat := (t.cells.find? (fun c => p c.2)).map (·.1)

/-- The number of occupied places whose record passes `p`. -/
def Table.count (t : Table α) (p : α → Bool) : Nat := (t.cells.filter (fun c => p c.2)).length

/-- The lowest empty place from `from` on among the first `fuel` places. -/
def Table.lowestEmptyFrom (t : Table α) : Nat → Nat → Option Nat
  | 0, _ => none
  | fuel + 1, k => match t.get k with
    | none => some k
    | some _ => t.lowestEmptyFrom fuel (k + 1)

/-- The lowest empty place below `bound`. -/
def Table.lowestEmpty (t : Table α) (bound : Nat) : Option Nat := t.lowestEmptyFrom bound 0

/-- Keys strictly rising from above `low`. -/
def Table.risingFrom : Nat → List (Nat × α) → Bool
  | _, [] => true
  | low, (k, _) :: rest => decide (low ≤ k) && Table.risingFrom (k + 1) rest

/-- The canonical form: the keys rise strictly. -/
def Table.wf (t : Table α) : Bool := Table.risingFrom 0 t.cells

/-- A table of the places 0, 1, … `n - 1`, each holding `v`. -/
def Table.full (n : Nat) (v : α) : Table α := ⟨(List.range n).map (fun k => (k, v))⟩

end Sys2Proof.Machine
end

