-- ==== Sys2Proof/Machine/State.lean ====
section
/-! DEFINITION. Every record and collection the manual gives the part, as plain data, and the state after
power-on reset. Enumeration values carry the manual's own names, listed in the manual's order, so that an
enumeration's constructor index is its code (R192). Fields that are the model's own, and not the manual's,
say so. -/

namespace Sys2Proof.Machine

open Sys2Proof (Byte Instr)

/-! ## Outcomes -/

/-- No command of the part ends in a fault: the manual gives each of its steps an effect. -/
inductive Fault where
  deriving DecidableEq, Repr

/-- The refusals of the model. -/
inductive Refusal where
  /-- Raised by an arm of `exec` whose command has no meaning yet; safe (the model stops). No arm raises it. -/
  | notModelled (mnemonic : String)
  deriving DecidableEq, Repr

/-! ## Persons and cards (Chapter 1) -/

/-- A person's class (R2). -/
inductive Category where | GUEST | CREW | VISITOR
  deriving DecidableEq, Repr

/-- A person's gangway state (R3). -/
inductive Presence where | UNKNOWN | ABOARD | ASHORE
  deriving DecidableEq, Repr

/-- The identity and access fields of a person record (R2). -/
structure Identity where
  id            : Nat
  category      : Category
  service       : Bool
  emergency     : Bool
  zones         : BitVec 32
  shift         : Option (Nat × Nat)
  stay          : Option (Nat × Nat)
  cabins        : List Nat
  folio         : Option Nat
  alcohol       : Bool
  childCap      : Option Nat
  chargeHold    : Bool
  gangwayHold   : Bool
  excused       : Bool
  deriving DecidableEq, Repr

/-- A lazy daily counter: its stored value and the folio day the value belongs to (R5). -/
structure DayCounter where
  value : Nat
  day   : Nat
  deriving DecidableEq, Repr

/-- A person record: the fields of R2, then the running fields of R3. -/
structure Person where
  ident         : Identity
  presence      : Presence
  lastCrossing  : Option Nat
  childSpent    : DayCounter
  childReserved : Nat
  unitsUsed     : DayCounter
  unitsReserved : Nat
  deriving DecidableEq, Repr

/-- The state of a card entry (R12). -/
inductive CardState where | ACTIVE | SUSPENDED | REVOKED
  deriving DecidableEq, Repr

/-- A UID: its bytes, first byte first; its length is part of it (R12). -/
abbrev Uid := List Byte

/-- A card entry (R12). -/
structure CardEntry where
  uid   : Uid
  slot  : Nat
  issue : Nat
  state : CardState
  deriving DecidableEq, Repr

/-! ## Cabins and last grants (Chapter 2) -/

/-- A line and an address on it. -/
structure HeadId where
  line    : Nat
  address : Nat
  deriving DecidableEq, Repr

/-- A cabin's privacy (R24). -/
inductive Privacy where | OPEN | PRIVACY
  deriving DecidableEq, Repr

/-- What the door head last reported of the inside bolt (R30). -/
inductive Deadbolt where | UNKNOWN | RELEASED | ENGAGED
  deriving DecidableEq, Repr

/-- The kind of a GRANT (R32). -/
inductive GrantKind where | KEYED | SERVICE | EMERGENCY
  deriving DecidableEq, Repr

/-- The kind of an audit record (R31). -/
inductive AuditKind where | KEYED | SERVICE | EMERGENCY | EGRESS | UNMATCHED
  deriving DecidableEq, Repr

/-- An audit record (R31). -/
structure AuditRecord where
  kind : AuditKind
  slot : Option Nat
  time : Nat
  deriving DecidableEq, Repr

/-- A cabin record (R24). The audit ring is kept newest first, as CABIN GET returns it. -/
structure Cabin where
  number    : Nat
  zone      : Nat
  doorHead  : Option HeadId
  occupants : List Nat
  aboard    : Nat
  privacy   : Privacy
  deadbolt  : Deadbolt
  owed      : Bool
  ring      : List AuditRecord
  deriving DecidableEq, Repr

/-- The last grant of a door head (R35). -/
structure Grant where
  tag  : Nat
  slot : Nat
  kind : GrantKind
  deriving DecidableEq, Repr

/-! ## Folios, venues and the charge journal (Chapters 3 to 5) -/

/-- The state of a folio (R47). -/
inductive FolioState where | OPEN | HELD | CLOSED
  deriving DecidableEq, Repr

/-- The kind of a package (R49). -/
inductive PackageKind where | SOFT | FULL
  deriving DecidableEq, Repr

/-- A package (R49). -/
structure Package where
  kind  : PackageKind
  cap   : Nat
  units : Nat
  deriving DecidableEq, Repr

/-- A folio record (R47): `through` is posted-through. -/
structure Folio where
  id           : Nat
  state        : FolioState
  limit        : Nat
  package      : Option Package
  posted       : Int
  through      : Nat
  unposted     : Nat
  held         : Nat
  offlineSpent : Nat
  offlineEpoch : Nat
  deriving DecidableEq, Repr

/-- A venue record (R63); the rate is in basis points. -/
structure Venue where
  rate     : Nat
  eligible : Bool
  deriving DecidableEq, Repr

/-- The ship's link to shore, as the host reports it (R52). -/
inductive Upstream where | ONLINE | OFFLINE
  deriving DecidableEq, Repr

/-- The fields a posting installs at its end (R56). -/
structure Staged where
  state   : FolioState
  limit   : Nat
  package : Option Package
  posted  : Int
  through : Nat
  deriving DecidableEq, Repr

/-- The Reconcile Scanner while it is SCANNING (R56). -/
structure Scan where
  slot   : Nat
  id     : Nat
  staged : Staged
  last   : Nat
  cursor : Nat
  sum    : Nat
  deriving DecidableEq, Repr

/-- A running timer: the elapsed-time count at its start and its duration in ms. -/
structure Timer where
  start    : Nat
  duration : Nat
  deriving DecidableEq, Repr

/-- A hold (R82): the approval figures of R80, the confirming field and the hold timer of R83.
`offline` is the offline amount with its epoch; `day` is the folio day at AUTH. -/
structure Hold where
  tag        : Nat
  slot       : Nat
  personId   : Nat
  folio      : Nat
  folioId    : Nat
  venue      : Nat
  gross      : Nat
  covered    : Nat
  gratuity   : Nat
  total      : Nat
  units      : Nat
  child      : Nat
  offline    : Option (Nat × Nat)
  day        : Nat
  time       : Nat
  conflict   : Bool
  confirming : Bool
  timer      : Timer
  deriving DecidableEq, Repr

/-- An entry of the Charge Journal (R94). DEDUCED (log entry 29): R94's table lists no child amount and R91 says that the entry records
it, so `child` is state that no reply carries. -/
structure JournalEntry where
  number   : Nat
  time     : Nat
  folio    : Nat
  folioId  : Nat
  slot     : Nat
  personId : Nat
  venue    : Nat
  gross    : Nat
  covered  : Nat
  gratuity : Nat
  total    : Nat
  units    : Nat
  child    : Nat
  offline  : Bool
  conflict : Bool
  lateDay  : Bool
  deriving DecidableEq, Repr

/-- An entry of the deferred list (R92); `carried` is the hold once it is carried (R89). -/
structure Deferred where
  head    : HeadId
  tag     : Nat
  carried : Option Hold
  deriving DecidableEq, Repr

/-! ## Lanes, banks, census and sweeper (Chapters 6 and 7) -/

/-- A lane's direction (R102). -/
inductive Direction where | INBOUND | OUTBOUND
  deriving DecidableEq, Repr

/-- A lane's commit mode (R102). -/
inductive CommitMode where | ON_PASS | ON_NEXT
  deriving DecidableEq, Repr

/-- A lane's state (R103). -/
inductive LaneState where | CLOSED | OPEN | HELD
  deriving DecidableEq, Repr

/-- What a pending crossing waits for (R104). -/
inductive Stage where | AWAIT_PASS | AWAIT_NEXT | AWAIT_OFFICER
  deriving DecidableEq, Repr

/-- A pending crossing (R104) with its one running timer (R118). -/
structure Pending where
  slot     : Nat
  tag      : Nat
  start    : Nat
  stage    : Stage
  mismatch : Bool
  timer    : Timer
  deriving DecidableEq, Repr

/-- A lane record (R102). -/
structure Lane where
  direction : Direction
  mode      : CommitMode
  state     : LaneState
  holdHost  : Bool
  holdBank  : Bool
  head      : Option HeadId
  pending   : Option Pending
  committed : Nat
  refused   : Nat
  abandoned : Nat
  tailgates : Nat
  deriving DecidableEq, Repr

/-- The power-on values of a lane (R102). -/
def Lane.powerOn : Lane where
  direction := .INBOUND
  mode      := .ON_PASS
  state     := .CLOSED
  holdHost  := false
  holdBank  := false
  head      := none
  pending   := none
  committed := 0
  refused   := 0
  abandoned := 0
  tailgates := 0

/-- What committed a crossing (R122), or MANUAL for PRESENCE SET (R135). -/
inductive Cause where | BY_PASS | BY_NEXT | BY_TIMEOUT | BY_CLOSE | MANUAL
  deriving DecidableEq, Repr

/-- A crossing record (R122); `lane` is none for lane MANUAL (R135). -/
structure Crossing where
  number    : Nat
  time      : Nat
  slot      : Nat
  personId  : Nat
  lane      : Option Nat
  direction : Direction
  before    : Presence
  after     : Presence
  mismatch  : Bool
  officer   : Bool
  cause     : Cause
  deriving DecidableEq, Repr

/-- The state of a crossing bank (R125). -/
inductive BankState where | EMPTY | FILLING | READABLE
  deriving DecidableEq, Repr

/-- A crossing bank, its records in commit order, the oldest first (R125). -/
structure Bank where
  state   : BankState
  records : List Crossing
  deriving DecidableEq, Repr

/-- The three counters of one category (R133). -/
structure Buckets where
  aboard  : Nat
  ashore  : Nat
  unknown : Nat
  deriving DecidableEq, Repr

/-- The census (R133). -/
structure Census where
  guest          : Buckets
  crew           : Buckets
  visitor        : Buckets
  missing        : Nat
  visitorsAboard : Nat
  deriving DecidableEq, Repr

/-- The state of the All-Aboard Sweeper (R137). -/
inductive SweepState where | IDLE | SWEEPING | DONE
  deriving DecidableEq, Repr

/-- The All-Aboard Sweeper with its Missing List (R137). -/
structure Sweeper where
  state    : SweepState
  cursor   : Nat
  missing  : List Nat
  overflow : Bool
  deriving DecidableEq, Repr

/-! ## Reader-line frames and lines (Chapter 8) -/

/-- The class of a head (R163). -/
inductive HeadClass where | CABIN_DOOR | VENUE_TERMINAL | GANGWAY_LANE
  deriving DecidableEq, Repr

/-- The kind of a tune (R163). -/
inductive TuneKind where | LONG | SHORT
  deriving DecidableEq, Repr

/-- The codes of the door denials (R33). -/
inductive Denial where
  | UNKNOWN_CARD | REVOKED | SUSPENDED | NOT_PERMITTED | DEADBOLT | PRIVACY | WINDOW | PRESENCE | CLOCK_UNSET
  deriving DecidableEq, Repr

/-- The refusals of a terminal TAP (R67). -/
inductive PurchaseRefusal where
  | CLOCK_UNSET | UNKNOWN_CARD | SUSPENDED | REVOKED | NO_FOLIO | PERSON_HOLD | PRESENCE | FOLIO_STATE | TRY_AGAIN
  | AMOUNT_RANGE | AGE | JOURNAL_FULL | CHILD_CAP | OFFLINE_CAP | LIMIT
  deriving DecidableEq, Repr

/-- The refusals of a lane TAP (R113). -/
inductive LaneRefusal where
  | CLOCK_UNSET | LANE_CLOSED | LANE_HELD | UNKNOWN_CARD | SUSPENDED | REVOKED | HOLD | IN_PROGRESS | LANE_BUSY
  deriving DecidableEq, Repr

/-- A door decision (R32). -/
inductive DoorDecision where
  | GRANT (kind : GrantKind)
  | DENY (code : Denial)
  deriving DecidableEq, Repr

/-- A purchase decision, or the answer to a CONFIRM (R80, R90). -/
inductive PurchaseDecision where
  | APPROVE (gross covered gratuity total : Nat)
  | REFUSE (code : PurchaseRefusal)
  | CONFIRMED (number : Nat)
  | LATE
  deriving DecidableEq, Repr

/-- A lane decision (R110). -/
inductive LaneDecision where
  | PASS (direction : Direction)
  | AWAIT_OFFICER
  | REFUSE (code : LaneRefusal)
  deriving DecidableEq, Repr

/-- What a queued frame carries (R161). `indicator` also names the cabin it was enqueued for, which does not
travel: the DDU needs it when the frame's turn fails (R29). -/
inductive FrameContent where
  | door (tag : Nat) (decision : DoorDecision)
  | indicator (cabin : Nat) (privacy : Privacy)
  | purchase (tag : Nat) (decision : PurchaseDecision)
  | lane (tag : Nat) (decision : LaneDecision)
  | tune (kind : TuneKind)
  | segment (index : Nat) (more : Bool) (map : Option (List Byte)) (bytes : List Byte)
  deriving DecidableEq, Repr

/-- A frame of an outbound queue: a head 1..200, a group 224..239 or all heads 255, and the contents (R145, R149). -/
structure OutFrame where
  dest    : Nat
  content : FrameContent
  deriving DecidableEq, Repr

/-- The frame of a turn: a poll, or the oldest frame of the outbound queue (R147). -/
inductive TurnFrame where
  | eventPoll (last : Option Nat)
  | tuningPoll
  | ident
  | queued (frame : OutFrame)
  deriving DecidableEq, Repr

/-- The turn in flight (R142): `retry` is the second attempt, `holds` the class whose intake reservation an event
poll holds beside its outbound reservation, `dropped` whether HEAD DROP has taken the head away (R166). -/
structure Turn where
  frame   : TurnFrame
  target  : Nat
  retry   : Bool
  holds   : Option HeadClass
  dropped : Bool
  deriving DecidableEq, Repr

/-- The eight counters of a line (R152). -/
structure LineCounters where
  turns      : Nat
  retries    : Nat
  failed     : Nat
  crcErrors  : Nat
  badAnswers : Nat
  duplicates : Nat
  lost       : Nat
  foreign    : Nat
  deriving DecidableEq, Repr

/-- All eight counters at 0. -/
def LineCounters.zero : LineCounters := ⟨0, 0, 0, 0, 0, 0, 0, 0⟩

/-- A reader line's state (R142). -/
inductive LineState where | DOWN | RUNNING
  deriving DecidableEq, Repr

/-- A settings push that waits on a line, or whose segments are queued and not all sent or answered (R177):
`answered` counts the segments answered or sent. -/
structure Push where
  dest     : Nat
  page     : List Byte
  map      : Option (List Byte)
  queued   : Bool
  answered : Nat
  deriving DecidableEq, Repr

/-- A reader line (R142) with the one push it may hold (R177). The frame of a turn in flight stays the oldest of
the queue until its turn ends (R145). -/
structure Line where
  state    : LineState
  queue    : List OutFrame
  reserved : Nat
  cursor   : Nat
  turn     : Option Turn
  counters : LineCounters
  push     : Option Push
  deriving DecidableEq, Repr

/-- The power-on values of a line (R142). -/
def Line.powerOn : Line where
  state    := .DOWN
  queue    := []
  reserved := 0
  cursor   := 1
  turn     := none
  counters := LineCounters.zero
  push     := none

/-- A purchase line as the terminal sent it (R65, R193): class code, unit price and quantity, unchecked. -/
structure RawLine where
  cls   : Nat
  price : Nat
  qty   : Nat
  deriving DecidableEq, Repr

/-- The events that wait in an intake queue (R161). -/
inductive Event where
  | doorTap (uid : RawUid) (tag : Nat)
  | opened (tag : Option Nat)
  | notOpened (tag : Nat)
  | privacyOn
  | privacyOff
  | deadboltOn
  | deadboltOff
  | purchaseTap (uid : RawUid) (tag : Nat) (lines : List RawLine)
  | confirm (tag : Nat)
  | void (tag : Nat)
  | laneTap (uid : RawUid) (tag : Nat)
  | passed
  | officerAccept
  | officerReject
  deriving DecidableEq, Repr

/-- An intake entry (R157). -/
structure Entry where
  head     : HeadId
  event    : Event
  arrival  : Nat
  held     : Bool
  departed : Bool
  deriving DecidableEq, Repr

/-- An intake queue, the oldest entry first, with its reservations (R154, R157). -/
structure Intake where
  entries  : List Entry
  reserved : Nat
  deriving DecidableEq, Repr

/-! ## Heads (Chapter 9) -/

/-- The state of a head (R163). -/
inductive HeadState where | IDLE | PROBING | TUNING | ONLINE | FAULTED
  deriving DecidableEq, Repr

/-- Why a head is or was FAULTED (R172). -/
inductive FaultReason where | NO_ANSWER | CLASS_MISMATCH | TUNE_TIMEOUT | FIELD_FAILED | HEAD_REPORTED
  deriving DecidableEq, Repr

/-- The quality of a head's tune (R163). -/
inductive Quality where | UNTUNED | GOOD | WEAK
  deriving DecidableEq, Repr

/-- The outcome of the last settings push to a head (R163). -/
inductive SettingsOutcome where
  | NONE | PENDING | APPLIED
  | FAILED (index : Nat)
  deriving DecidableEq, Repr

/-- A head record (R163). The last six fields are state the manual gives without listing it in R163: the two timers
(R168, R172), the TUNE frame waiting for a slot (R168), the ends of the last turn and IDENT (R148), and whether the
head has joined the heads waiting for a SHORT tune (R173). -/
structure Head where
  cls           : HeadClass
  bound         : Nat
  neighbourhood : Nat
  group         : Option Nat
  state         : HeadState
  faultReason   : Option FaultReason
  tuneKind      : TuneKind
  field         : Option Nat
  quality       : Quality
  lastTune      : Option Nat
  nextDue       : Option Nat
  tuneWait      : Option Nat
  missed        : Nat
  lastSeq       : Option Nat
  notified      : Bool
  settings      : SettingsOutcome
  lastGrant     : Option Grant
  hold          : Option Hold
  tuneTimer     : Option Timer
  retryTimer    : Option Timer
  frameWaits    : Bool
  lastTurnEnd   : Option Nat
  lastIdentEnd  : Option Nat
  due           : Bool
  deriving DecidableEq, Repr

/-! ## The system link, parameters and notices (Chapter 10) -/

/-- The state of the ship clock (R183). -/
inductive ClockState where | UNSET | SET
  deriving DecidableEq, Repr

/-- The ship clock (R183). `phase` is the model's own: the ms of elapsed time since the last whole second of a SET
clock. -/
structure Clock where
  state : ClockState
  time  : Nat
  phase : Nat
  deriving DecidableEq, Repr

/-- The door presence policy (R34). -/
inductive DoorPolicy where | GRANT_AND_NOTIFY | DENY
  deriving DecidableEq, Repr

/-- The charge presence policy (R68). -/
inductive ChargePolicy where | ALLOW_AND_NOTIFY | REFUSE
  deriving DecidableEq, Repr

/-- The bank policy (R127). -/
inductive BankPolicy where | FILL_TO_CAPACITY | HOLD_AT_THRESHOLD
  deriving DecidableEq, Repr

/-- The parameter store (R184), in its units: ms, s or min as the table of R184 gives them. -/
structure Params where
  missedTurnLimit  : Nat
  doorWindow       : Nat
  terminalWindow   : Nat
  laneWindow       : Nat
  faultRetry       : Nat
  shortTune        : Nat
  tuningPerLine    : Nat
  refLow           : Nat
  refHigh          : Nat
  bucketA          : Nat
  bucketB          : Nat
  doorPolicy       : DoorPolicy
  privacyLapse     : Bool
  chargePolicy     : ChargePolicy
  holdTimeout      : Nat
  offlineAllowance : Nat
  dayOffset        : Nat
  highWater        : Nat
  pendingTimeout   : Nat
  officerWait      : Nat
  bankThreshold    : Nat
  bankPolicy       : BankPolicy
  deriving DecidableEq, Repr

/-- The defaults of R184. -/
def Params.default : Params where
  missedTurnLimit  := 3
  doorWindow       := 400
  terminalWindow   := 2000
  laneWindow       := 1000
  faultRetry       := 30
  shortTune        := 30
  tuningPerLine    := 2
  refLow           := 200
  refHigh          := 900
  bucketA          := 0
  bucketB          := 1
  doorPolicy       := .GRANT_AND_NOTIFY
  privacyLapse     := true
  chargePolicy     := .ALLOW_AND_NOTIFY
  holdTimeout      := 90
  offlineAllowance := 30000
  dayOffset        := 18000
  highWater        := 3584
  pendingTimeout   := 20
  officerWait      := 60
  bankThreshold    := 384
  bankPolicy       := .FILL_TO_CAPACITY

/-- The twelve notice classes, in the order of R186. -/
inductive NoticeClass where
  | HEAD_STATE | BANK_READY | BANK_HOLD | JOURNAL_HIGH | REVOKED_CARD | PRESENCE_CONFLICT | TAILGATE | PENDING_LOST
  | ALL_ABOARD_DONE | RECONCILE_DONE | TUNE_OVERDUE | LATE_TAPS
  deriving DecidableEq, Repr

/-- The subject of a notice, by the table of R191. -/
inductive Subject where
  | headState (head : HeadId) (state : Option HeadState) (reason : Option FaultReason) (code : Nat)
  | bank (number : Nat)
  | lane (number : Nat)
  | entries (count : Nat)
  | person (slot : Nat)
  | allAboard (missing visitors length : Nat) (overflow : Bool)
  | folio (slot : Nat)
  | head (head : HeadId)
  deriving DecidableEq, Repr

/-- A notice latch (R186) with its class's bit of the mask; the subject carries the ship time of its raise. -/
structure Latch where
  enabled : Bool
  pending : Bool
  count   : Nat
  subject : Option (Subject × Nat)
  owed    : Bool
  deriving DecidableEq, Repr

/-- The power-on values of a latch (R190). -/
def Latch.powerOn : Latch := ⟨true, false, 0, none, false⟩

/-- The reply statuses (R180). -/
inductive Status where
  | OK | OK_CLAMPED | ACCEPTED | BAD_FRAME | UNKNOWN_KIND | BAD_LENGTH | OUT_OF_RANGE | NOT_FOUND | EXISTS | FULL
  | IN_USE | BUSY | WRONG_STATE | STALE_POSTING
  deriving DecidableEq, Repr

/-- A message of the outgoing queue (R182, R191). -/
inductive Message where
  | reply (tag kind : Byte) (status : Status) (body : List Byte)
  | notice (cls : NoticeClass) (count : Nat) (subject : Option (Subject × Nat))
  deriving DecidableEq, Repr

/-- The system link: the unanswered requests that have no reply yet, in the order they were taken, each one holding
a reservation (R180); the outgoing queue, the oldest first (R182); the three link counters (R181). `clockedOut` is the
model's own view of the part's output: the bytes clocked out in the latest SPI transaction. -/
structure Link where
  inHand     : List Instr
  outgoing   : List Message
  overruns   : Nat
  badFrames  : Nat
  truncated  : Nat
  clockedOut : List Byte
  deriving DecidableEq, Repr

/-! ## The whole state -/

/-- The state of the GC-3280. Tables are keyed by slot, venue, lane or line number; the Card Index by
8 × bucket + position; the Head Table by 256 × line + address; the latches by class code. -/
structure State where
  /-- The commands that wait, first in first out: the model's own. -/
  pending        : List Instr
  link           : Link
  clock          : Clock
  /-- The elapsed-time count in ms (R157). -/
  elapsed        : Nat
  params         : Params
  latches        : Table Latch
  persons        : Table Person
  cards          : Table CardEntry
  cabins         : Table Cabin
  folios         : Table Folio
  venues         : Table Venue
  upstream       : Upstream
  epoch          : Nat
  /-- The Charge Journal, the oldest entry first (R94). -/
  journal        : List JournalEntry
  retiredThrough : Nat
  /-- The Reconcile Scanner; none is IDLE (R56). -/
  scanner        : Option Scan
  deferred       : List Deferred
  /-- Whether the purchase intake waits at a CONFIRM (R90 case 4, R92). -/
  intakeWaits    : Bool
  lanes          : Table Lane
  bank0          : Bank
  bank1          : Bank
  nextCrossing   : Nat
  census         : Census
  sweeper        : Sweeper
  lines          : Table Line
  doorIn         : Intake
  purchaseIn     : Intake
  laneIn         : Intake
  heads          : Table Head
  /-- How many free values have been drawn: the model's own. -/
  draws          : Nat
  deriving DecidableEq, Repr

/-- The state after power-on reset (R190, and R22, R45, R64, R101, R124, R141, R162, R179). -/
def State.reset : State where
  pending        := []
  link           := ⟨[], [], 0, 0, 0, []⟩
  clock          := ⟨.UNSET, 0, 0⟩
  elapsed        := 0
  params         := Params.default
  latches        := ⟨[(1, Latch.powerOn), (2, Latch.powerOn), (3, Latch.powerOn), (4, Latch.powerOn),
                      (5, Latch.powerOn), (6, Latch.powerOn), (7, Latch.powerOn), (8, Latch.powerOn),
                      (9, Latch.powerOn), (10, Latch.powerOn), (11, Latch.powerOn), (12, Latch.powerOn)]⟩
  persons        := Table.empty
  cards          := Table.empty
  cabins         := Table.empty
  folios         := Table.empty
  venues         := Table.empty
  upstream       := .ONLINE
  epoch          := 0
  journal        := []
  retiredThrough := 0
  scanner        := none
  deferred       := []
  intakeWaits    := false
  lanes          := Table.full 8 Lane.powerOn
  bank0          := ⟨.FILLING, []⟩
  bank1          := ⟨.EMPTY, []⟩
  nextCrossing   := 1
  census         := ⟨⟨0, 0, 0⟩, ⟨0, 0, 0⟩, ⟨0, 0, 0⟩, 0, 0⟩
  sweeper        := ⟨.IDLE, 0, [], false⟩
  lines          := Table.full 16 Line.powerOn
  doorIn         := ⟨[], 0⟩
  purchaseIn     := ⟨[], 0⟩
  laneIn         := ⟨[], 0⟩
  heads          := Table.empty
  draws          := 0

end Sys2Proof.Machine
end

