-- ==== Sys2Proof/Machine/Operands.lean ====
section
/-! DEFINITION. Raw operands of requests turned into the values they name, and the range checks of the records'
field tables (R2, R24, R47, R49, R163). A number that names no value gives none, and the owning block then
refuses the request OUT_OF_RANGE (R192). -/

namespace Sys2Proof.Machine

open Sys2Proof

/-! ## Enumerations, numbered from 0 in the order the manual lists them (R192) -/

/-- A yes/no or on/off byte: 0 is no or off, 1 is yes or on (log entry 14). -/
def yesNo : Nat → Option Bool
  | 0 => some false
  | 1 => some true
  | _ => none

def Category.ofCode : Nat → Option Category
  | 0 => some .GUEST
  | 1 => some .CREW
  | 2 => some .VISITOR
  | _ => none

/-- The presence a PRESENCE SET may ask for: ABOARD or ASHORE (R135). -/
def Presence.ofCode : Nat → Option Presence
  | 1 => some .ABOARD
  | 2 => some .ASHORE
  | _ => none

/-- The state CARD ENROL may enter: ACTIVE or SUSPENDED (R16). -/
def CardState.ofCode : Nat → Option CardState
  | 0 => some .ACTIVE
  | 1 => some .SUSPENDED
  | _ => none

def Privacy.ofCode : Nat → Option Privacy
  | 0 => some .OPEN
  | 1 => some .PRIVACY
  | _ => none

def FolioState.ofCode : Nat → Option FolioState
  | 0 => some .OPEN
  | 1 => some .HELD
  | 2 => some .CLOSED
  | _ => none

def PackageKind.ofCode : Nat → Option PackageKind
  | 0 => some .SOFT
  | 1 => some .FULL
  | _ => none

def Upstream.ofCode : Nat → Option Upstream
  | 0 => some .ONLINE
  | 1 => some .OFFLINE
  | _ => none

def Direction.ofCode : Nat → Option Direction
  | 0 => some .INBOUND
  | 1 => some .OUTBOUND
  | _ => none

def CommitMode.ofCode : Nat → Option CommitMode
  | 0 => some .ON_PASS
  | 1 => some .ON_NEXT
  | _ => none

def HeadClass.ofCode : Nat → Option HeadClass
  | 0 => some .CABIN_DOOR
  | 1 => some .VENUE_TERMINAL
  | 2 => some .GANGWAY_LANE
  | _ => none

def TuneKind.ofCode : Nat → Option TuneKind
  | 0 => some .LONG
  | 1 => some .SHORT
  | _ => none

/-- The code of a notice class, 1 to 12 in the order of R186 (R191). -/
def NoticeClass.code (c : NoticeClass) : Nat := c.ctorIdx + 1

/-- The twelve classes in the order of R186. -/
def NoticeClass.all : List NoticeClass :=
  [.HEAD_STATE, .BANK_READY, .BANK_HOLD, .JOURNAL_HIGH, .REVOKED_CARD, .PRESENCE_CONFLICT, .TAILGATE, .PENDING_LOST,
   .ALL_ABOARD_DONE, .RECONCILE_DONE, .TUNE_OVERDUE, .LATE_TAPS]

/-- Bit `n` of a flag set. -/
def bitOf (set n : Nat) : Bool := set / 2 ^ n % 2 == 1

/-- The classes of a class set, none when a bit names no class (R192). -/
def classSet (set : Nat) : Option (List NoticeClass) :=
  if set < 4096 then some (NoticeClass.all.filter fun c => bitOf set c.ctorIdx) else none

/-! ## UIDs -/

/-- The UID a raw UID names, none when its length is not 4, 7 or 10 (R12). DESIGN CHOICE (log entry 28, unsafe): R192 says the bytes
beyond the length are zero and is silent on a field that breaks this; the model ignores them. -/
def uidOf (u : RawUid) : Option Uid :=
  if u.len = 4 ∨ u.len = 7 ∨ u.len = 10 then some (u.data.take u.len) else none

/-! ## Person fields (R2) -/

/-- No number stands twice in the list. -/
def noRepeats : List Nat → Bool
  | [] => true
  | x :: rest => !rest.contains x && noRepeats rest

/-- A shift window: two different seconds of day (R2). -/
def shiftInRange : Option (Nat × Nat) → Bool
  | none => true
  | some (a, b) => decide (a ≤ 86399) && decide (b ≤ 86399) && decide (a ≠ b)

/-- A stay window: two ship times in order (R2). -/
def stayInRange : Option (Nat × Nat) → Bool
  | none => true
  | some (a, b) => decide (a ≤ b) && decide (b ≤ max32)

/-- The ranges and conditions of R2 that do not need an enumeration's value. -/
def personInRange (f : PersonFields) (category : Category) : Bool :=
  decide (f.id ≤ max32) && decide (f.zones ≤ max32) && decide (f.roles < 4)
    && (decide (category = .CREW) || decide (f.roles = 0))
    && shiftInRange f.shift && stayInRange f.stay
    && decide (f.cabins.length ≤ 2) && f.cabins.all (fun n => decide (1 ≤ n) && decide (n ≤ 9999)) && noRepeats f.cabins
    && (decide (category ≠ .VISITOR) || f.cabins.isEmpty)
    && f.folio.all (fun n => decide (n < Config.folioSlots)) && f.childCap.all (fun n => decide (n ≤ 99999999))

/-- The identity fields a PERSON PUT names, none when a field breaks R2. -/
def identityOf (f : PersonFields) : Option Identity :=
  match Category.ofCode f.category, yesNo f.alcohol, yesNo f.chargeHold, yesNo f.gangwayHold, yesNo f.excused with
  | some category, some alcohol, some chargeHold, some gangwayHold, some excused =>
    if personInRange f category then
      some { id := f.id, category, service := bitOf f.roles 0, emergency := bitOf f.roles 1, zones := BitVec.ofNat 32 f.zones,
             shift := f.shift, stay := f.stay, cabins := f.cabins, folio := f.folio, alcohol, childCap := f.childCap,
             chargeHold, gangwayHold, excused }
    else none
  | _, _, _, _, _ => none

/-! ## Folio fields (R47, R49) -/

/-- The package a FOLIO PUT carries, none when a field breaks R49; the inner option is the package or its absence. -/
def packageOf : Option PackageFields → Option (Option Package)
  | none => some none
  | some p =>
    match PackageKind.ofCode p.kind with
    | some kind => if p.cap ≤ 9999999 ∧ 1 ≤ p.units ∧ p.units ≤ 99 then some (some ⟨kind, p.cap, p.units⟩) else none
    | none => none

/-- The fields a FOLIO PUT names, none when a field breaks R47 or R49. -/
def stagedOf (f : FolioFields) : Option Staged :=
  match FolioState.ofCode f.state, packageOf f.package with
  | some state, some package =>
    if f.id ≤ max32 ∧ f.limit ≤ 999999999 ∧ -999999999999 ≤ f.posted ∧ f.posted ≤ 999999999999 ∧ f.through ≤ max32 then
      some { state, limit := f.limit, package, posted := f.posted, through := f.through }
    else none
  | _, _ => none

/-! ## Head fields (R163) -/

/-- The range of a bound object by class (R163). -/
def boundInRange : HeadClass → Nat → Bool
  | .CABIN_DOOR, n => decide (1 ≤ n) && decide (n ≤ 9999)
  | .VENUE_TERMINAL, n => decide (n < Config.venues)
  | .GANGWAY_LANE, n => decide (n < Config.lanes)

/-- Line 0..15 and address 1..200 (R163). -/
def HeadId.inRange (h : HeadId) : Bool :=
  decide (h.line < Config.lines) && decide (1 ≤ h.address) && decide (h.address ≤ 200)

/-- The class a HEAD PUT names, none when line, address or a field is out of range (R165, check 1). -/
def headClassOf (h : HeadId) (f : HeadFields) : Option HeadClass :=
  match HeadClass.ofCode f.cls with
  | some cls =>
    if h.inRange && boundInRange cls f.bound && decide (f.neighbourhood ≤ 255)
        && f.group.all (fun g => decide (224 ≤ g) && decide (g ≤ 239)) then some cls
    else none
  | none => none

end Sys2Proof.Machine
end

