-- ==== Sys2Proof/Machine/Flags.lean ====
section
/-! DEFINITION. The twelve notice latches (R186) and the level condition of JOURNAL_HIGH (R97). -/

namespace Sys2Proof.Machine

/-- The latch of a class. -/
def State.latch (s : State) (c : NoticeClass) : Latch := (s.latches.get c.code).getD Latch.powerOn

/-- Write the latch of a class. -/
def State.setLatch (s : State) (c : NoticeClass) (l : Latch) : State := { s with latches := s.latches.set c.code l }

/-- What one raise does to a latch at ship time `time` (R186): the count rises and saturates; a raise that finds the
latch not pending stores its subject and, when the class is enabled, owes a notice. -/
def Latch.raised (l : Latch) (subject : Subject) (time : Nat) : Latch :=
  { l with
    pending := true
    count   := min (l.count + 1) 65535
    subject := if l.pending then l.subject else some (subject, time)
    owed    := if l.pending then l.owed else l.owed || l.enabled }

/-- A block raises a notice class with a subject (R186). -/
def State.raise (s : State) (c : NoticeClass) (subject : Subject) : State :=
  s.setLatch c ((s.latch c).raised subject s.clock.time)

/-- The latch after NOTICE CLEAR (R187): the mask bit is kept. -/
def Latch.cleared (l : Latch) : Latch := { Latch.powerOn with enabled := l.enabled }

/-- The latch after NOTICE MASK gives its class the mask bit `on` (R187). DEDUCED (log entry 27, unsafe): a class 'becomes enabled' only
when it was disabled before; one of the set that was enabled already keeps its notice owed as it stands. -/
def Latch.masked (l : Latch) (on : Bool) : Latch :=
  { l with
    enabled := on
    owed    := if on then l.owed || (!l.enabled && l.pending) else false }

/-- The first class, in the order of R186, whose latch owes a notice. -/
def State.owedClass (s : State) : Option NoticeClass := NoticeClass.all.find? (fun c => (s.latch c).owed)

/-- The mask in force as a class set (R187, R192). -/
def State.mask (s : State) : Nat :=
  NoticeClass.all.foldl (fun n c => if (s.latch c).enabled then n + 2 ^ c.ctorIdx else n) 0

/-- The Charge Unit evaluates JOURNAL_HIGH (R97): it raises the class when the journal stands at or above the
high-water. -/
def State.evaluateJournal (s : State) : State :=
  if s.params.highWater ≤ s.journal.length then s.raise .JOURNAL_HIGH (.entries s.journal.length) else s

end Sys2Proof.Machine
end

