-- ==== Sys2Proof/Machine/Ops.lean ====
section
/-! DEFINITION. The operations every block uses: elapsed time and timers, the reads and writes of the records, the
taking and answering of requests. -/

namespace Sys2Proof.Machine

open Sys2Proof

/-- A counter of 0..4,294,967,295 that stays at its top (R102, R152, R181). -/
def bump (n : Nat) : Nat := min (n + 1) max32

/-! ## Time (R157, R183) -/

/-- The ms from count value `t` to the present elapsed-time count, by difference (R157). -/
def State.since (s : State) (t : Nat) : Nat := (s.elapsed + (mod32 - t % mod32)) % mod32

/-- `ms` after the present elapsed-time count. -/
def State.after (s : State) (ms : Nat) : Nat := (s.elapsed + ms) % mod32

/-- The ship clock when `ms` of elapsed time pass: a SET clock advances by one for each whole second and stops at its
top (R183). -/
def Clock.pass (c : Clock) (ms : Nat) : Clock :=
  match c.state with
  | .UNSET => c
  | .SET => { c with time := min (c.time + (c.phase + ms) / 1000) max32, phase := (c.phase + ms) % 1000 }

/-- `ms` of elapsed time pass. -/
def State.passTime (s : State) (ms : Nat) : State := { s with elapsed := s.after ms, clock := s.clock.pass ms }

/-- A timer that starts now and runs `ms`. -/
def State.startTimer (s : State) (ms : Nat) : Timer := ⟨s.elapsed, ms⟩

/-- The ms left on a timer, 0 once it has run out. -/
def State.timeLeft (s : State) (t : Timer) : Nat := t.duration - s.since t.start

/-- The second of day (R4). -/
def State.secondOfDay (s : State) : Nat := s.clock.time % 86400

/-- The folio day (R50). -/
def State.folioDay (s : State) : Nat :=
  if s.params.dayOffset ≤ s.clock.time then (s.clock.time - s.params.dayOffset) / 86400 else 0

/-! ## Records -/

/-- The Head Table's key of a line and address. -/
def HeadId.key (h : HeadId) : Nat := 256 * h.line + h.address

/-- The line and address of a Head Table key. -/
def HeadId.ofKey (k : Nat) : HeadId := ⟨k / 256, k % 256⟩

/-- The head record at a place, none when the place is empty or the part has no such place. -/
def State.head? (s : State) (h : HeadId) : Option Head := if h.inRange then s.heads.get h.key else none

def State.setHead (s : State) (h : HeadId) (hd : Head) : State := { s with heads := s.heads.set h.key hd }

def State.modifyHead (s : State) (h : HeadId) (f : Head → Head) : State := { s with heads := s.heads.modify h.key f }

/-- Whether the head exists and is ONLINE. -/
def State.online (s : State) (h : HeadId) : Bool := (s.head? h).any (fun hd => hd.state = .ONLINE)

def State.line (s : State) (l : Nat) : Line := (s.lines.get l).getD Line.powerOn

def State.setLine (s : State) (l : Nat) (ln : Line) : State := { s with lines := s.lines.set l ln }

def State.modifyLine (s : State) (l : Nat) (f : Line → Line) : State := s.setLine l (f (s.line l))

def State.lane (s : State) (n : Nat) : Lane := (s.lanes.get n).getD Lane.powerOn

def State.setLane (s : State) (n : Nat) (la : Lane) : State := { s with lanes := s.lanes.set n la }

/-- The intake queue of a class (R148). -/
def State.intake (s : State) : HeadClass → Intake
  | .CABIN_DOOR => s.doorIn
  | .VENUE_TERMINAL => s.purchaseIn
  | .GANGWAY_LANE => s.laneIn

def State.setIntake (s : State) (c : HeadClass) (q : Intake) : State :=
  match c with
  | .CABIN_DOOR => { s with doorIn := q }
  | .VENUE_TERMINAL => { s with purchaseIn := q }
  | .GANGWAY_LANE => { s with laneIn := q }

/-- The capacity of an intake queue (R148, R154). -/
def intakeCapacity : HeadClass → Nat
  | .CABIN_DOOR => 32
  | .VENUE_TERMINAL => 16
  | .GANGWAY_LANE => 16

/-- The slot of a cabin number (R23). -/
def State.cabinSlot (s : State) (number : Nat) : Option Nat := s.cabins.findKey (fun c => c.number = number)

/-- The cabin record of a cabin number. -/
def State.cabin? (s : State) (number : Nat) : Option Cabin := (s.cabinSlot number).bind s.cabins.get

def State.modifyCabin (s : State) (slot : Nat) (f : Cabin → Cabin) : State := { s with cabins := s.cabins.modify slot f }

def State.modifyPerson (s : State) (slot : Nat) (f : Person → Person) : State := { s with persons := s.persons.modify slot f }

def State.modifyFolio (s : State) (slot : Nat) (f : Folio → Folio) : State := { s with folios := s.folios.modify slot f }

/-! ## Open holds and pending crossings -/

/-- The open holds on head records, in the order of the Head Table. -/
def State.headHolds (s : State) : List Hold := s.heads.cells.filterMap (fun c => c.2.hold)

/-- The carried holds (R89). -/
def State.carriedHolds (s : State) : List Hold := s.deferred.filterMap (·.carried)

/-- Every open hold, carried holds with the rest (R82). -/
def State.openHolds (s : State) : List Hold := s.headHolds ++ s.carriedHolds

/-- The pending crossings, by lane. -/
def State.pendings (s : State) : List Pending := s.lanes.cells.filterMap (fun c => c.2.pending)

/-- Whether a pending crossing names the person slot. -/
def State.crossingNames (s : State) (slot : Nat) : Bool := s.pendings.any (fun p => p.slot = slot)

/-- Whether an open hold names the person slot. -/
def State.holdNames (s : State) (slot : Nat) : Bool := s.openHolds.any (fun h => h.slot = slot)

/-- The next charge number (R94): one above the newest entry, or above retired-through when the journal is empty. -/
def State.nextCharge (s : State) : Nat :=
  match s.journal.getLast? with
  | some e => e.number + 1
  | none => s.retiredThrough + 1

/-- The newest number (R54). -/
def State.newestCharge (s : State) : Nat := s.nextCharge - 1

/-! ## Requests (R180, R182) -/

/-- The seven blocks of the part. -/
inductive Block where | SLP | RLC | HM | CRS | DDU | CHU | GWU
  deriving DecidableEq, Repr

/-- The kind code (R191) and tag of a request; none for the commands that are no request. -/
def requestOf : Instr → Option (Nat × Byte)
  | .clockSet t _ => some (0x01, t)
  | .clockGet t => some (0x02, t)
  | .paramSet t _ _ => some (0x03, t)
  | .paramGet t _ => some (0x04, t)
  | .noticeMask t _ => some (0x05, t)
  | .noticeClear t _ => some (0x06, t)
  | .statusGet t => some (0x07, t)
  | .restart t => some (0x08, t)
  | .personPut t _ _ => some (0x10, t)
  | .personGet t _ _ => some (0x11, t)
  | .personDrop t _ => some (0x12, t)
  | .cardEnrol t _ _ _ _ => some (0x13, t)
  | .cardRevoke t _ _ => some (0x14, t)
  | .cardSuspend t _ _ => some (0x15, t)
  | .cardResume t _ _ => some (0x16, t)
  | .cardFind t _ => some (0x17, t)
  | .cardPurge t => some (0x18, t)
  | .cabinPut t _ _ => some (0x20, t)
  | .cabinGet t _ => some (0x21, t)
  | .cabinDrop t _ => some (0x22, t)
  | .privacySet t _ _ => some (0x23, t)
  | .folioPut t _ _ => some (0x30, t)
  | .folioLimit t _ _ => some (0x31, t)
  | .folioState t _ _ => some (0x32, t)
  | .folioGet t _ _ => some (0x33, t)
  | .folioFree t _ => some (0x34, t)
  | .venuePut t _ _ _ => some (0x35, t)
  | .upstreamSet t _ => some (0x36, t)
  | .journalBase t _ => some (0x37, t)
  | .chargesRead t _ _ => some (0x38, t)
  | .chargesRetire t _ => some (0x39, t)
  | .lanePut t _ _ _ => some (0x40, t)
  | .laneOpen t _ => some (0x41, t)
  | .laneHold t _ => some (0x42, t)
  | .laneRelease t _ => some (0x43, t)
  | .laneClose t _ => some (0x44, t)
  | .laneGet t _ => some (0x45, t)
  | .bankFlush t => some (0x46, t)
  | .crossingsRead t _ _ => some (0x47, t)
  | .bankRelease t _ => some (0x48, t)
  | .crossingBase t _ => some (0x49, t)
  | .presenceSet t _ _ => some (0x4A, t)
  | .censusGet t => some (0x4B, t)
  | .allaboardStart t => some (0x4C, t)
  | .missingRead t _ _ => some (0x4D, t)
  | .lineStart t _ => some (0x50, t)
  | .lineStop t _ => some (0x51, t)
  | .lineGet t _ => some (0x52, t)
  | .headPut t _ _ _ => some (0x53, t)
  | .headDrop t _ _ => some (0x54, t)
  | .headGet t _ _ => some (0x55, t)
  | .headTune t _ _ _ => some (0x56, t)
  | .settingsPush t _ _ _ _ => some (0x57, t)
  | .powerOnReset | .requestFrameTaken _ | .truncatedFrame _ | .readTransaction _ | .noticeQueued | .shipClockTick
  | .indicatorOnRoom _ | .reconcileScanStep | .sweepStep | .settingsPushEnqueue _ | .turnStart _ | .groupFrameSent _
  | .answerReceived _ _ | .answerTimeout _ | .doorTap | .opened | .notOpened | .privacyOn | .privacyOff | .deadboltOn
  | .deadboltOff | .purchaseTap | .confirm | .void | .holdExpiry _ _ | .laneTap | .passed | .officerAccept
  | .officerReject | .pendingTimeout _ | .officerWaitExpiry _ | .tuneStart | .tuneFrameEnqueue _ _ | .tuneTimeout _ _
  | .faultRetryExpiry _ _ | .headDueForTune _ _ | .tuneOverdue _ _ => none

/-- The block that owns the requests of a kind code (the chapters of R191's groups). -/
def blockOf (kind : Nat) : Block :=
  if kind < 0x10 then .SLP
  else if kind < 0x20 then .CRS
  else if kind < 0x30 then .DDU
  else if kind < 0x40 then .CHU
  else if kind < 0x50 then .GWU
  else if kind < 0x53 then .RLC
  else .HM

/-- The block that owns a command that is a request. -/
def ownerOf (c : Instr) : Option Block := (requestOf c).map (fun r => blockOf r.1)

/-- A message that is a reply. -/
def Message.isReply : Message → Bool
  | .reply _ _ _ _ => true
  | .notice _ _ _ => false

/-- The number of unanswered requests (R180): those with no reply yet, and those whose reply waits in the queue. -/
def Link.unanswered (k : Link) : Nat := k.inHand.length + (k.outgoing.filter Message.isReply).length

/-- The number of notice messages in the outgoing queue (R182). -/
def Link.notices (k : Link) : Nat := (k.outgoing.filter (fun m => !m.isReply)).length

/-- ATTN is asserted while the outgoing queue holds a message (R182). -/
def State.attn (s : State) : Bool := !s.link.outgoing.isEmpty

/-- A good request frame is taken (R180 cases 1 and 4): it is handed to its block unless four requests are
unanswered. -/
def Link.handed (k : Link) (c : Instr) : Link :=
  if Config.unansweredRequests ≤ k.unanswered then { k with overruns := bump k.overruns }
  else { k with inHand := k.inHand ++ [c] }

/-- The oldest request in hand of a block: the one it takes next (R180). -/
def Link.nextFor (k : Link) (b : Block) : Option Instr := k.inHand.find? (fun c => ownerOf c = some b)

/-- A status whose reply carries a body (R191). -/
def Status.carriesBody : Status → Bool
  | .OK | .OK_CLAMPED | .ACCEPTED => true
  | .BAD_FRAME | .UNKNOWN_KIND | .BAD_LENGTH | .OUT_OF_RANGE | .NOT_FOUND | .EXISTS | .FULL | .IN_USE | .BUSY
  | .WRONG_STATE | .STALE_POSTING => false

/-- The reply of a request, queued on the request's reservation (R182). -/
def Link.answered (k : Link) (c : Instr) (kind : Nat) (tag : Byte) (status : Status) (body : List Byte) : Link :=
  { k with
    inHand   := k.inHand.erase c
    outgoing := k.outgoing ++ [.reply tag (BitVec.ofNat 8 kind) status (if status.carriesBody then body else [])] }

/-- What a block makes of a request: the state after its work, and the reply's status and body. -/
structure Answer where
  state  : State
  status : Status
  body   : List Byte

/-- A refusal: nothing changes (R180). -/
def State.refuse (s : State) (status : Status) : Answer := ⟨s, status, []⟩

/-- Done as asked, with the body of the reply. -/
def State.done (s : State) (body : List Byte := []) : Answer := ⟨s, .OK, body⟩

/-- The request is in hand: REQUEST_FRAME_TAKEN has brought its frame. A request command given before that stands for
its frame's arrival as well (log entry 2). -/
def State.received (s : State) (c : Instr) : State :=
  if c ∈ s.link.inHand then s else { s with link := s.link.handed c }

/-- The owning block takes the request and its reply is queued. Each block takes its requests in the order they were
handed to it (R180): one that is not its block's next stays in hand, and nothing else happens. -/
def State.serve (s : State) (c : Instr) (work : State → Answer) : State :=
  match requestOf c with
  | none => s
  | some (kind, tag) =>
    let s := s.received c
    if s.link.nextFor (blockOf kind) = some c then
      let a := work s
      { a.state with link := a.state.link.answered c kind tag a.status a.body }
    else s

end Sys2Proof.Machine
end

