-- ==== Sys2Proof/Machine/Encode.lean ====
section
/-! DEFINITION. The bytes of messages, record bodies and reader-line frames (R191 to R193). An enumeration value is encoded
as its place in the manual's list, which is its constructor index (R192). Where R192 leaves a width or a structure open, log
entry 13 says what stands here. -/

namespace Sys2Proof.Machine

open Sys2Proof

/-! ## Shared fields -/

/-- A line and address: two bytes. -/
def encHead (h : HeadId) : List Byte := u8 h.line ++ u8 h.address

/-- A UID: its length, then ten bytes, zero beyond the length. -/
def encUid (u : Uid) : List Byte := u8 u.length ++ u ++ List.replicate (10 - u.length) 0

/-- A pair of four-byte numbers. -/
def encPair (p : Nat × Nat) : List Byte := u32 p.1 ++ u32 p.2

/-- A set of two named flags. -/
def encFlags (a b : Bool) : List Byte := u8 ((if a then 1 else 0) + (if b then 2 else 0))

/-! ## Notices (R191) -/

/-- The code of a reply status (R191). -/
def Status.code : Status → Nat
  | .OK => 0x00
  | .OK_CLAMPED => 0x01
  | .ACCEPTED => 0x02
  | .BAD_FRAME => 0x10
  | .UNKNOWN_KIND => 0x11
  | .BAD_LENGTH => 0x12
  | .OUT_OF_RANGE => 0x20
  | .NOT_FOUND => 0x21
  | .EXISTS => 0x22
  | .FULL => 0x23
  | .IN_USE => 0x24
  | .BUSY => 0x25
  | .WRONG_STATE => 0x26
  | .STALE_POSTING => 0x27

/-- The subject's own bytes, by the table of R191. -/
def Subject.fields : Subject → List Byte
  | .headState h st reason code =>
    encHead h ++ (match st with | some x => u8 x.ctorIdx | none => u8 0xFF)
      ++ (match reason with | some r => u8 r.ctorIdx | none => u8 0xFF) ++ u8 code
  | .bank n => u8 n
  | .lane n => u8 n
  | .entries n => u16 n
  | .person n => u16 n
  | .allAboard missing visitors length overflow => u16 missing ++ u16 visitors ++ u16 length ++ flag overflow
  | .folio n => u16 n
  | .head h => encHead h

/-- The eight subject bytes: the fields from the first byte, the rest 0. -/
def Subject.bytes (s : Subject) : List Byte := s.fields ++ List.replicate (8 - s.fields.length) 0

/-- A latch subject with the ship time of its raise. -/
def encSubject (s : Subject × Nat) : List Byte := s.1.bytes ++ u32 s.2

/-- The frame of a message (R191). -/
def Message.bytes : Message → List Byte
  | .reply tag kind status body => withCrc16 ([0x5B#8, tag, kind] ++ u8 status.code ++ u16 body.length ++ body)
  | .notice cls count subject =>
    withCrc16 ([0x5C#8, 0x00#8] ++ u8 cls.code ++ u16 count ++
      (match subject with
       | some p => u8 1 ++ encSubject p
       | none => u8 0 ++ List.replicate 12 0))

/-! ## Records (R192) -/

/-- The fields of R2, in table order. -/
def encIdentity (p : Identity) : List Byte :=
  u32 p.id ++ u8 p.category.ctorIdx ++ encFlags p.service p.emergency ++ u32 p.zones.toNat ++ opt encPair p.shift
    ++ opt encPair p.stay ++ listOf u16 p.cabins ++ opt u16 p.folio ++ flag p.alcohol ++ opt u32 p.childCap
    ++ flag p.chargeHold ++ flag p.gangwayHold ++ flag p.excused

/-- The fields of R2, then those of R3, in table order. -/
def encPerson (p : Person) : List Byte :=
  encIdentity p.ident ++ u8 p.presence.ctorIdx ++ opt u32 p.lastCrossing ++ u32 p.childSpent.value ++ u16 p.childSpent.day
    ++ u32 p.childReserved ++ u8 p.unitsUsed.value ++ u16 p.unitsUsed.day ++ u8 p.unitsReserved

/-- A package, in the order of R49. -/
def encPackage (p : Package) : List Byte := u8 p.kind.ctorIdx ++ u32 p.cap ++ u8 p.units

/-- A last grant (R35). -/
def encGrant (g : Grant) : List Byte := u8 g.tag ++ u16 g.slot ++ u8 g.kind.ctorIdx

/-- An audit record (R31). -/
def encAudit (r : AuditRecord) : List Byte := u8 r.kind.ctorIdx ++ opt u16 r.slot ++ u32 r.time

/-- A hold (R82), its running field last. -/
def encHold (h : Hold) : List Byte :=
  u8 h.tag ++ u16 h.slot ++ u32 h.personId ++ u16 h.folio ++ u32 h.folioId ++ u8 h.venue ++ u64 h.gross ++ u64 h.covered
    ++ u32 h.gratuity ++ u32 h.total ++ u8 h.units ++ u32 h.child ++ opt encPair h.offline ++ u16 h.day ++ u32 h.time
    ++ flag h.conflict ++ flag h.confirming

/-- A journal entry, 47 bytes (R192); its child amount is not among them (log entry 29). -/
def encJournal (e : JournalEntry) : List Byte :=
  u32 e.number ++ u32 e.time ++ u16 e.folio ++ u32 e.folioId ++ u16 e.slot ++ u32 e.personId ++ u8 e.venue ++ u64 e.gross
    ++ u64 e.covered ++ u32 e.gratuity ++ u32 e.total ++ u8 e.units
    ++ u8 ((if e.offline then 1 else 0) + (if e.conflict then 2 else 0) + (if e.lateDay then 4 else 0))

/-- The bit of a crossing's cause among the flags of R192. -/
def Cause.bit : Cause → Nat
  | .BY_PASS => 4
  | .BY_NEXT => 8
  | .BY_TIMEOUT => 16
  | .BY_CLOSE => 32
  | .MANUAL => 64

/-- A crossing record, 19 bytes (R192). -/
def encCrossing (c : Crossing) : List Byte :=
  u32 c.number ++ u32 c.time ++ u16 c.slot ++ u32 c.personId ++ u8 (c.lane.getD 0xFF) ++ u8 c.direction.ctorIdx
    ++ u8 c.before.ctorIdx ++ u8 c.after.ctorIdx
    ++ u8 ((if c.mismatch then 1 else 0) + (if c.officer then 2 else 0) + c.cause.bit)

/-- The state and record count of a bank. -/
def encBank (b : Bank) : List Byte := u8 b.state.ctorIdx ++ u16 b.records.length

/-- The eight counters of a line, in the order of R152. -/
def encCounters (c : LineCounters) : List Byte :=
  u32 c.turns ++ u32 c.retries ++ u32 c.failed ++ u32 c.crcErrors ++ u32 c.badAnswers ++ u32 c.duplicates ++ u32 c.lost
    ++ u32 c.foreign

/-! ## Reader-line frames (R193) -/

/-- The code of a door denial. -/
def Denial.code : Denial → Nat
  | .UNKNOWN_CARD => 0x10
  | .REVOKED => 0x11
  | .SUSPENDED => 0x12
  | .NOT_PERMITTED => 0x13
  | .DEADBOLT => 0x14
  | .PRIVACY => 0x15
  | .WINDOW => 0x16
  | .PRESENCE => 0x17
  | .CLOCK_UNSET => 0x18

/-- The code of a purchase refusal. -/
def PurchaseRefusal.code : PurchaseRefusal → Nat
  | .CLOCK_UNSET => 0x18
  | .UNKNOWN_CARD => 0x10
  | .SUSPENDED => 0x12
  | .REVOKED => 0x11
  | .NO_FOLIO => 0x20
  | .PERSON_HOLD => 0x21
  | .PRESENCE => 0x22
  | .FOLIO_STATE => 0x23
  | .TRY_AGAIN => 0x24
  | .AMOUNT_RANGE => 0x25
  | .AGE => 0x26
  | .JOURNAL_FULL => 0x27
  | .CHILD_CAP => 0x28
  | .OFFLINE_CAP => 0x29
  | .LIMIT => 0x2A

/-- The code of a lane refusal. -/
def LaneRefusal.code : LaneRefusal → Nat
  | .CLOCK_UNSET => 0x18
  | .LANE_CLOSED => 0x30
  | .LANE_HELD => 0x31
  | .UNKNOWN_CARD => 0x10
  | .SUSPENDED => 0x12
  | .REVOKED => 0x11
  | .HOLD => 0x33
  | .IN_PROGRESS => 0x34
  | .LANE_BUSY => 0x32

/-- A door decision: its code, and a GRANT's kind. -/
def DoorDecision.bytes : DoorDecision → List Byte
  | .GRANT kind => u8 0x01 ++ u8 kind.ctorIdx
  | .DENY code => u8 code.code

/-- A purchase decision: its code, and an APPROVE's figures or a CONFIRMED's charge number. -/
def PurchaseDecision.bytes : PurchaseDecision → List Byte
  | .APPROVE gross covered gratuity total => u8 0x02 ++ u64 gross ++ u64 covered ++ u32 gratuity ++ u32 total
  | .REFUSE code => u8 code.code
  | .CONFIRMED number => u8 0x05 ++ u32 number
  | .LATE => u8 0x06

/-- A lane decision: its code, and a PASS's direction. -/
def LaneDecision.bytes : LaneDecision → List Byte
  | .PASS direction => u8 0x03 ++ u8 direction.ctorIdx
  | .AWAIT_OFFICER => u8 0x04
  | .REFUSE code => u8 code.code

/-- The frame kind of a queued frame. -/
def FrameContent.kind : FrameContent → Nat
  | .door _ _ => 0x04
  | .indicator _ _ => 0x05
  | .purchase _ _ => 0x04
  | .lane _ _ => 0x04
  | .tune _ => 0x06
  | .segment _ _ _ _ => 0x07

/-- The payload of a queued frame. -/
def FrameContent.payload : FrameContent → List Byte
  | .door tag d => u8 tag ++ d.bytes
  | .indicator _ p => u8 p.ctorIdx
  | .purchase tag d => u8 tag ++ d.bytes
  | .lane tag d => u8 tag ++ d.bytes
  | .tune k => u8 k.ctorIdx
  | .segment index more map bytes => u8 index ++ flag more ++ map.getD [] ++ bytes

/-- The frame kind of a turn. -/
def TurnFrame.kind : TurnFrame → Nat
  | .eventPoll _ => 0x01
  | .tuningPoll => 0x02
  | .ident => 0x03
  | .queued f => f.content.kind

/-- The payload of a turn's frame; an event poll carries the last accepted sequence, FFh for none. -/
def TurnFrame.payload : TurnFrame → List Byte
  | .eventPoll last => u8 (last.getD 0xFF)
  | .tuningPoll => []
  | .ident => []
  | .queued f => f.content.payload

/-- The bytes of a turn's frame on the line: destination, kind, payload length, payload and CRC-8 (R193). -/
def Turn.wire (t : Turn) : List Byte :=
  withCrc8 (u8 t.target ++ u8 t.frame.kind ++ u8 t.frame.payload.length ++ t.frame.payload)

/-! ## Answers of the heads (R193) -/

/-- What a head answers to a frame. -/
inductive HeadAnswer where
  | noEvent
  | event (seq lost : Nat) (kind : Nat) (payload : List Byte)
  | tuning
  | tuneDone (low high field : Nat)
  | ident (cls : Nat)
  | taken
  | stale
  | ack
  deriving DecidableEq, Repr

/-- An answer's fields by its kind code and payload; none when the payload length does not fit the kind. The event payload's
own length is judged by `eventFits`. PRESUMED (log entry 17): a raw reading of TUNE_DONE above 4,095 is taken as the number sent. -/
def headAnswerOf (kind : Nat) (p : List Byte) : Option HeadAnswer :=
  match kind with
  | 0x81 => if p.length = 0 then some .noEvent else none
  | 0x82 =>
    match p with
    | seq :: lost :: ev :: rest => some (.event seq.toNat lost.toNat ev.toNat rest)
    | _ => none
  | 0x83 => if p.length = 0 then some .tuning else none
  | 0x84 =>
    if p.length = 6 then
      some (.tuneDone (numberOf (p.take 2)) (numberOf ((p.drop 2).take 2)) (numberOf (p.drop 4)))
    else none
  | 0x85 => if p.length = 1 then some (.ident (numberOf p)) else none
  | 0x86 => if p.length = 1 then some .taken else none
  | 0x87 => if p.length = 1 then some .stale else none
  | 0x88 => if p.length = 0 then some .ack else none
  | _ => none

/-- The length an event payload must have by its kind; a terminal's TAP carries 13 bytes and 6 for each of its lines, a door's or
lane's 12. An OPENED without a tag may end at its presence byte (log entry 13). -/
def eventFits (cls : Option HeadClass) (kind : Nat) (p : List Byte) : Bool :=
  let tapShort := decide (p.length = 12)
  let tapLong := decide (13 ≤ p.length) && decide (p.length = 13 + 6 * (p.getD 12 0).toNat)
  match kind with
  | 0x01 =>
    match cls with
    | some .VENUE_TERMINAL => tapLong
    | some .CABIN_DOOR => tapShort
    | some .GANGWAY_LANE => tapShort
    | none => tapShort || tapLong
  | 0x02 => decide (p.length = 2) || decide (p = [0x00#8])
  | 0x03 => decide (p.length = 1)
  | 0x04 => decide (p.length = 0)
  | 0x05 => decide (p.length = 0)
  | 0x06 => decide (p.length = 0)
  | 0x07 => decide (p.length = 0)
  | 0x08 => decide (p.length = 1)
  | 0x09 => decide (p.length = 1)
  | 0x0A => decide (p.length = 0)
  | 0x0B => decide (p.length = 0)
  | 0x0C => decide (p.length = 0)
  | 0x0F => decide (p.length = 1)
  | _ => true

/-- Whether a frame allows the answer (R161). -/
def TurnFrame.allows : TurnFrame → HeadAnswer → Bool
  | .eventPoll _, .noEvent => true
  | .eventPoll _, .event _ _ _ _ => true
  | .tuningPoll, .tuning => true
  | .tuningPoll, .tuneDone _ _ _ => true
  | .ident, .ident _ => true
  | .queued f, .taken => f.content.kind == 0x04
  | .queued f, .stale => f.content.kind == 0x04
  | .queued f, .ack => f.content.kind != 0x04
  | _, _ => false

/-- What the RLC makes of the bytes of an answer (R150, R193). -/
inductive Judged where
  | crcError
  | bad
  | good (a : HeadAnswer)
  deriving DecidableEq, Repr

/-- Judge an answer: its CRC-8 first, then its address, kind and payload length. An event is judged by the class the head had when
it was polled, whose intake the poll holds a reservation in: a departed head's answer is a good one all the same (R155). DESIGN CHOICE
(log entry 30): bytes too few for an address, a kind and a length, or a length byte that is not the number of payload bytes that came, make
a bad answer; no bytes at all are a wrong CRC-8. R193 names neither. -/
def judge (t : Turn) (bytes : List Byte) : Judged :=
  match bytes.getLast? with
  | none => .crcError
  | some check =>
    if crc8 bytes.dropLast ≠ check then .crcError
    else
      match bytes.dropLast with
      | address :: kind :: length :: payload =>
        if address.toNat = t.target ∧ length.toNat = payload.length then
          match headAnswerOf kind.toNat payload with
          | some (.event seq lost ev p) =>
            if t.frame.allows (.event seq lost ev p) && eventFits t.holds ev p then .good (.event seq lost ev p) else .bad
          | some a => if t.frame.allows a then .good a else .bad
          | none => .bad
        else .bad
      | _ => .bad

/-- The purchase lines of a terminal's TAP, six bytes each. -/
def rawLines : Nat → List Byte → List RawLine
  | 0, _ => []
  | n + 1, p => ⟨numberOf (p.take 1), numberOf ((p.drop 1).take 4), numberOf ((p.drop 5).take 1)⟩ :: rawLines n (p.drop 6)

/-- The UID field at the start of a TAP's payload. -/
def tapUid (p : List Byte) : RawUid := ⟨numberOf (p.take 1), (p.drop 1).take 10⟩

/-- The tap tag of a TAP's payload. -/
def tapTag (p : List Byte) : Nat := numberOf ((p.drop 11).take 1)

/-- The job event a class's head reports by kind and payload, none for a kind not of the class (R156, R161). DEDUCED (log entry 13):
an OPENED carries a tag whenever its presence byte is not 00h; the spec names 00h and 01h only. -/
def eventOf (cls : HeadClass) (kind : Nat) (p : List Byte) : Option Event :=
  match cls, kind with
  | .CABIN_DOOR, 0x01 => some (.doorTap (tapUid p) (tapTag p))
  | .CABIN_DOOR, 0x02 =>
    if numberOf (p.take 1) = 0 then some (.opened none) else some (.opened (some (numberOf (p.drop 1))))
  | .CABIN_DOOR, 0x03 => some (.notOpened (numberOf p))
  | .CABIN_DOOR, 0x04 => some .privacyOn
  | .CABIN_DOOR, 0x05 => some .privacyOff
  | .CABIN_DOOR, 0x06 => some .deadboltOn
  | .CABIN_DOOR, 0x07 => some .deadboltOff
  | .VENUE_TERMINAL, 0x01 =>
    some (.purchaseTap (tapUid p) (tapTag p) (rawLines (p.getD 12 0).toNat (p.drop 13)))
  | .VENUE_TERMINAL, 0x08 => some (.confirm (numberOf p))
  | .VENUE_TERMINAL, 0x09 => some (.void (numberOf p))
  | .GANGWAY_LANE, 0x01 => some (.laneTap (tapUid p) (tapTag p))
  | .GANGWAY_LANE, 0x0A => some .passed
  | .GANGWAY_LANE, 0x0B => some .officerAccept
  | .GANGWAY_LANE, 0x0C => some .officerReject
  | _, _ => none

/-- The events whose entry keeps its outbound reservation: a TAP or a CONFIRM (R154). -/
def Event.takesDecision : Event → Bool
  | .doorTap _ _ => true
  | .purchaseTap _ _ _ => true
  | .confirm _ => true
  | .laneTap _ _ => true
  | .opened _ | .notOpened _ | .privacyOn | .privacyOff | .deadboltOn | .deadboltOff | .void _ | .passed
  | .officerAccept | .officerReject => false

/-- The events that are TAPs, and so are timed (R158). -/
def Event.isTap : Event → Bool
  | .doorTap _ _ => true
  | .purchaseTap _ _ _ => true
  | .laneTap _ _ => true
  | .confirm _ | .opened _ | .notOpened _ | .privacyOn | .privacyOff | .deadboltOn | .deadboltOff | .void _ | .passed
  | .officerAccept | .officerReject => false

end Sys2Proof.Machine
end

