-- ==== Sys2Proof/Machine/Outbound.lean ====
section
/-! DEFINITION. The outbound queues, the intake queues and their reservations (R145, R146, R154, R157, R158). -/

namespace Sys2Proof.Machine

open Sys2Proof

/-! ## The outbound queue of a line (R145) -/

/-- The slots of a line that hold a frame or a reservation. -/
def Line.taken (ln : Line) : Nat := ln.queue.length + ln.reserved

/-- The free unreserved slots of a RUNNING line; a DOWN line takes no frame (R142). -/
def Line.free (ln : Line) : Nat := if ln.state = .RUNNING then Config.outboundSlots - ln.taken else 0

/-- A frame joins at the newest end. -/
def Line.joined (ln : Line) (f : OutFrame) : Line := { ln with queue := ln.queue ++ [f] }

/-- A frame that is no decision frame joins when a free unreserved slot exists (Law 7). -/
def Line.enqueue (ln : Line) (f : OutFrame) : Line := if 0 < ln.free then ln.joined f else ln

/-- A decision frame takes the slot reserved for its entry (R145, R159). -/
def Line.joinDecision (ln : Line) (f : OutFrame) : Line :=
  if 0 < ln.reserved then { ln.joined f with reserved := ln.reserved - 1 } else ln

/-- A reservation is given back. -/
def Line.giveBack (ln : Line) : Line := { ln with reserved := ln.reserved - 1 }

/-- Frames that pass `p` are removed unsent, but for the frame whose turn is in flight; the others keep their order (R146). -/
def Line.removeFrames (ln : Line) (p : OutFrame → Bool) : Line :=
  match ln.turn with
  | some ⟨.queued _, _, _, _, _⟩ => { ln with queue := ln.queue.take 1 ++ (ln.queue.drop 1).filter (fun f => !p f) }
  | _ => { ln with queue := ln.queue.filter (fun f => !p f) }

/-- The TUNE frame of a head. -/
def isTuneFor (address : Nat) (f : OutFrame) : Bool :=
  f.dest == address && (match f.content with | .tune _ => true | _ => false)

/-- A segment addressed to one head. -/
def isSegmentFor (address : Nat) (f : OutFrame) : Bool :=
  f.dest == address && (match f.content with | .segment _ _ _ _ => true | _ => false)

/-- A decision frame for a head. -/
def isDecisionFor (address : Nat) (f : OutFrame) : Bool := f.dest == address && f.content.kind == 0x04

/-! ## Intake queues (R154, R157) -/

/-- A free unreserved slot of an intake queue. -/
def Intake.hasRoom (q : Intake) (c : HeadClass) : Bool := decide (q.entries.length + q.reserved < intakeCapacity c)

/-- The two reservations of an event poll to a head of class `c` are taken (R154). -/
def State.reservePoll (s : State) (l : Nat) (c : HeadClass) : State :=
  let q := s.intake c
  (s.setIntake c { q with reserved := q.reserved + 1 }).modifyLine l (fun ln => { ln with reserved := ln.reserved + 1 })

/-- The intake reservation of a poll is given back. -/
def State.giveBackIntake (s : State) (c : HeadClass) : State :=
  let q := s.intake c
  s.setIntake c { q with reserved := q.reserved - 1 }

/-- An outbound reservation of a line is given back. -/
def State.giveBackOut (s : State) (l : Nat) : State := s.modifyLine l Line.giveBack

/-- Both reservations of the poll that ends are given back (R154). -/
def State.giveBackPoll (s : State) (l : Nat) (holds : Option HeadClass) : State :=
  match holds with
  | some c => (s.giveBackIntake c).giveBackOut l
  | none => s

/-- An entry takes the slot reserved for it (R154). -/
def Intake.joinReserved (q : Intake) (e : Entry) : Intake :=
  if 0 < q.reserved then { entries := q.entries ++ [e], reserved := q.reserved - 1 } else q

/-- An accepted event becomes the newest entry of its intake on the poll's reservation, keeping the outbound reservation when
it takes a decision frame (R154, R156). -/
def State.enterIntake (s : State) (h : HeadId) (c : HeadClass) (e : Event) : State :=
  let entry : Entry := { head := h, event := e, arrival := s.elapsed, held := e.takesDecision, departed := false }
  let s := s.setIntake c ((s.intake c).joinReserved entry)
  if e.takesDecision then s else s.giveBackOut h.line

/-- The oldest entry leaves its intake (R157). -/
def State.dropOldest (s : State) (c : HeadClass) : State :=
  let q := s.intake c
  s.setIntake c { q with entries := q.entries.drop 1 }

/-- The reply window of a class, in ms (R158). -/
def State.window (s : State) : HeadClass → Nat
  | .CABIN_DOOR => s.params.doorWindow
  | .VENUE_TERMINAL => s.params.terminalWindow
  | .GANGWAY_LANE => s.params.laneWindow

/-- A taken entry gives back the outbound reservation it still holds. -/
def State.giveBackEntry (s : State) (e : Entry) : State := if e.held then s.giveBackOut e.head.line else s

/-- Case 1 of R158: the entry is departed or its head is not ONLINE. -/
def State.entryGone (s : State) (e : Entry) : Bool := e.departed || !s.online e.head

/-- Case 2 of R158: a TAP whose reply window has run out. -/
def State.entryLate (s : State) (c : HeadClass) (e : Entry) : Bool := e.event.isTap && decide (s.window c < s.since e.arrival)

/-- A job unit takes the oldest entry `e` of its intake (R158): it is discarded when its head has gone or when it is a late
TAP, and otherwise `apply` decides or applies it. The intake slot is freed in every case. -/
def State.takeEntry (s : State) (c : HeadClass) (e : Entry) (apply : State → State) : State :=
  if s.entryGone e then (s.dropOldest c).giveBackEntry e
  else if s.entryLate c e then ((s.dropOldest c).giveBackEntry e).raise .LATE_TAPS (.head e.head)
  else apply (s.dropOldest c)

/-- The oldest entry of an intake. -/
def State.oldest (s : State) (c : HeadClass) : Option Entry := (s.intake c).entries.head?

/-- A decision frame for the taken entry `e` takes the entry's reserved slot (R159). -/
def State.sendDecision (s : State) (e : Entry) (content : FrameContent) : State :=
  s.modifyLine e.head.line (fun ln => ln.joinDecision ⟨e.head.address, content⟩)

/-! ## A head's departure on its line (R146) -/

/-- The entries of a departed head are marked, and hold no outbound reservation any more. -/
def Intake.departed (q : Intake) (h : HeadId) : Intake :=
  { q with entries := q.entries.map (fun e => if e.head = h then { e with departed := true, held := false } else e) }

/-- How many outbound reservations a head's entries hold in an intake. -/
def Intake.heldBy (q : Intake) (h : HeadId) : Nat := (q.entries.filter (fun e => decide (e.head = h) && e.held)).length

/-- R146: the head's queued frames are removed, and its intake entries marked departed. -/
def State.lineDeparture (s : State) (h : HeadId) : State :=
  let given := s.doorIn.heldBy h + s.purchaseIn.heldBy h + s.laneIn.heldBy h
  let s := s.modifyLine h.line (fun ln =>
    { ln.removeFrames (fun f => f.dest == h.address) with reserved := ln.reserved - given })
  { s with doorIn := s.doorIn.departed h, purchaseIn := s.purchaseIn.departed h, laneIn := s.laneIn.departed h }

end Sys2Proof.Machine
end

