-- ==== Sys2Proof/Machine/CabinOps.lean ====
section
/-! DEFINITION. What other blocks hand to the Door Decision Unit: joins, leaves and presence changes, the privacy lapse, the
indicator work and the binding of door heads (R25 to R29). -/

namespace Sys2Proof.Machine

/-- The indicator work of R28 for the cabin in slot `k`: the first case that applies. -/
def State.indicatorWork (s : State) (k : Nat) : State :=
  match s.cabins.get k with
  | none => s
  | some c =>
    match c.doorHead with
    | none => s.modifyCabin k (fun c => { c with owed := false })
    | some h =>
      if s.online h && decide (0 < (s.line h.line).free) then
        (s.modifyLine h.line (fun ln => ln.enqueue ⟨h.address, .indicator c.number c.privacy⟩)).modifyCabin k
          (fun c => { c with owed := false })
      else s.modifyCabin k (fun c => { c with owed := true })

/-- The check for a privacy lapse when the aboard count of the cabin in slot `k` has fallen from 1 to 0 (R27). -/
def State.privacyLapse (s : State) (k : Nat) : State :=
  match s.cabins.get k with
  | none => s
  | some c =>
    if c.privacy = .PRIVACY ∧ s.params.privacyLapse = true then
      (s.modifyCabin k (fun c => { c with privacy := .OPEN })).indicatorWork k
    else s

/-- The aboard count of the cabin in slot `k` rises by one. -/
def State.countUp (s : State) (k : Nat) : State := s.modifyCabin k (fun c => { c with aboard := c.aboard + 1 })

/-- The aboard count of the cabin in slot `k` falls by one; a fall from 1 to 0 may lapse privacy (R27). -/
def State.countDown (s : State) (k : Nat) : State :=
  match s.cabins.get k with
  | none => s
  | some c =>
    let s := s.modifyCabin k (fun c => { c with aboard := c.aboard - 1 })
    if c.aboard = 1 then s.privacyLapse k else s

/-- A person joins the occupants of a cabin number (R26). -/
def State.joinCabin (s : State) (slot : Nat) (presence : Presence) (number : Nat) : State :=
  match s.cabinSlot number with
  | none => s
  | some k =>
    let s := s.modifyCabin k (fun c => { c with occupants := c.occupants ++ [slot] })
    if presence = .ABOARD then s.countUp k else s

/-- A person leaves the occupants of a cabin number (R26). -/
def State.leaveCabin (s : State) (slot : Nat) (presence : Presence) (number : Nat) : State :=
  match s.cabinSlot number with
  | none => s
  | some k =>
    let s := s.modifyCabin k (fun c => { c with occupants := c.occupants.erase slot })
    if presence = .ABOARD then s.countDown k else s

/-- A presence change is handed to one cabin of the person (R27). -/
def State.presenceAtCabin (s : State) (before after : Presence) (number : Nat) : State :=
  match s.cabinSlot number with
  | none => s
  | some k =>
    if before ≠ .ABOARD ∧ after = .ABOARD then s.countUp k
    else if before = .ABOARD ∧ after ≠ .ABOARD then s.countDown k
    else s

/-- A presence change is handed to the cabins of a person, in list order (R27). -/
def State.presenceAtCabins (s : State) (cabins : List Nat) (before after : Presence) : State :=
  cabins.foldl (fun s n => s.presenceAtCabin before after n) s

/-- A cabin loses its door head (R25). -/
def State.unbindCabin (s : State) (number : Nat) : State :=
  match s.cabinSlot number with
  | none => s
  | some k => s.modifyCabin k (fun c => { c with doorHead := none, deadbolt := .UNKNOWN, owed := false })

/-- A cabin's door head becomes `h` (R25). -/
def State.bindCabin (s : State) (number : Nat) (h : HeadId) : State :=
  match s.cabinSlot number with
  | none => s
  | some k => s.modifyCabin k (fun c => { c with doorHead := some h })

/-- The DDU's part when a head enters ONLINE: the indicator work for a door head's cabin (R28, R164). -/
def State.cabinEntry (s : State) (hd : Head) : State :=
  match hd.cls with
  | .CABIN_DOOR =>
    match s.cabinSlot hd.bound with
    | some k => s.indicatorWork k
    | none => s
  | .VENUE_TERMINAL => s
  | .GANGWAY_LANE => s

/-- R29: one INDICATOR frame for each owed cabin whose door head is ONLINE on line `l`, in slot order, while a free unreserved
slot remains. -/
def State.serveOwed (s : State) (l : Nat) : State :=
  s.cabins.keys.foldl (fun s k =>
    match s.cabins.get k with
    | some c =>
      match c.doorHead with
      | some h =>
        if c.owed && decide (h.line = l) && s.online h && decide (0 < (s.line l).free) then s.indicatorWork k else s
      | none => s
    | none => s) s

/-- The turn of an INDICATOR frame for cabin `number` has failed: the cabin's flag is set again, whatever its door head has
become by then (R29). -/
def State.indicatorLost (s : State) (number : Nat) : State :=
  match s.cabinSlot number with
  | none => s
  | some k => s.modifyCabin k (fun c => { c with owed := true })

end Sys2Proof.Machine
end

