-- ==== Sys2Proof/Machine/ChargeOps.lean ====
section
/-! DEFINITION. The Charge Unit's shared operations: offline spent and the lazy counters, release and application of holds, the
completion of a reconcile, the booking of retired entries (R5, R48, R53, R57, R85, R89, R91, R92, R99). -/

namespace Sys2Proof.Machine

/-! ## Counters -/

/-- A lazy counter as read on folio day `day` (R5). -/
def DayCounter.read (c : DayCounter) (day : Nat) : Nat := if c.day = day then c.value else 0

/-- A lazy counter raised by `n` on folio day `day` (R5). -/
def DayCounter.add (c : DayCounter) (day n : Nat) : DayCounter := ⟨c.read day + n, day⟩

/-- Offline spent as read in epoch `epoch` (R53). -/
def Folio.offlineRead (f : Folio) (epoch : Nat) : Nat := if f.offlineEpoch = epoch then f.offlineSpent else 0

/-- Offline spent when an AUTH approved while OFFLINE adds `n` (R53). -/
def Folio.offlineAdd (f : Folio) (epoch n : Nat) : Folio :=
  { f with offlineSpent := f.offlineRead epoch + n, offlineEpoch := epoch }

/-- Offline spent when a release reverses a recorded offline amount (R53). -/
def Folio.offlineReverse (f : Folio) (epoch : Nat) : Option (Nat × Nat) → Folio
  | some (n, e) => if e = epoch ∧ f.offlineEpoch = epoch then { f with offlineSpent := f.offlineSpent - n } else f
  | none => f

/-- The headroom, computed when it is read (R48). -/
def Folio.headroom (f : Folio) : Int := (f.limit : Int) - f.posted - f.unposted - f.held

/-- The posted balance saturates at both ends (R48). -/
def saturatePosted (n : Int) : Int := max (-999999999999) (min 999999999999 n)

/-! ## Releasing a hold (R85) -/

/-- Steps 1 and 4 of R85 on the folio. -/
def Folio.released (f : Folio) (h : Hold) (epoch : Nat) : Folio :=
  { f with held := f.held - h.total }.offlineReverse epoch h.offline

/-- Steps 2 and 3 of R85 on the person. -/
def Person.released (p : Person) (h : Hold) : Person :=
  { p with unitsReserved := p.unitsReserved - h.units, childReserved := p.childReserved - h.child }

/-- Steps 1 to 4 of R85: what the hold reserved is given back. -/
def State.releaseAmounts (s : State) (h : Hold) : State :=
  (s.modifyFolio h.folio (fun f => f.released h s.epoch)).modifyPerson h.slot (fun p => p.released h)

/-- R85 for the hold on a head record: the amounts are given back and the hold and its timer are removed. -/
def State.releaseHold (s : State) (id : HeadId) (h : Hold) : State :=
  (s.releaseAmounts h).modifyHead id (fun hd => { hd with hold := none })

/-- R89: a terminal leaves ONLINE with a hold. One that is not confirming is released; a confirming hold leaves the head record
and is kept by its deferred list entry. -/
def State.holdDeparture (s : State) (id : HeadId) : State :=
  match s.head? id with
  | none => s
  | some hd =>
    match hd.hold with
    | none => s
    | some h =>
      if h.confirming then
        { s.modifyHead id (fun hd => { hd with hold := none }) with
          deferred := s.deferred.map (fun d => if d.head = id ∧ d.carried = none then { d with carried := some h } else d) }
      else s.releaseHold id h

/-! ## Applying a CONFIRM (R91) -/

/-- The journal entry of a hold applied now under the number `number` (R91 step 1), with the hold's units and child amount (log
entry 29). -/
def State.entryOf (s : State) (h : Hold) (number : Nat) : JournalEntry where
  number   := number
  time     := s.clock.time
  folio    := h.folio
  folioId  := h.folioId
  slot     := h.slot
  personId := h.personId
  venue    := h.venue
  gross    := h.gross
  covered  := h.covered
  gratuity := h.gratuity
  total    := h.total
  units    := h.units
  child    := h.child
  offline  := h.offline.isSome
  conflict := h.conflict
  lateDay  := decide (s.folioDay ≠ h.day)

/-- Step 2 of R91 on the folio: the total moves from held to unposted. -/
def Folio.charged (f : Folio) (h : Hold) : Folio := { f with held := f.held - h.total, unposted := f.unposted + h.total }

/-- Step 3 of R91 on the person, on folio day `day`. -/
def Person.settled (p : Person) (h : Hold) (day : Nat) : Person :=
  if day = h.day then
    { p.released h with unitsUsed := p.unitsUsed.add day h.units, childSpent := p.childSpent.add day h.child }
  else p.released h

/-- Steps 1 to 4 and 6 of R91; the caller removes the hold from where it stands (step 5). -/
def State.applyConfirm (s : State) (h : Hold) : State :=
  let day := s.folioDay
  let s := { s with journal := s.journal ++ [s.entryOf h s.nextCharge] }
  ((s.modifyFolio h.folio (fun f => f.charged h)).modifyPerson h.slot (fun p => p.settled h day)).evaluateJournal

/-- R92: one deferred CONFIRM is applied at the completion of the reconcile. A CONFIRMED frame is enqueued when the hold was not
carried, the terminal is ONLINE and its line has a free unreserved slot. -/
def State.applyDeferred (s : State) (d : Deferred) : State :=
  match d.carried with
  | some h => s.applyConfirm h
  | none =>
    match (s.head? d.head).bind (·.hold) with
    | none => s
    | some h =>
      let number := s.nextCharge
      let s := (s.applyConfirm h).modifyHead d.head (fun hd => { hd with hold := none })
      if s.online d.head then
        s.modifyLine d.head.line (fun ln => ln.enqueue ⟨d.head.address, .purchase d.tag (.CONFIRMED number)⟩)
      else s

/-- The staged fields and the running sum are installed; held total and offline spent stay (R57 step 1). -/
def Folio.installed (f : Folio) (sc : Scan) : Folio :=
  { f with
    state    := sc.staged.state
    limit    := sc.staged.limit
    package  := sc.staged.package
    posted   := sc.staged.posted
    through  := sc.staged.through
    unposted := sc.sum }

/-- The completion of a reconcile, steps 1 to 4 of R57. -/
def State.completeReconcile (s : State) (sc : Scan) : State :=
  let s := (s.modifyFolio sc.slot (fun f => f.installed sc)).raise .RECONCILE_DONE (.folio sc.slot)
  let s := s.deferred.foldl State.applyDeferred s
  { s with deferred := [], scanner := none, intakeWaits := false }

/-- Whether the folio slot and id are those of the SCANNING scanner (R67 step 7, R90). -/
def State.underReconcile (s : State) (slot id : Nat) : Bool :=
  match s.scanner with
  | some sc => decide (sc.slot = slot) && decide (sc.id = id)
  | none => false

/-! ## Retiring (R99) -/

/-- A retired entry booked into its folio: the posted balance rises, saturating, and the unposted total falls. -/
def Folio.booked (f : Folio) (e : JournalEntry) : Folio :=
  { f with posted := saturatePosted (f.posted + e.total), unposted := f.unposted - e.total }

/-- R99 for one removed entry. -/
def State.bookRetired (s : State) (e : JournalEntry) : State :=
  match s.folios.get e.folio with
  | none => s
  | some f => if f.id = e.folioId ∧ f.through < e.number then s.modifyFolio e.folio (fun f => f.booked e) else s

end Sys2Proof.Machine
end

