-- ==== Sys2Proof/Machine/GangwayOps.lean ====
section
/-! DEFINITION. The Gangway Unit's shared operations: the census and the Missing List, the crossing banks and their swap, the
commit and the abandonment of a crossing (R114, R121 to R123, R127, R128, R133, R134, R137). -/

namespace Sys2Proof.Machine

/-! ## Standings and the census (R133, R134) -/

/-- A person's standing: category, presence and excused (R133). -/
structure Standing where
  category : Category
  presence : Presence
  excused  : Bool
  deriving DecidableEq, Repr

/-- The standing of a person record. -/
def Person.standing (p : Person) : Standing := ⟨p.ident.category, p.presence, p.ident.excused⟩

/-- A standing is missing when it is a GUEST's or CREW's, ASHORE and not excused (R133). -/
def Standing.missing (st : Standing) : Bool :=
  decide (st.category ≠ .VISITOR) && decide (st.presence = .ASHORE) && !st.excused

/-- A VISITOR ABOARD. -/
def Standing.visitorAboard (st : Standing) : Bool := decide (st.category = .VISITOR) && decide (st.presence = .ABOARD)

/-- Change the counter of one presence. -/
def Buckets.change (b : Buckets) (p : Presence) (f : Nat → Nat) : Buckets :=
  match p with
  | .ABOARD => { b with aboard := f b.aboard }
  | .ASHORE => { b with ashore := f b.ashore }
  | .UNKNOWN => { b with unknown := f b.unknown }

/-- Change the counter of one category and presence. -/
def Census.change (c : Census) (st : Standing) (f : Nat → Nat) : Census :=
  match st.category with
  | .GUEST => { c with guest := c.guest.change st.presence f }
  | .CREW => { c with crew := c.crew.change st.presence f }
  | .VISITOR => { c with visitor := c.visitor.change st.presence f }

/-- The counters of category and presence after a hand-off (R134 step 1): when both standings name the same category and presence
the two changes cancel. -/
def Census.moved (c : Census) (old new : Option Standing) : Census :=
  match old, new with
  | none, none => c
  | some a, none => c.change a (· - 1)
  | none, some b => c.change b (· + 1)
  | some a, some b =>
    if a.category = b.category ∧ a.presence = b.presence then c else (c.change a (· - 1)).change b (· + 1)

/-- A count that follows a yes/no status before and after: it rises, falls or stays. -/
def countMoved (n : Nat) (before after : Bool) : Nat :=
  match before, after with
  | false, true => n + 1
  | true, false => n - 1
  | _, _ => n

/-- The census after a hand-off (R134 steps 1 to 3). -/
def Census.handed (c : Census) (old new : Option Standing) : Census :=
  { c.moved old new with
    visitorsAboard := countMoved c.visitorsAboard (old.any Standing.visitorAboard) (new.any Standing.visitorAboard)
    missing        := countMoved c.missing (old.any Standing.missing) (new.any Standing.missing) }

/-! ## The Missing List (R137) -/

/-- An append under the overflow rule. -/
def Sweeper.append (w : Sweeper) (slot : Nat) : Sweeper :=
  if w.missing.length < Config.missingSlots then { w with missing := w.missing ++ [slot] } else { w with overflow := true }

/-- Whether the list follows changes of this slot: in DONE always, while SWEEPING below the cursor. -/
def Sweeper.follows (w : Sweeper) (slot : Nat) : Bool :=
  match w.state with
  | .IDLE => false
  | .SWEEPING => decide (slot < w.cursor)
  | .DONE => true

/-- A person becomes missing. -/
def Sweeper.becomes (w : Sweeper) (slot : Nat) : Sweeper := if w.follows slot then w.append slot else w

/-- A person stops being missing. -/
def Sweeper.stops (w : Sweeper) (slot : Nat) : Sweeper :=
  if w.follows slot then { w with missing := w.missing.erase slot } else w

/-- The list after a hand-off: the missing status before and after are compared (R134 step 3). -/
def Sweeper.handed (w : Sweeper) (slot : Nat) (old new : Option Standing) : Sweeper :=
  match old.any Standing.missing, new.any Standing.missing with
  | false, true => w.becomes slot
  | true, false => w.stops slot
  | _, _ => w

/-- A hand-off to the census (R134). -/
def State.censusHandoff (s : State) (slot : Nat) (old new : Option Standing) : State :=
  { s with census := s.census.handed old new, sweeper := s.sweeper.handed slot old new }

/-! ## The crossing banks (R125 to R128) -/

/-- The number of the bank that is FILLING (Law 6: exactly one is). -/
def State.fillingNumber (s : State) : Nat := if s.bank0.state = .FILLING then 0 else 1

def State.bank (s : State) (n : Nat) : Bank := if n = 0 then s.bank0 else s.bank1

def State.setBank (s : State) (n : Nat) (b : Bank) : State := if n = 0 then { s with bank0 := b } else { s with bank1 := b }

/-- The bank that is FILLING. -/
def State.filling (s : State) : Bank := s.bank s.fillingNumber

/-- The other bank. -/
def State.other (s : State) : Bank := s.bank (1 - s.fillingNumber)

/-- The room limit (R127). -/
def State.roomLimit (s : State) : Nat :=
  match s.params.bankPolicy with
  | .FILL_TO_CAPACITY => Config.bankRecords
  | .HOLD_AT_THRESHOLD => if s.other.state = .READABLE then s.params.bankThreshold + 1 else Config.bankRecords

/-- The room check of a lane tap and of PRESENCE SET (R114, R135). -/
def State.hasRoom (s : State) : Bool := decide (s.filling.records.length + s.pendings.length < s.roomLimit)

/-- A lane without the BANK hold reason; with no reason left a HELD lane becomes OPEN (R103). -/
def Lane.withoutBank (la : Lane) : Lane :=
  { la with holdBank := false, state := if la.state = .HELD ∧ la.holdHost = false then .OPEN else la.state }

/-- BANK is removed from the hold reasons of every lane (R128, R131). -/
def State.removeBankHolds (s : State) : State := { s with lanes := s.lanes.map (fun _ la => la.withoutBank) }

/-- BANK is added to the hold reasons of a lane that is OPEN or HELD (R114). -/
def Lane.withBank (la : Lane) : Lane :=
  match la.state with
  | .CLOSED => la
  | .OPEN => { la with holdBank := true, state := .HELD }
  | .HELD => { la with holdBank := true }

/-- BANK is added to every lane that is OPEN or HELD (R114). -/
def State.addBankHolds (s : State) : State := { s with lanes := s.lanes.map (fun _ la => la.withBank) }

/-- The swap, steps 1 to 4 of R128. Reservations are the pending crossings themselves and so move with the FILLING state (R126). -/
def State.swapBanks (s : State) : State :=
  let n := s.fillingNumber
  let s := (s.setBank n { s.filling with state := .READABLE }).setBank (1 - n) ⟨.FILLING, []⟩
  s.removeBankHolds.raise .BANK_READY (.bank n)

/-- Whether a swap is due (R128). -/
def State.swapDue (s : State) : Bool :=
  decide (s.params.bankThreshold < s.filling.records.length) && decide (s.other.state = .EMPTY)

/-- The swap check (R128). -/
def State.swapCheck (s : State) : State := if s.swapDue then s.swapBanks else s

/-- The next crossing number after `n` (R132). -/
def crossingAfter (n : Nat) : Nat := if n = max32 then 1 else n + 1

/-- A record joins the FILLING bank under the next crossing number. -/
def State.appendCrossing (s : State) (c : Crossing) : State :=
  let b := s.filling
  { s.setBank s.fillingNumber { b with records := b.records ++ [{ c with number := s.nextCrossing }] } with
    nextCrossing := crossingAfter s.nextCrossing }

/-! ## Crossings -/

/-- The presence a direction commits (R102). -/
def Direction.presence : Direction → Presence
  | .INBOUND => .ABOARD
  | .OUTBOUND => .ASHORE

/-- A person's presence and last crossing time are written, and the change handed to the census and the cabins (R122 steps 2 to
4, R135 steps 1 to 3). -/
def State.changePresence (s : State) (slot : Nat) (p : Person) (after : Presence) : State :=
  let p' := { p with presence := after, lastCrossing := some s.clock.time }
  let s := { s with persons := s.persons.set slot p' }
  (s.censusHandoff slot (some p.standing) (some p'.standing)).presenceAtCabins p.ident.cabins p.presence after

/-- Remove the pending crossing of a lane. -/
def Lane.withoutPending (la : Lane) : Lane := { la with pending := none }

/-- A lane closed, with no hold reasons (R103) and, as Law 8 asks of a CLOSED lane, no pending crossing (R104): its callers have ended it. -/
def Lane.closed (la : Lane) : Lane := { la with state := .CLOSED, holdHost := false, holdBank := false, pending := none }

/-- The commit of a lane's pending crossing (R122). -/
def State.commitCrossing (s : State) (n : Nat) (pc : Pending) (cause : Cause) : State :=
  match s.persons.get pc.slot with
  | none => s
  | some p =>
    let la := s.lane n
    let after := la.direction.presence
    let record : Crossing :=
      { number := s.nextCrossing, time := s.clock.time, slot := pc.slot, personId := p.ident.id, lane := some n,
        direction := la.direction, before := p.presence, after, mismatch := pc.mismatch, officer := pc.mismatch, cause }
    let s := (s.changePresence pc.slot p after).appendCrossing record
    let la := s.lane n
    (s.setLane n { la.withoutPending with committed := bump la.committed }).swapCheck

/-- The abandonment of a lane's pending crossing (R121); its bank reservation goes with it. -/
def State.abandonCrossing (s : State) (n : Nat) : State :=
  let la := s.lane n
  s.setLane n { la.withoutPending with abandoned := bump la.abandoned }

/-- An abandonment that the head did not choose raises PENDING_LOST (R121). -/
def State.loseCrossing (s : State) (n : Nat) : State := (s.abandonCrossing n).raise .PENDING_LOST (.lane n)

/-- R123: the head of lane `n` leaves ONLINE. -/
def State.laneDeparture (s : State) (n : Nat) : State :=
  let la := s.lane n
  match la.state with
  | .CLOSED => s
  | .OPEN | .HELD =>
    let s := if la.pending.isSome then s.loseCrossing n else s
    s.setLane n (s.lane n).closed

/-- A lane loses its head (R106). -/
def State.unbindLane (s : State) (n : Nat) : State := s.setLane n { s.lane n with head := none }

/-- A lane's head becomes `h` (R106). -/
def State.bindLane (s : State) (n : Nat) (h : HeadId) : State := s.setLane n { s.lane n with head := some h }

end Sys2Proof.Machine
end

