-- ==== Sys2Proof/Machine/HeadOps.lean ====
section
/-! DEFINITION. The Head Manager's shared operations: a head leaving and entering ONLINE, faults and probing, tune starts and their
scheduler, the field correction and the outcome of a tune, the settings pushes (R160, R164, R168 to R173, R177). -/

namespace Sys2Proof.Machine

open Sys2Proof

/-! ## Settings pages (R160, R177) -/

/-- The segments of the page bytes left, from index `i`: up to 32 bytes each, the more flag on all but the last. -/
def segmentsFrom (dest : Nat) (map : Option (List Byte)) : Nat → Nat → List Byte → List OutFrame
  | 0, _, _ => []
  | n + 1, i, page =>
    ⟨dest, .segment i (decide (n ≠ 0)) map (page.take 32)⟩ :: segmentsFrom dest map n (i + 1) (page.drop 32)

/-- The number of segments of a page: its length divided by 32 and rounded up (R160). -/
def segmentCount (page : List Byte) : Nat := (page.length + 31) / 32

/-- The frames of a push. A single-head segment carries no map (R193). -/
def Push.frames (p : Push) : List OutFrame :=
  segmentsFrom p.dest (if p.dest ≤ 200 then none else p.map) (segmentCount p.page) 0 p.page

/-- A push ends. -/
def Line.withoutPush (ln : Line) : Line := { ln with push := none }

/-- The push of a single head fails at its first unanswered segment: the segments still queued are removed, the outcome becomes
FAILED with that index, and the push ends (R160, R177). -/
def State.failPush (s : State) (h : HeadId) : State :=
  match (s.line h.line).push with
  | none => s
  | some p =>
    if p.dest = h.address then
      (s.modifyLine h.line (fun ln => (ln.removeFrames (isSegmentFor h.address)).withoutPush)).modifyHead h
        (fun hd => { hd with settings := .FAILED p.answered })
    else s

/-! ## Leaving and entering ONLINE (R164) -/

/-- The DDU clears the last grant of a head that leaves ONLINE (R35). -/
def State.grantDeparture (s : State) (h : HeadId) : State := s.modifyHead h (fun hd => { hd with lastGrant := none, due := false })

/-- The Gangway Unit's part when a lane head leaves ONLINE (R123). -/
def State.gangwayDeparture (s : State) (hd : Head) : State :=
  match hd.cls with
  | .GANGWAY_LANE => s.laneDeparture hd.bound
  | .CABIN_DOOR => s
  | .VENUE_TERMINAL => s

/-- The departure of an ONLINE head, handed to every owner of what depends on it (R164); the caller then writes the head's new
state. A head that is not ONLINE has nothing to hand over. -/
def State.leaveOnline (s : State) (h : HeadId) : State :=
  match s.head? h with
  | none => s
  | some hd =>
    if hd.state = .ONLINE then
      ((((s.failPush h).lineDeparture h).grantDeparture h).holdDeparture h).gangwayDeparture hd
    else s

/-- A head enters ONLINE (R164): a door head's cabin gets the indicator work. -/
def State.enterOnline (s : State) (h : HeadId) : State :=
  let s := s.modifyHead h (fun hd => { hd with state := .ONLINE })
  match s.head? h with
  | some hd => s.cabinEntry hd
  | none => s

/-- A head that enters PROBING: missed turns 0, last accepted sequence none, and IDENT due at once (R151, R155, R172). -/
def Head.probing (hd : Head) : Head :=
  { hd with state := .PROBING, missed := 0, lastSeq := none, lastIdentEnd := none }

/-- A tune that ends or is broken off: its timer stops and a TUNE frame that waits to be enqueued is dropped (R168). -/
def Head.tuneOver (hd : Head) : Head := { hd with tuneTimer := none, frameWaits := false }

/-- The TUNE frame still queued for a head is removed unsent (R165, R169). -/
def State.removeTuneFrame (s : State) (h : HeadId) : State :=
  s.modifyLine h.line (fun ln => ln.removeFrames (isTuneFor h.address))

/-- The tune of a TUNING head ends: its TUNE frame, when still queued, goes unsent (R165 step 1). In any other state a frame that is
still queued stays (log entry 23). -/
def State.tuneFrameEnds (s : State) (h : HeadId) : State :=
  match s.head? h with
  | none => s
  | some hd => if hd.state = .TUNING then s.removeTuneFrame h else s

/-- The subject of a HEAD_STATE notice for a head that is now in state `st`; the reason goes with a fault (R176, R191). -/
def headStateSubject (h : HeadId) (st : Option HeadState) (reason : Option FaultReason) (code : Nat) : Subject :=
  .headState h st reason code

/-- The reasons that remove a TUNE frame still queued for the head: the tune timer and missed turns (R169). -/
def FaultReason.removesTune (r : FaultReason) : Bool := decide (r = .TUNE_TIMEOUT) || decide (r = .NO_ANSWER)

/-- A head becomes FAULTED (R172). `code` is the head's own fault code, for HEAD_REPORTED. -/
def State.faultHead (s : State) (h : HeadId) (reason : FaultReason) (code : Nat) : State :=
  let s := s.leaveOnline h
  let s := if reason.removesTune then s.removeTuneFrame h else s
  let retry := if reason = .CLASS_MISMATCH then none else some (s.startTimer (1000 * s.params.faultRetry))
  (s.modifyHead h (fun hd => { hd.tuneOver with state := .FAULTED, faultReason := some reason, retryTimer := retry })).raise
    .HEAD_STATE (headStateSubject h (some .FAULTED) (some reason) code)

/-! ## Tune starts (R168, R173) -/

/-- The heads that are TUNING and pass `p`. -/
def State.tuningCount (s : State) (p : Nat → Head → Bool) : Nat :=
  (s.heads.cells.filter (fun c => decide (c.2.state = .TUNING) && p c.1 c.2)).length

/-- The tuning limits of R168 for a start of the head at `h`. -/
def State.limitsAllow (s : State) (h : HeadId) (hd : Head) : Bool :=
  (decide (hd.neighbourhood = 0)
      || decide (s.tuningCount (fun k x => decide (k ≠ h.key) && decide (x.neighbourhood = hd.neighbourhood)) = 0))
    && decide (s.tuningCount (fun k _ => decide ((HeadId.ofKey k).line = h.line)) < s.params.tuningPerLine)

/-- An intake holds an entry of the head. -/
def Intake.hasFrom (q : Intake) (h : HeadId) : Bool := q.entries.any (fun e => decide (e.head = h))

/-- A head is idle under R173. -/
def State.idle (s : State) (h : HeadId) (hd : Head) : Bool :=
  let ln := s.line h.line
  !(s.doorIn.hasFrom h) && !(s.purchaseIn.hasFrom h) && !(s.laneIn.hasFrom h)
    && !(ln.turn.any (fun t => decide (t.target = h.address) && t.holds.isSome))
    && !(ln.queue.any (fun f => isDecisionFor h.address f || isSegmentFor h.address f))
    && hd.hold.isNone && hd.lastGrant.isNone
    && (decide (hd.cls ≠ .GANGWAY_LANE) || decide ((s.lane hd.bound).state = .CLOSED))

/-- The elapsed-time count has reached the value `t`, by difference (R173). -/
def State.reached (s : State) (t : Nat) : Bool := decide (s.since t < mod32 / 2)

/-- The time by which a head waits to tune, none when it does not wait: the next due time of a due ONLINE head, the tune wait of a
PROBING head (R173). An ONLINE head is due once its next due time has been reached, and stays due. -/
def State.waitsSince (s : State) (hd : Head) : Option Nat :=
  match hd.state with
  | .ONLINE => hd.nextDue.filter (fun t => hd.due || s.reached t)
  | .PROBING => hd.tuneWait
  | .IDLE | .TUNING | .FAULTED => none

/-- The conditions of a waiting head (R173). -/
def State.mayStart (s : State) (h : HeadId) (hd : Head) : Bool :=
  (s.waitsSince hd).isSome && s.limitsAllow h hd && (decide (hd.state = .PROBING) || s.idle h hd)

/-- Whether a head that has waited since `a` comes before one that has waited since `b`, both by difference to the present count. -/
def State.waitedLonger (s : State) (a b : Nat) : Bool := decide (s.since b < s.since a)

/-- The first head, in the order of R173, whose conditions hold: the oldest waiting time first, equal times by lower line and then
lower address. -/
def State.nextStart (s : State) : Option HeadId :=
  (s.heads.cells.foldl (fun (best : Option (Nat × Nat)) c =>
    let h := HeadId.ofKey c.1
    match s.waitsSince c.2 with
    | none => best
    | some t =>
      if s.mayStart h c.2 then
        match best with
        | none => some (c.1, t)
        | some (_, b) => if s.waitedLonger t b then some (c.1, t) else best
      else best) none).map (fun b => HeadId.ofKey b.1)

/-- The TUNE frame of a TUNING head is enqueued when its line has a free unreserved slot, and waits otherwise (R168 step 4). -/
def State.enqueueTune (s : State) (h : HeadId) (kind : TuneKind) : State :=
  if 0 < (s.line h.line).free then
    (s.modifyLine h.line (fun ln => ln.enqueue ⟨h.address, .tune kind⟩)).modifyHead h (fun hd => { hd with frameWaits := false })
  else s.modifyHead h (fun hd => { hd with frameWaits := true })

/-- The tune timer's duration by kind (R168). -/
def tuneMs : TuneKind → Nat
  | .LONG => Config.longTuneMs
  | .SHORT => Config.shortTuneMs

/-- A tune start is made (R168 steps 1 to 4). -/
def State.startTune (s : State) (h : HeadId) (kind : TuneKind) : State :=
  let s := s.leaveOnline h
  let s := s.modifyHead h (fun hd =>
    { hd with state := .TUNING, tuneKind := kind, tuneWait := none, lastTurnEnd := none, due := false,
              tuneTimer := some (s.startTimer (tuneMs kind)) })
  s.enqueueTune h kind

/-- The kind of tune a waiting head starts: LONG from PROBING, SHORT by the scheduler (R168). -/
def waitingKind (hd : Head) : TuneKind := if hd.state = .PROBING then .LONG else .SHORT

/-- One start of the scheduler: the first waiting head whose conditions hold (R173). -/
def State.scheduleOne (s : State) : State :=
  match s.nextStart with
  | none => s
  | some h =>
    match s.head? h with
    | none => s
    | some hd => s.startTune h (waitingKind hd)

/-- One attempt of the scheduler: every waiting head whose conditions hold is started, in order, each counted before the next (R173).
A start only takes places, so the starts of one attempt are at most as many as the heads. -/
def State.schedule : Nat → State → State
  | 0, s => s
  | n + 1, s =>
    match s.nextStart with
    | none => s
    | some _ => State.schedule n s.scheduleOne

/-- An attempt over all heads. -/
def State.attemptStarts (s : State) : State := State.schedule s.heads.size s

/-! ## The end of a tune (R170, R171) -/

/-- The corrected field strength, none when d is 0 or below (R170). -/
def corrected (low high field : Int) (refLow refHigh : Nat) : Option Nat :=
  let d := high - low
  if d ≤ 0 then none
  else
    let n := (field - low) * ((refHigh : Int) - refLow)
    let q := Int.fdiv (2 * n + d) (2 * d)
    some (max 0 (min 1000 ((refLow : Int) + q))).toNat

/-- The quality of a corrected field strength, none for FIELD_FAILED (R171). -/
def outcomeOf : Option Nat → Option Quality
  | none => none
  | some v =>
    if v < Config.failThreshold then none
    else if v < Config.weakThreshold then some .WEAK
    else some .GOOD

/-- The ms to the next due time after a GOOD or WEAK tune (R171). -/
def dueAfter (interval : Nat) : Quality → Nat
  | .WEAK => interval * 30000
  | .GOOD => interval * 60000
  | .UNTUNED => interval * 60000

/-- A tune ends by its readings (R169, R171), each taken as the number sent, also one above 4,095 (PRESUMED, log entry 17). -/
def State.finishTune (s : State) (h : HeadId) (hd : Head) (low high field : Nat) : State :=
  let value := corrected low high field s.params.refLow s.params.refHigh
  match outcomeOf value with
  | none =>
    (s.modifyHead h (fun hd => { hd with field := value, quality := .UNTUNED, nextDue := none })).faultHead h .FIELD_FAILED 0
  | some quality =>
    let s := s.modifyHead h (fun hd =>
      { hd.tuneOver with field := value, quality, lastTune := some s.elapsed,
                         nextDue := some (s.after (dueAfter s.params.shortTune quality)), notified := false, due := false })
    let s := s.enterOnline h
    if quality = .WEAK ∧ hd.quality ≠ .WEAK then s.raise .HEAD_STATE (headStateSubject h (some .ONLINE) none 0) else s

/-- The line on which a head stands is RUNNING. -/
def State.lineRunning (s : State) (l : Nat) : Bool := decide ((s.line l).state = .RUNNING)

/-- The state a head takes by its line: PROBING on a RUNNING line, IDLE on a DOWN line (R163, R165, R179). -/
def Head.byLine (hd : Head) (running : Bool) : Head := if running then hd.probing else { hd with state := .IDLE }

end Sys2Proof.Machine
end

