-- ==== Sys2Proof/Machine/LinkOps.lean ====
section
/-! DEFINITION. The System Link Port's operations: SPI transactions, request frames, the parameter store and the reply bodies of
the SLP's own requests (R13, R180 to R188, R191). -/

namespace Sys2Proof.Machine

open Sys2Proof

/-! ## SPI transactions (R180 to R182, R191) -/

/-- What a transaction is, by the bytes clocked in (R182, R191). -/
inductive Transaction where
  /-- No byte was clocked. -/
  | empty
  /-- The first byte is 00h. -/
  | read
  /-- It ended before the frame's last byte, or its length field is above 1,024 (R181). -/
  | truncated
  /-- A whole request frame; bytes after its last byte are ignored (log entry 12). -/
  | frame (bytes : List Byte)
  deriving DecidableEq, Repr

/-- Class a transaction by the bytes clocked in. -/
def classify (bytes : List Byte) : Transaction :=
  match bytes with
  | [] => .empty
  | first :: _ =>
    if first = 0x00#8 then .read
    else if bytes.length < 5 then .truncated
    else
      let length := numberOf ((bytes.drop 3).take 2)
      if Config.bodyBytes < length then .truncated
      else if bytes.length < 7 + length then .truncated
      else .frame (bytes.take (7 + length))

/-- The bytes clocked out in a transaction of `n` bytes: the oldest message from its first byte, or the empty marker (R182, R191).
What follows a message's last byte is a free value. -/
def State.bytesOut (s : State) (n : Nat) : List Byte :=
  match s.link.outgoing with
  | [] => List.replicate n 0x00#8
  | m :: _ => (m.bytes ++ (List.range (n - m.bytes.length)).map (Config.byteBeyondMessage s.draws)).take n

/-- A transaction of `n` bytes clocks its bytes out. -/
def State.clockOut (s : State) (n : Nat) : State :=
  { s with link := { s.link with clockedOut := s.bytesOut n }, draws := s.draws + 1 }

/-- A read of `n` bytes takes the oldest message out when it runs to the message's last byte (R182). -/
def Link.readOut (k : Link) (n : Nat) : Link :=
  match k.outgoing with
  | [] => k
  | m :: rest => if m.bytes.length ≤ n then { k with outgoing := rest } else k

/-- A read transaction of `n` bytes. -/
def State.readMessage (s : State) (n : Nat) : State :=
  let k := s.link.readOut n
  { s.clockOut n with link := { k with clockedOut := s.bytesOut n } }

/-- A reply queued at once on the frame's own reservation: it is unanswered until it is read out (R180, R181). -/
def Link.answeredAtOnce (k : Link) (tag kind : Byte) (status : Status) : Link :=
  { k with outgoing := k.outgoing ++ [.reply tag kind status []] }

/-- The CRC-16 of a whole frame is right. -/
def frameChecks (frame : List Byte) : Bool :=
  decide (u16 (crc16 (frame.take (frame.length - 2))).toNat = frame.drop (frame.length - 2))

/-- The SLP takes a whole frame: the first case of R180 that applies, with R181's judgement of CRC and type byte. -/
def Link.takeFrame (k : Link) (frame : List Byte) : Link :=
  if Config.unansweredRequests ≤ k.unanswered then { k with overruns := bump k.overruns }
  else if !frameChecks frame || decide (frame.getD 0 0 ≠ 0x5A#8) then
    { k.answeredAtOnce 0x00#8 0x00#8 .BAD_FRAME with badFrames := bump k.badFrames }
  else
    let tag := frame.getD 1 0
    let kind := frame.getD 2 0
    match decodeRequest kind.toNat tag ((frame.drop 5).take (frame.length - 7)) with
    | .request c => k.handed c
    | .unknownKind => k.answeredAtOnce tag kind .UNKNOWN_KIND
    | .badLength => k.answeredAtOnce tag kind .BAD_LENGTH

/-- A transaction with these bytes clocked in. In a request transaction the bytes clocked out remove nothing (R182). -/
def State.transact (s : State) (bytes : List Byte) : State :=
  match classify bytes with
  | .empty => s
  | .read => s.readMessage bytes.length
  | .truncated =>
    let s := s.clockOut bytes.length
    { s with link := { s.link with truncated := bump s.link.truncated } }
  | .frame frame =>
    let s := s.clockOut bytes.length
    { s with link := s.link.takeFrame frame }

/-- R186: the first owed class has its message queued while the queue holds fewer than four notice messages; notice owed clears. -/
def State.queueNotice (s : State) : State :=
  if s.link.notices < Config.noticeSlots then
    match s.owedClass with
    | none => s
    | some c =>
      let l := s.latch c
      { s.setLatch c { l with owed := false } with
        link := { s.link with outgoing := s.link.outgoing ++ [.notice c l.count l.subject] } }
  else s

/-! ## The parameter store (R13, R184, R185) -/

/-- The range of a numeric parameter by its row of R184, none for the rest. -/
def numericRange : Nat → Option (Nat × Nat)
  | 0 => some (1, 10)
  | 1 => some (100, 2000)
  | 2 => some (500, 5000)
  | 3 => some (200, 3000)
  | 4 => some (5, 600)
  | 5 => some (5, 1440)
  | 6 => some (1, 4)
  | 7 => some (0, 1000)
  | 8 => some (0, 1000)
  | 16 => some (10, 600)
  | 17 => some (0, 99999999)
  | 18 => some (0, 86399)
  | 19 => some (1, 4096)
  | 20 => some (2, 120)
  | 21 => some (10, 300)
  | 22 => some (1, 511)
  | _ => none

/-- Store a numeric parameter. -/
def Params.store (p : Params) (ident v : Nat) : Params :=
  match ident with
  | 0 => { p with missedTurnLimit := v }
  | 1 => { p with doorWindow := v }
  | 2 => { p with terminalWindow := v }
  | 3 => { p with laneWindow := v }
  | 4 => { p with faultRetry := v }
  | 5 => { p with shortTune := v }
  | 6 => { p with tuningPerLine := v }
  | 7 => { p with refLow := v }
  | 8 => { p with refHigh := v }
  | 16 => { p with holdTimeout := v }
  | 17 => { p with offlineAllowance := v }
  | 18 => { p with dayOffset := v }
  | 19 => { p with highWater := v }
  | 20 => { p with pendingTimeout := v }
  | 21 => { p with officerWait := v }
  | 22 => { p with bankThreshold := v }
  | _ => p

/-- The value of a parameter by its row of R184; an enumeration by its value's code. -/
def Params.value (p : Params) : Nat → Option Nat
  | 0 => some p.missedTurnLimit
  | 1 => some p.doorWindow
  | 2 => some p.terminalWindow
  | 3 => some p.laneWindow
  | 4 => some p.faultRetry
  | 5 => some p.shortTune
  | 6 => some p.tuningPerLine
  | 7 => some p.refLow
  | 8 => some p.refHigh
  | 9 => some Config.weakThreshold
  | 10 => some Config.failThreshold
  | 11 => some p.bucketA
  | 12 => some p.bucketB
  | 13 => some p.doorPolicy.ctorIdx
  | 14 => some (if p.privacyLapse then 1 else 0)
  | 15 => some p.chargePolicy.ctorIdx
  | 16 => some p.holdTimeout
  | 17 => some p.offlineAllowance
  | 18 => some p.dayOffset
  | 19 => some p.highWater
  | 20 => some p.pendingTimeout
  | 21 => some p.officerWait
  | 22 => some p.bankThreshold
  | 23 => some p.bankPolicy.ctorIdx
  | _ => none

/-- The range a PARAM GET reports. DEDUCED (log entry 13): an enumeration or switch reports 0 to 1, each reference the whole 0 to
1000, and a fixed threshold its value twice. -/
def reportedRange : Nat → Nat × Nat
  | 9 => (Config.weakThreshold, Config.weakThreshold)
  | 10 => (Config.failThreshold, Config.failThreshold)
  | 11 => (0, 9)
  | 12 => (0, 9)
  | 13 => (0, 1)
  | 14 => (0, 1)
  | 15 => (0, 1)
  | 23 => (0, 1)
  | n => (numericRange n).getD (0, 0)

/-- A value brought within a range. -/
def clampTo (v : Int) (r : Nat × Nat) : Nat := (max (r.1 : Int) (min (r.2 : Int) v)).toNat

/-- The identifier and value a PARAM SET's reply carries. -/
def encParam (ident : Nat) (v : Nat) : List Byte := u8 ident ++ s32 v

/-- A value stored: OK, or OK_CLAMPED when it is not the value asked for. -/
def State.stored (s : State) (p : Params) (ident v : Nat) (asked : Int) : Answer :=
  ⟨{ s with params := p }, if (v : Int) = asked then .OK else .OK_CLAMPED, encParam ident v⟩

/-- R13: the CRS decides a bucket byte. -/
def State.setBucketByte (s : State) (ident : Nat) (value : Int) (other : Nat) (p : Nat → Params) : Answer :=
  if value < 0 ∨ 9 < value then s.refuse .OUT_OF_RANGE
  else if value = other then s.refuse .OUT_OF_RANGE
  else if s.cards.size ≠ 0 then s.refuse .WRONG_STATE
  else s.stored (p value.toNat) ident value.toNat value

/-- The work a changed parameter starts (R185): the JOURNAL_HIGH evaluation, or the swap check. -/
def State.paramWork (s : State) (ident : Nat) : State :=
  if ident = 19 then s.evaluateJournal
  else if ident = 22 ∨ ident = 23 then s.swapCheck
  else s

/-- PARAM SET decided by the first case of R185 that applies, without the work it starts. -/
def State.paramDecided (s : State) (ident : Nat) (value : Int) : Answer :=
  match ident with
  | 11 => s.setBucketByte 11 value s.params.bucketB (fun v => { s.params with bucketA := v })
  | 12 => s.setBucketByte 12 value s.params.bucketA (fun v => { s.params with bucketB := v })
  | 13 =>
    if value = 0 then s.stored { s.params with doorPolicy := .GRANT_AND_NOTIFY } 13 0 value
    else if value = 1 then s.stored { s.params with doorPolicy := .DENY } 13 1 value
    else s.refuse .OUT_OF_RANGE
  | 14 =>
    if value = 0 then s.stored { s.params with privacyLapse := false } 14 0 value
    else if value = 1 then s.stored { s.params with privacyLapse := true } 14 1 value
    else s.refuse .OUT_OF_RANGE
  | 15 =>
    if value = 0 then s.stored { s.params with chargePolicy := .ALLOW_AND_NOTIFY } 15 0 value
    else if value = 1 then s.stored { s.params with chargePolicy := .REFUSE } 15 1 value
    else s.refuse .OUT_OF_RANGE
  | 23 =>
    if value = 0 then s.stored { s.params with bankPolicy := .FILL_TO_CAPACITY } 23 0 value
    else if value = 1 then s.stored { s.params with bankPolicy := .HOLD_AT_THRESHOLD } 23 1 value
    else s.refuse .OUT_OF_RANGE
  | _ =>
    match numericRange ident with
    | none => s.refuse .OUT_OF_RANGE
    | some r =>
      let v := clampTo value r
      if ident = 7 ∧ ¬ v < s.params.refHigh then s.refuse .OUT_OF_RANGE
      else if ident = 8 ∧ ¬ s.params.refLow < v then s.refuse .OUT_OF_RANGE
      else s.stored (s.params.store ident v) ident v value

/-- PARAM SET (R185). -/
def State.paramSetWork (s : State) (ident : Nat) (value : Int) : Answer :=
  let a := s.paramDecided ident value
  if a.status = .OUT_OF_RANGE ∨ a.status = .WRONG_STATE then a else { a with state := a.state.paramWork ident }

/-- One parameter of a PARAM GET: identifier and value, default, low and high, 4 signed bytes each. DEDUCED (log entry 13): R192 gives
the form of the value alone. -/
def State.encParamRow (s : State) (ident : Nat) : List Byte :=
  encParam ident ((s.params.value ident).getD 0) ++ s32 ((Params.default.value ident).getD 0 : Nat)
    ++ s32 ((reportedRange ident).1 : Nat) ++ s32 ((reportedRange ident).2 : Nat)

/-- PARAM GET (R185). -/
def State.paramGetWork (s : State) (ident : Option Nat) : Answer :=
  match ident with
  | none => s.done (listOf s.encParamRow (List.range 24))
  | some i => if i < 24 then s.done (listOf s.encParamRow [i]) else s.refuse .OUT_OF_RANGE

/-! ## Clock, notices and status (R183, R187, R188) -/

/-- CLOCK SET (R183). -/
def State.clockSetWork (s : State) (time : Nat) : Answer :=
  if time ≤ max32 then { s with clock := ⟨.SET, time, 0⟩ : State }.done else s.refuse .OUT_OF_RANGE

/-- CLOCK GET (R183). -/
def State.clockGetWork (s : State) : Answer :=
  s.done (u8 s.clock.state.ctorIdx ++ u32 s.clock.time ++ u32 s.secondOfDay ++ u16 s.folioDay ++ u32 s.elapsed)

/-- NOTICE MASK (R187). -/
def State.noticeMaskWork (s : State) (classes : Nat) : Answer :=
  match classSet classes with
  | none => s.refuse .OUT_OF_RANGE
  | some on =>
    let s := NoticeClass.all.foldl (fun s c => s.setLatch c ((s.latch c).masked (on.contains c))) s
    s.done (u16 s.mask)

/-- A latch as NOTICE CLEAR reports it; a present subject is its eight padded bytes and four of ship time (DEDUCED, log entry 13). -/
def encLatch (l : Latch) : List Byte := flag l.pending ++ u16 l.count ++ opt encSubject l.subject

/-- NOTICE CLEAR (R187): the latches as they stand, and then cleared. DEDUCED (log entry 13): they follow one another in class order,
with no count byte and no class code. -/
def State.noticeClearWork (s : State) (classes : Nat) : Answer :=
  match classSet classes with
  | none => s.refuse .OUT_OF_RANGE
  | some set =>
    (set.foldl (fun s c => s.setLatch c (s.latch c).cleared) s).done ((set.map (fun c => encLatch (s.latch c))).flatten)

/-- The occupancy of an intake queue: two counts of R192's two-byte row (log entry 13). -/
def encIntake (q : Intake) : List Byte := u16 q.entries.length ++ u16 q.reserved

/-- STATUS GET (R188). Its counts, the small ones too, take R192's two bytes for a count, and the Reconcile Scanner's state, for which no
list of the manual gives an order, is 00h for IDLE and 01h for SCANNING; the twelve latches and the sixteen line states, whose numbers are
fixed, follow in order without a count byte (DEDUCED, log entry 13). -/
def State.statusGetWork (s : State) : Answer :=
  s.done (u8 s.clock.state.ctorIdx ++ u32 s.clock.time ++ u32 s.elapsed
    ++ u8 s.upstream.ctorIdx ++ u32 s.epoch
    ++ u16 s.link.unanswered ++ u16 s.link.outgoing.length
    ++ u32 s.link.overruns ++ u32 s.link.badFrames ++ u32 s.link.truncated
    ++ u16 s.mask ++ (NoticeClass.all.map (fun c => encLatch (s.latch c) ++ flag (s.latch c).owed)).flatten
    ++ encIntake s.doorIn ++ encIntake s.purchaseIn ++ encIntake s.laneIn ++ flag s.intakeWaits
    ++ ((List.range Config.lines).map (fun l => u8 (s.line l).state.ctorIdx)).flatten
    ++ u16 s.journal.length ++ u16 s.openHolds.length ++ u16 s.deferred.length
    ++ u8 (if s.scanner.isSome then 1 else 0) ++ u8 s.sweeper.state.ctorIdx)

end Sys2Proof.Machine
end

