-- ==== Sys2Proof/Machine/Roster.lean ====
section
/-! DEFINITION. The Credential Store: the person and card requests, and the card lookup every job's decision begins with
(R6 to R10, R12 to R21). -/

namespace Sys2Proof.Machine

open Sys2Proof

/-! ## Naming a record (R9, R60, R192) -/

/-- The slot a selector and its four bytes name: by slot (the low two bytes) or by id. A refusal carries its status. -/
def slotNamed {α : Type} (t : Table α) (bound : Nat) (idOf : α → Nat) (selector value : Nat) : Except Status Nat :=
  if selector = 0 then
    if bound ≤ value % 65536 then .error .OUT_OF_RANGE
    else if (t.get (value % 65536)).isNone then .error .NOT_FOUND
    else .ok (value % 65536)
  else if selector = 1 then
    match t.findKey (fun r => idOf r = value) with
    | some k => .ok k
    | none => .error .NOT_FOUND
  else .error .OUT_OF_RANGE

/-! ## Person requests -/

/-- The id is held by an occupied slot other than `slot` (R6 check 2). -/
def State.personIdElsewhere (s : State) (slot id : Nat) : Bool :=
  s.persons.cells.any (fun c => decide (c.1 ≠ slot) && decide (c.2.ident.id = id))

/-- The cabin numbers of the person now in the slot, none for an empty slot. -/
def State.presentCabins (s : State) (slot : Nat) : List Nat := ((s.persons.get slot).map (·.ident.cabins)).getD []

/-- Every cabin of the list is in the Cabin Table, and the folio slot, when present, holds a folio (R6 check 5). -/
def State.namesExist (s : State) (i : Identity) : Bool :=
  i.cabins.all (fun n => (s.cabinSlot n).isSome) && i.folio.all (fun f => (s.folios.get f).isSome)

/-- A cabin the person is joining already has six occupants (R6 check 6). -/
def State.joinsFullCabin (s : State) (slot : Nat) (cabins : List Nat) : Bool :=
  cabins.any (fun n => !(s.presentCabins slot).contains n
    && (s.cabin? n).any (fun c => decide (Config.cabinOccupants ≤ c.occupants.length)))

/-- The refusal of a PERSON PUT by the checks of R6, in order; none when it passes. -/
def State.personPutRefusal (s : State) (slot : Nat) (fields : PersonFields) : Option Status :=
  match identityOf fields with
  | none => some .OUT_OF_RANGE
  | some i =>
    if Config.personSlots ≤ slot then some .OUT_OF_RANGE
    else if s.personIdElsewhere slot i.id then some .EXISTS
    else if (s.persons.get slot).any (fun p => decide (p.ident.id ≠ i.id)) then some .WRONG_STATE
    else if s.crossingNames slot || s.holdNames slot then some .IN_USE
    else if !s.namesExist i then some .NOT_FOUND
    else if s.joinsFullCabin slot i.cabins then some .FULL
    else none

/-- A new person: the identity of the request and the start values of R3. -/
def Person.fresh (i : Identity) : Person where
  ident         := i
  presence      := .UNKNOWN
  lastCrossing  := none
  childSpent    := ⟨0, 0⟩
  childReserved := 0
  unitsUsed     := ⟨0, 0⟩
  unitsReserved := 0

/-- The person leaves the cabins of `old` that are not in `new`, then joins those of `new` that are not in `old` (R8). -/
def State.moveCabins (s : State) (slot : Nat) (presence : Presence) (old new : List Nat) : State :=
  let s := (old.filter (fun n => !new.contains n)).foldl (fun s n => s.leaveCabin slot presence n) s
  (new.filter (fun n => !old.contains n)).foldl (fun s n => s.joinCabin slot presence n) s

/-- The effects of an accepted PERSON PUT: R7 on an empty slot, R8 on an occupied one. -/
def State.personWritten (s : State) (slot : Nat) (i : Identity) : State :=
  match s.persons.get slot with
  | none =>
    let p := Person.fresh i
    (({ s with persons := s.persons.set slot p }).moveCabins slot p.presence [] i.cabins).censusHandoff slot none (some p.standing)
  | some old =>
    let p := { old with ident := i }
    (({ s with persons := s.persons.set slot p }).moveCabins slot p.presence old.ident.cabins i.cabins).censusHandoff slot
      (some old.standing) (some p.standing)

/-- PERSON PUT (R6). -/
def State.personPutWork (s : State) (slot : Nat) (fields : PersonFields) : Answer :=
  match s.personPutRefusal slot fields, identityOf fields with
  | none, some i => (s.personWritten slot i).done
  | some status, _ => s.refuse status
  | none, none => s.refuse .OUT_OF_RANGE

/-- The place of a person's ACTIVE card (R12: there is at most one). -/
def State.activeCard (s : State) (slot : Nat) : Option Nat :=
  s.cards.findKey (fun e => decide (e.slot = slot) && decide (e.state = .ACTIVE))

/-- The body of PERSON GET (R9). -/
def State.personBody (s : State) (slot : Nat) (p : Person) : List Byte :=
  u16 slot ++ encPerson p
    ++ u32 (p.childSpent.read s.folioDay) ++ u32 p.childSpent.value ++ u16 p.childSpent.day
    ++ u8 (p.unitsUsed.read s.folioDay) ++ u8 p.unitsUsed.value ++ u16 p.unitsUsed.day
    ++ opt (fun e : CardEntry => encUid e.uid ++ u8 e.issue) ((s.activeCard slot).bind s.cards.get)

/-- PERSON GET (R9). -/
def State.personGetWork (s : State) (selector value : Nat) : Answer :=
  match slotNamed s.persons Config.personSlots (fun p => p.ident.id) selector value with
  | .error status => s.refuse status
  | .ok slot =>
    match s.persons.get slot with
    | none => s.refuse .NOT_FOUND
    | some p => s.done (s.personBody slot p)

/-- The steps of an accepted PERSON DROP (R10). -/
def State.personDropped (s : State) (slot : Nat) (p : Person) : State :=
  let s := { s with cards := s.cards.keep (fun _ e => decide (e.slot ≠ slot)) }
  let s := (p.ident.cabins.foldl (fun s n => s.leaveCabin slot p.presence n) s).censusHandoff slot (some p.standing) none
  { s with persons := s.persons.erase slot }

/-- PERSON DROP (R10). -/
def State.personDropWork (s : State) (slot : Nat) : Answer :=
  if Config.personSlots ≤ slot then s.refuse .OUT_OF_RANGE
  else
    match s.persons.get slot with
    | none => s.refuse .NOT_FOUND
    | some p =>
      if s.crossingNames slot || s.holdNames slot then s.refuse .IN_USE
      else (s.personDropped slot p).done

/-! ## The Card Index (R13 to R15) -/

/-- A byte of a UID; one at or beyond its length reads as 0 (R13). -/
def uidByte (u : Uid) (n : Nat) : Nat := (u.getD n 0).toNat

/-- The bucket of a UID (R13). -/
def State.bucketOf (s : State) (u : Uid) : Nat :=
  (uidByte u s.params.bucketA * 256 + uidByte u s.params.bucketB) % Config.buckets

/-- The Card Index's key of a bucket's position. -/
def cardKey (bucket position : Nat) : Nat := Config.bucketPositions * bucket + position

/-- The keys of a bucket, positions 0 to 7. -/
def bucketKeys (bucket : Nat) : List Nat := (List.range Config.bucketPositions).map (cardKey bucket)

/-- The lookup of R15: the key of the entry whose UID matches, in the UID's bucket. -/
def State.cardKeyOf (s : State) (u : Uid) : Option Nat :=
  (bucketKeys (s.bucketOf u)).find? (fun k => (s.cards.get k).any (fun e => decide (e.uid = u)))

/-- The entry a lookup returns. -/
def State.lookup (s : State) (u : Uid) : Option CardEntry := (s.cardKeyOf u).bind s.cards.get

/-- The lookup of a tapped UID; one whose length is not 4, 7 or 10 is in no entry. -/
def State.lookupRaw (s : State) (u : RawUid) : Option CardEntry := (uidOf u).bind s.lookup

/-- The entry of a UID and an issue number (R17 to R19). -/
def State.cardIssued (s : State) (u : Uid) (issue : Nat) : Option (Nat × CardEntry) :=
  match s.cardKeyOf u with
  | none => none
  | some k =>
    match s.cards.get k with
    | none => none
    | some e => if e.issue = issue then some (k, e) else none

/-- An entry's state is written. -/
def State.setCardState (s : State) (k : Nat) (st : CardState) : State :=
  { s with cards := s.cards.modify k (fun e => { e with state := st }) }

/-! ## Card requests (R16 to R21) -/

/-- The place of an enrolment: the lowest free position of the bucket, else that of its lowest REVOKED entry (R16 step 1). -/
def State.enrolKey (s : State) (bucket : Nat) : Option Nat :=
  match (bucketKeys bucket).find? (fun k => (s.cards.get k).isNone) with
  | some k => some k
  | none => (bucketKeys bucket).find? (fun k => (s.cards.get k).any (fun e => decide (e.state = .REVOKED)))

/-- Steps 2 and 3 of R16 at the place picked: the entry is written, and an ACTIVE one revokes the person's old ACTIVE card. -/
def State.enrolled (s : State) (k : Nat) (e : CardEntry) : State :=
  let old := s.activeCard e.slot
  let s := { s with cards := s.cards.set k e }
  match e.state, old with
  | .ACTIVE, some o => s.setCardState o .REVOKED
  | _, _ => s

/-- CARD ENROL (R16). -/
def State.cardEnrolWork (s : State) (u : RawUid) (slot issue state : Nat) : Answer :=
  match uidOf u, CardState.ofCode state with
  | some uid, some st =>
    if Config.personSlots ≤ slot then s.refuse .OUT_OF_RANGE
    else if (s.persons.get slot).isNone then s.refuse .NOT_FOUND
    else if (s.cardKeyOf uid).isSome then s.refuse .EXISTS
    else
      match s.enrolKey (s.bucketOf uid) with
      | none => s.refuse .FULL
      | some k => (s.enrolled k ⟨uid, slot, issue, st⟩).done
  | _, _ => s.refuse .OUT_OF_RANGE

/-- A card request on the entry of a UID and an issue number, by the entry's state (R17 to R19): a refusal, or the new state. -/
def State.cardChange (s : State) (u : RawUid) (issue : Nat) (change : CardEntry → Except Status CardState) : Answer :=
  match uidOf u with
  | none => s.refuse .OUT_OF_RANGE
  | some uid =>
    match s.cardIssued uid issue with
    | none => s.refuse .NOT_FOUND
    | some (k, e) =>
      match change e with
      | .error status => s.refuse status
      | .ok st => (s.setCardState k st).done

/-- CARD REVOKE (R17). -/
def State.cardRevokeWork (s : State) (u : RawUid) (issue : Nat) : Answer :=
  s.cardChange u issue (fun _ => .ok .REVOKED)

/-- CARD SUSPEND (R18). -/
def State.cardSuspendWork (s : State) (u : RawUid) (issue : Nat) : Answer :=
  s.cardChange u issue (fun e =>
    match e.state with
    | .ACTIVE => .ok .SUSPENDED
    | .SUSPENDED => .ok .SUSPENDED
    | .REVOKED => .error .WRONG_STATE)

/-- CARD RESUME (R19). -/
def State.cardResumeWork (s : State) (u : RawUid) (issue : Nat) : Answer :=
  s.cardChange u issue (fun e =>
    match e.state with
    | .ACTIVE => .ok .ACTIVE
    | .REVOKED => .error .WRONG_STATE
    | .SUSPENDED => if (s.activeCard e.slot).isSome then .error .WRONG_STATE else .ok .ACTIVE)

/-- The body of CARD FIND (R20). -/
def State.cardBody (s : State) (k : Nat) (e : CardEntry) : List Byte :=
  encUid e.uid ++ u16 (k / Config.bucketPositions) ++ u8 (k % Config.bucketPositions) ++ u8 e.state.ctorIdx ++ u8 e.issue
    ++ u16 e.slot ++ u32 (((s.persons.get e.slot).map (·.ident.id)).getD 0)

/-- CARD FIND (R20). -/
def State.cardFindWork (s : State) (u : RawUid) : Answer :=
  match uidOf u with
  | none => s.refuse .OUT_OF_RANGE
  | some uid =>
    match s.cardKeyOf uid with
    | none => s.refuse .NOT_FOUND
    | some k =>
      match s.cards.get k with
      | none => s.refuse .NOT_FOUND
      | some e => s.done (s.cardBody k e)

/-- CARD PURGE (R21): the number of entries removed travels in two bytes. -/
def State.cardPurgeWork (s : State) : Answer :=
  let removed := s.cards.count (fun e => decide (e.state = .REVOKED))
  { s with cards := s.cards.keep (fun _ e => decide (e.state ≠ .REVOKED)) : State }.done (u16 removed)

/-! ## The commands -/

/-- PERSON PUT. -/
def execPersonPut (tag : Byte) (slot : Nat) (fields : PersonFields) (s : State) : Host.Outcome State Fault Refusal :=
  .next (s.serve (.personPut tag slot fields) (fun s => s.personPutWork slot fields))

/-- PERSON GET. -/
def execPersonGet (tag : Byte) (selector value : Nat) (s : State) : Host.Outcome State Fault Refusal :=
  .next (s.serve (.personGet tag selector value) (fun s => s.personGetWork selector value))

/-- PERSON DROP. -/
def execPersonDrop (tag : Byte) (slot : Nat) (s : State) : Host.Outcome State Fault Refusal :=
  .next (s.serve (.personDrop tag slot) (fun s => s.personDropWork slot))

/-- CARD ENROL. -/
def execCardEnrol (tag : Byte) (uid : RawUid) (slot issue state : Nat) (s : State) : Host.Outcome State Fault Refusal :=
  .next (s.serve (.cardEnrol tag uid slot issue state) (fun s => s.cardEnrolWork uid slot issue state))

/-- CARD REVOKE. -/
def execCardRevoke (tag : Byte) (uid : RawUid) (issue : Nat) (s : State) : Host.Outcome State Fault Refusal :=
  .next (s.serve (.cardRevoke tag uid issue) (fun s => s.cardRevokeWork uid issue))

/-- CARD SUSPEND. -/
def execCardSuspend (tag : Byte) (uid : RawUid) (issue : Nat) (s : State) : Host.Outcome State Fault Refusal :=
  .next (s.serve (.cardSuspend tag uid issue) (fun s => s.cardSuspendWork uid issue))

/-- CARD RESUME. -/
def execCardResume (tag : Byte) (uid : RawUid) (issue : Nat) (s : State) : Host.Outcome State Fault Refusal :=
  .next (s.serve (.cardResume tag uid issue) (fun s => s.cardResumeWork uid issue))

/-- CARD FIND. -/
def execCardFind (tag : Byte) (uid : RawUid) (s : State) : Host.Outcome State Fault Refusal :=
  .next (s.serve (.cardFind tag uid) (fun s => s.cardFindWork uid))

/-- CARD PURGE. -/
def execCardPurge (tag : Byte) (s : State) : Host.Outcome State Fault Refusal :=
  .next (s.serve (.cardPurge tag) (fun s => s.cardPurgeWork))

end Sys2Proof.Machine
end

