-- ==== Sys2Proof/Machine/Doors.lean ====
section
/-! DEFINITION. The Door Decision Unit: the cabin requests, the door decision order and the door events (R29 to R43). -/

namespace Sys2Proof.Machine

open Sys2Proof

/-! ## Taking an entry by its kind -/

/-- A job unit takes the oldest entry of its intake when `handle` knows the entry's event as the command's; otherwise there is nothing
for the command to take (log entry 8). -/
def State.takeOldest (s : State) (c : HeadClass) (handle : Entry → Option (State → State)) : State :=
  match s.oldest c with
  | none => s
  | some e =>
    match handle e with
    | none => s
    | some apply => s.takeEntry c e apply

/-! ## Cabin requests (R40 to R43) -/

/-- The cabin numbers of the table's range. -/
def cabinNumber (n : Nat) : Bool := decide (1 ≤ n) && decide (n ≤ 9999)

/-- A new cabin: the start values of R24. -/
def Cabin.fresh (number zone : Nat) : Cabin where
  number    := number
  zone      := zone
  doorHead  := none
  occupants := []
  aboard    := 0
  privacy   := .OPEN
  deadbolt  := .UNKNOWN
  owed      := false
  ring      := []

/-- CABIN PUT (R40). -/
def State.cabinPutWork (s : State) (number zone : Nat) : Answer :=
  if !cabinNumber number || decide (31 < zone) then s.refuse .OUT_OF_RANGE
  else
    match s.cabinSlot number with
    | some k => (s.modifyCabin k (fun c => { c with zone := zone })).done (u16 k)
    | none =>
      match s.cabins.lowestEmpty Config.cabinSlots with
      | none => s.refuse .FULL
      | some k => { s with cabins := s.cabins.set k (Cabin.fresh number zone) : State }.done (u16 k)

/-- An occupant of a CABIN GET: slot, id and presence. -/
def State.encOccupant (s : State) (slot : Nat) : List Byte :=
  match s.persons.get slot with
  | some p => u16 slot ++ u32 p.ident.id ++ u8 p.presence.ctorIdx
  | none => u16 slot ++ u32 0 ++ u8 0

/-- The last grant of a head. -/
def State.lastGrant (s : State) (h : HeadId) : Option Grant := (s.head? h).bind (·.lastGrant)

/-- The body of CABIN GET (R41); the aboard count takes two bytes (log entry 13). -/
def State.cabinBody (s : State) (k : Nat) (c : Cabin) : List Byte :=
  u16 k ++ u16 c.number ++ u8 c.zone ++ opt (fun h => encHead h ++ opt encGrant (s.lastGrant h)) c.doorHead
    ++ listOf s.encOccupant c.occupants ++ u16 c.aboard ++ u8 c.privacy.ctorIdx ++ u8 c.deadbolt.ctorIdx ++ flag c.owed
    ++ listOf encAudit c.ring

/-- CABIN GET (R41). -/
def State.cabinGetWork (s : State) (number : Nat) : Answer :=
  if !cabinNumber number then s.refuse .OUT_OF_RANGE
  else
    match s.cabinSlot number with
    | none => s.refuse .NOT_FOUND
    | some k =>
      match s.cabins.get k with
      | none => s.refuse .NOT_FOUND
      | some c => s.done (s.cabinBody k c)

/-- CABIN DROP (R42). -/
def State.cabinDropWork (s : State) (number : Nat) : Answer :=
  if !cabinNumber number then s.refuse .OUT_OF_RANGE
  else
    match s.cabinSlot number with
    | none => s.refuse .NOT_FOUND
    | some k =>
      if (s.cabins.get k).any (fun c => !c.occupants.isEmpty || c.doorHead.isSome) then s.refuse .IN_USE
      else { s with cabins := s.cabins.erase k : State }.done

/-- PRIVACY SET (R43). -/
def State.privacySetWork (s : State) (number value : Nat) : Answer :=
  match Privacy.ofCode value with
  | none => s.refuse .OUT_OF_RANGE
  | some privacy =>
    if !cabinNumber number then s.refuse .OUT_OF_RANGE
    else
      match s.cabinSlot number with
      | none => s.refuse .NOT_FOUND
      | some k => ((s.modifyCabin k (fun c => { c with privacy := privacy })).indicatorWork k).done

/-! ## The door decision order (R4, R33, R34) -/

/-- A shift window contains a second of day (R4). -/
def shiftContains : Option (Nat × Nat) → Nat → Bool
  | none, _ => true
  | some (start, stop), s =>
    if start < stop then decide (start ≤ s) && decide (s < stop) else decide (start ≤ s) || decide (s < stop)

/-- A stay window contains a ship time (R4). -/
def stayContains : Option (Nat × Nat) → Nat → Bool
  | none, _ => true
  | some (first, last), t => decide (first ≤ t) && decide (t ≤ last)

/-- What a door TAP is answered, and the notice its decision raises with the person slot as subject. -/
structure DoorVerdict where
  decision : DoorDecision
  slot     : Nat
  notice   : Option NoticeClass
  deriving DecidableEq, Repr

/-- A denial without a notice. -/
def denied (code : Denial) : DoorVerdict := ⟨.DENY code, 0, none⟩

/-- Step 6 of R33, with the presence policy of R34. -/
def State.occupantVerdict (s : State) (slot : Nat) (p : Person) : DoorVerdict :=
  if !stayContains p.ident.stay s.clock.time then denied .WINDOW
  else if p.presence = .ASHORE then
    match s.params.doorPolicy with
    | .GRANT_AND_NOTIFY => ⟨.GRANT .KEYED, slot, some .PRESENCE_CONFLICT⟩
    | .DENY => denied .PRESENCE
  else ⟨.GRANT .KEYED, slot, none⟩

/-- Steps 3 to 8 of R33 for a person whose card is ACTIVE, at the cabin the head is bound to. -/
def State.personVerdict (s : State) (cabin : Option Cabin) (slot : Nat) (p : Person) : DoorVerdict :=
  if p.ident.emergency then ⟨.GRANT .EMERGENCY, slot, none⟩
  else if p.ident.category = .VISITOR then denied .NOT_PERMITTED
  else
    match cabin with
    | none => denied .NOT_PERMITTED
    | some c =>
      if c.deadbolt = .ENGAGED then denied .DEADBOLT
      else if c.occupants.contains slot then s.occupantVerdict slot p
      else if p.ident.category = .CREW ∧ p.ident.service = true ∧ p.ident.zones.getLsbD c.zone = true then
        if !shiftContains p.ident.shift s.secondOfDay then denied .WINDOW
        else if c.privacy = .PRIVACY then denied .PRIVACY
        else ⟨.GRANT .SERVICE, slot, none⟩
      else denied .NOT_PERMITTED

/-- The card is found ACTIVE for a person with the EMERGENCY role. -/
def State.emergencyCard (s : State) (card : Option CardEntry) : Bool :=
  match card with
  | none => false
  | some e => decide (e.state = .ACTIVE) && (s.persons.get e.slot).any (fun p => p.ident.emergency)

/-- The door decision order (R33). An ACTIVE entry always names a person (R12). -/
def State.doorVerdict (s : State) (cabin : Option Cabin) (u : RawUid) : DoorVerdict :=
  let card := s.lookupRaw u
  if s.clock.state = .UNSET ∧ s.emergencyCard card = false then denied .CLOCK_UNSET
  else
    match card with
    | none => denied .UNKNOWN_CARD
    | some e =>
      match e.state with
      | .SUSPENDED => denied .SUSPENDED
      | .REVOKED => ⟨.DENY .REVOKED, e.slot, some .REVOKED_CARD⟩
      | .ACTIVE =>
        match s.persons.get e.slot with
        | none => denied .UNKNOWN_CARD
        | some p => s.personVerdict cabin e.slot p

/-- The last grant after a decision on tap tag `tag` (R35): a GRANT sets it, a DENY leaves it. -/
def Head.afterDecision (hd : Head) (tag : Nat) (v : DoorVerdict) : Head :=
  match v.decision with
  | .GRANT kind => { hd with lastGrant := some ⟨tag, v.slot, kind⟩ }
  | .DENY _ => hd

/-- A raise with a person slot as its subject, when there is a notice. -/
def State.raisePerson (s : State) (notice : Option NoticeClass) (slot : Nat) : State :=
  match notice with
  | some c => s.raise c (.person slot)
  | none => s

/-- The cabin a door head is bound to. -/
def State.cabinOfHead (s : State) (h : HeadId) : Option Cabin := (s.head? h).bind (fun hd => s.cabin? hd.bound)

/-- A door TAP is decided (R32). -/
def State.decideDoor (s : State) (e : Entry) (u : RawUid) (tag : Nat) : State :=
  let v := s.doorVerdict (s.cabinOfHead e.head) u
  ((s.sendDecision e (.door tag v.decision)).modifyHead e.head (fun hd => hd.afterDecision tag v)).raisePerson v.notice v.slot

/-! ## Door events (R30, R31, R36 to R38) -/

/-- A record joins the ring as the newest; of more than eight the oldest goes (R31). -/
def Cabin.recorded (c : Cabin) (r : AuditRecord) : Cabin := { c with ring := (r :: c.ring).take Config.auditRing }

/-- Change the cabin a door head is bound to. -/
def State.modifyCabinOf (s : State) (h : HeadId) (f : Cabin → Cabin) : State :=
  match (s.head? h).bind (fun hd => s.cabinSlot hd.bound) with
  | some k => s.modifyCabin k f
  | none => s

/-- The audit record of an OPENED (R36). -/
def State.openingRecord (s : State) (h : HeadId) (tag : Option Nat) : AuditRecord :=
  match tag with
  | none => ⟨.EGRESS, none, s.clock.time⟩
  | some t =>
    match s.lastGrant h with
    | none => ⟨.UNMATCHED, none, s.clock.time⟩
    | some g =>
      if g.tag = t then
        match g.kind with
        | .KEYED => ⟨.KEYED, some g.slot, s.clock.time⟩
        | .SERVICE => ⟨.SERVICE, some g.slot, s.clock.time⟩
        | .EMERGENCY => ⟨.EMERGENCY, some g.slot, s.clock.time⟩
      else ⟨.UNMATCHED, none, s.clock.time⟩

/-- The last grant is cleared when it carries the tag (R35 to R37). -/
def Head.grantAnswered (hd : Head) (tag : Nat) : Head :=
  match hd.lastGrant with
  | some g => if g.tag = tag then { hd with lastGrant := none } else hd
  | none => hd

/-- OPENED (R36). -/
def State.applyOpened (s : State) (e : Entry) (tag : Option Nat) : State :=
  let r := s.openingRecord e.head tag
  let s := s.modifyCabinOf e.head (fun c => c.recorded r)
  match tag with
  | none => s
  | some t => s.modifyHead e.head (fun hd => hd.grantAnswered t)

/-- PRIVACY_ON and PRIVACY_OFF (R38). -/
def State.applyPrivacy (s : State) (e : Entry) (privacy : Privacy) : State :=
  s.modifyCabinOf e.head (fun c => { c with privacy := privacy, owed := false })

/-- DEADBOLT_ON and DEADBOLT_OFF (R30). -/
def State.applyDeadbolt (s : State) (e : Entry) (deadbolt : Deadbolt) : State :=
  s.modifyCabinOf e.head (fun c => { c with deadbolt := deadbolt })

/-! ## The commands -/

/-- CABIN PUT. -/
def execCabinPut (tag : Byte) (number zone : Nat) (s : State) : Host.Outcome State Fault Refusal :=
  .next (s.serve (.cabinPut tag number zone) (fun s => s.cabinPutWork number zone))

/-- CABIN GET. -/
def execCabinGet (tag : Byte) (number : Nat) (s : State) : Host.Outcome State Fault Refusal :=
  .next (s.serve (.cabinGet tag number) (fun s => s.cabinGetWork number))

/-- CABIN DROP. -/
def execCabinDrop (tag : Byte) (number : Nat) (s : State) : Host.Outcome State Fault Refusal :=
  .next (s.serve (.cabinDrop tag number) (fun s => s.cabinDropWork number))

/-- PRIVACY SET. -/
def execPrivacySet (tag : Byte) (number value : Nat) (s : State) : Host.Outcome State Fault Refusal :=
  .next (s.serve (.privacySet tag number value) (fun s => s.privacySetWork number value))

/-- A slot of the line has become free: the owed indicators are served (R29). -/
def execIndicatorOnRoom (line : Nat) (s : State) : Host.Outcome State Fault Refusal := .next (s.serveOwed line)

/-- The DDU takes a TAP. -/
def execDoorTap (s : State) : Host.Outcome State Fault Refusal :=
  .next (s.takeOldest .CABIN_DOOR (fun e =>
    match e.event with
    | .doorTap u tag => some (fun s => s.decideDoor e u tag)
    | _ => none))

/-- The DDU takes an OPENED. -/
def execOpened (s : State) : Host.Outcome State Fault Refusal :=
  .next (s.takeOldest .CABIN_DOOR (fun e =>
    match e.event with
    | .opened tag => some (fun s => s.applyOpened e tag)
    | _ => none))

/-- The DDU takes a NOT_OPENED (R37). -/
def execNotOpened (s : State) : Host.Outcome State Fault Refusal :=
  .next (s.takeOldest .CABIN_DOOR (fun e =>
    match e.event with
    | .notOpened tag => some (fun s => s.modifyHead e.head (fun hd => hd.grantAnswered tag))
    | _ => none))

/-- The DDU takes a PRIVACY_ON. -/
def execPrivacyOn (s : State) : Host.Outcome State Fault Refusal :=
  .next (s.takeOldest .CABIN_DOOR (fun e =>
    match e.event with
    | .privacyOn => some (fun s => s.applyPrivacy e .PRIVACY)
    | _ => none))

/-- The DDU takes a PRIVACY_OFF. -/
def execPrivacyOff (s : State) : Host.Outcome State Fault Refusal :=
  .next (s.takeOldest .CABIN_DOOR (fun e =>
    match e.event with
    | .privacyOff => some (fun s => s.applyPrivacy e .OPEN)
    | _ => none))

/-- The DDU takes a DEADBOLT_ON. -/
def execDeadboltOn (s : State) : Host.Outcome State Fault Refusal :=
  .next (s.takeOldest .CABIN_DOOR (fun e =>
    match e.event with
    | .deadboltOn => some (fun s => s.applyDeadbolt e .ENGAGED)
    | _ => none))

/-- The DDU takes a DEADBOLT_OFF. -/
def execDeadboltOff (s : State) : Host.Outcome State Fault Refusal :=
  .next (s.takeOldest .CABIN_DOOR (fun e =>
    match e.event with
    | .deadboltOff => some (fun s => s.applyDeadbolt e .RELEASED)
    | _ => none))

end Sys2Proof.Machine
end

