-- ==== Sys2Proof/Machine/Gangway.lean ====
section
/-! DEFINITION. The gangway lanes: their requests, the lane tap order, and the events and timers of a pending crossing (R105 to R119). -/

namespace Sys2Proof.Machine

open Sys2Proof

/-! ## Lane requests (R105, R107 to R109) -/

/-- LANE PUT (R105). -/
def State.lanePutWork (s : State) (n direction mode : Nat) : Answer :=
  match Direction.ofCode direction, CommitMode.ofCode mode with
  | some d, some m =>
    if Config.lanes ≤ n then s.refuse .OUT_OF_RANGE
    else if (s.lane n).state ≠ .CLOSED then s.refuse .WRONG_STATE
    else
      (s.setLane n
        { s.lane n with direction := d, mode := m, committed := 0, refused := 0, abandoned := 0, tailgates := 0 }).done
  | _, _ => s.refuse .OUT_OF_RANGE

/-- The body of LANE OPEN, HOLD, RELEASE and CLOSE: the state and hold reasons after the request (R107). -/
def encLaneState (la : Lane) : List Byte := u8 la.state.ctorIdx ++ encFlags la.holdHost la.holdBank

/-- An OK reply of the requests of R107, after the lane has become `la`. -/
def State.laneDone (s : State) (n : Nat) (la : Lane) : Answer := (s.setLane n la).done (encLaneState la)

/-- LANE OPEN (R107). -/
def State.laneOpenWork (s : State) (n : Nat) : Answer :=
  if Config.lanes ≤ n then s.refuse .OUT_OF_RANGE
  else
    let la := s.lane n
    match la.state with
    | .CLOSED =>
      if la.head.any (fun h => s.online h) then s.laneDone n { la with state := .OPEN } else s.refuse .WRONG_STATE
    | .OPEN => s.done (encLaneState la)
    | .HELD => s.done (encLaneState la)

/-- LANE HOLD (R107). -/
def State.laneHoldWork (s : State) (n : Nat) : Answer :=
  if Config.lanes ≤ n then s.refuse .OUT_OF_RANGE
  else
    let la := s.lane n
    match la.state with
    | .CLOSED => s.refuse .WRONG_STATE
    | .OPEN => s.laneDone n { la with holdHost := true, state := .HELD }
    | .HELD => s.laneDone n { la with holdHost := true }

/-- LANE RELEASE (R107). -/
def State.laneReleaseWork (s : State) (n : Nat) : Answer :=
  if Config.lanes ≤ n then s.refuse .OUT_OF_RANGE
  else
    let la := s.lane n
    match la.state with
    | .CLOSED => s.refuse .WRONG_STATE
    | .OPEN => s.done (encLaneState la)
    | .HELD => s.laneDone n { la with holdHost := false, state := if la.holdBank then .HELD else .OPEN }

/-- LANE CLOSE's effect on the pending crossing (R108). -/
def State.endForClose (s : State) (n : Nat) : State :=
  match (s.lane n).pending with
  | none => s
  | some pc =>
    match pc.stage with
    | .AWAIT_NEXT => s.commitCrossing n pc .BY_CLOSE
    | .AWAIT_PASS => s.abandonCrossing n
    | .AWAIT_OFFICER => s.abandonCrossing n

/-- A lane closed by LANE CLOSE, its pending crossing ended by its stage. -/
def State.closedByHost (s : State) (n : Nat) : State := (s.endForClose n).setLane n ((s.endForClose n).lane n).closed

/-- LANE CLOSE (R108); its OK reply carries the lane's state and hold reasons, as those of the other three requests do (R107). -/
def State.laneCloseWork (s : State) (n : Nat) : Answer :=
  if Config.lanes ≤ n then s.refuse .OUT_OF_RANGE
  else
    match (s.lane n).state with
    | .CLOSED => s.done (encLaneState (s.lane n))
    | .OPEN => (s.closedByHost n).done (encLaneState ((s.closedByHost n).lane n))
    | .HELD => (s.closedByHost n).done (encLaneState ((s.closedByHost n).lane n))

/-- A pending crossing of a LANE GET (R109). -/
def State.encPending (s : State) (pc : Pending) : List Byte :=
  u16 pc.slot
    ++ (match s.persons.get pc.slot with
        | some p => u32 p.ident.id ++ u8 p.presence.ctorIdx
        | none => u32 0 ++ u8 0)
    ++ u8 pc.tag ++ u32 pc.start ++ u8 pc.stage.ctorIdx ++ flag pc.mismatch ++ u32 (s.timeLeft pc.timer)

/-- A lane's head of a LANE GET: its line and address and its state. -/
def State.encLaneHead (s : State) (h : HeadId) : List Byte :=
  encHead h ++ u8 (((s.head? h).map (fun hd => hd.state.ctorIdx)).getD 0)

/-- The body of LANE GET (R109). -/
def State.laneBody (s : State) (la : Lane) : List Byte :=
  u8 la.direction.ctorIdx ++ u8 la.mode.ctorIdx ++ encLaneState la ++ opt s.encLaneHead la.head ++ opt s.encPending la.pending
    ++ u32 la.committed ++ u32 la.refused ++ u32 la.abandoned ++ u32 la.tailgates

/-- LANE GET (R109). -/
def State.laneGetWork (s : State) (n : Nat) : Answer :=
  if Config.lanes ≤ n then s.refuse .OUT_OF_RANGE else s.done (s.laneBody (s.lane n))

/-! ## The lane tap order (R113 to R115) -/

/-- A lane decision frame answers the tap (R110). -/
def State.sendLane (s : State) (e : Entry) (tag : Nat) (d : LaneDecision) : State := s.sendDecision e (.lane tag d)

/-- A refused tap: the lane's refused counter rises and the refusal is sent. -/
def State.refuseTap (s : State) (n : Nat) (e : Entry) (tag : Nat) (code : LaneRefusal) : State :=
  (s.setLane n { s.lane n with refused := bump (s.lane n).refused }).sendLane e tag (.REFUSE code)

/-- The presence matches the direction (R115). -/
def Direction.matchesPresence : Direction → Presence → Bool
  | .INBOUND, .ABOARD => false
  | .INBOUND, .UNKNOWN => true
  | .INBOUND, .ASHORE => true
  | .OUTBOUND, .ABOARD => true
  | .OUTBOUND, .UNKNOWN => false
  | .OUTBOUND, .ASHORE => false

/-- The stage in which a crossing let through waits (R115, R116). -/
def CommitMode.stage : CommitMode → Stage
  | .ON_PASS => .AWAIT_PASS
  | .ON_NEXT => .AWAIT_NEXT

/-- The pending timer, started now (R118). -/
def State.pendingTimer (s : State) : Timer := s.startTimer (1000 * s.params.pendingTimeout)

/-- The officer timer, started now (R118). -/
def State.officerTimer (s : State) : Timer := s.startTimer (1000 * s.params.officerWait)

/-- The crossing of step 11 (R115). -/
def State.newCrossing (s : State) (la : Lane) (slot tag : Nat) (p : Person) : Pending :=
  if la.direction.matchesPresence p.presence then ⟨slot, tag, s.clock.time, la.mode.stage, false, s.pendingTimer⟩
  else ⟨slot, tag, s.clock.time, .AWAIT_OFFICER, true, s.officerTimer⟩

/-- The decision that tells a person what a crossing's stage calls for (R113 step 6, R115). -/
def Lane.decisionFor (la : Lane) (pc : Pending) : LaneDecision :=
  match pc.stage with
  | .AWAIT_PASS => .PASS la.direction
  | .AWAIT_NEXT => .PASS la.direction
  | .AWAIT_OFFICER => .AWAIT_OFFICER

/-- Steps 10 and 11 of R113. -/
def State.admitTap (s : State) (n : Nat) (e : Entry) (tag slot : Nat) (p : Person) : State :=
  if !s.hasRoom then ((s.addBankHolds.raise .BANK_HOLD (.lane n)).refuseTap n e tag .LANE_HELD)
  else
    let la := s.lane n
    let pc := s.newCrossing la slot tag p
    (s.setLane n { la with pending := some pc }).sendLane e tag (la.decisionFor pc)

/-- Steps 6 to 11 of R113. -/
def State.crossTap (s : State) (n : Nat) (e : Entry) (tag slot : Nat) (p : Person) : State :=
  match (s.lane n).pending with
  | none => if s.crossingNames slot then s.refuseTap n e tag .IN_PROGRESS else s.admitTap n e tag slot p
  | some pc =>
    if pc.slot = slot then s.sendLane e tag ((s.lane n).decisionFor pc)
    else if s.crossingNames slot then s.refuseTap n e tag .IN_PROGRESS
    else
      match pc.stage with
      | .AWAIT_PASS => s.refuseTap n e tag .LANE_BUSY
      | .AWAIT_OFFICER => s.refuseTap n e tag .LANE_BUSY
      | .AWAIT_NEXT => (s.commitCrossing n pc .BY_NEXT).admitTap n e tag slot p

/-- Steps 4 to 11 of R113. An ACTIVE entry always names a person (R12). -/
def State.cardTap (s : State) (n : Nat) (e : Entry) (u : RawUid) (tag : Nat) : State :=
  match s.lookupRaw u with
  | none => s.refuseTap n e tag .UNKNOWN_CARD
  | some card =>
    match card.state with
    | .SUSPENDED => s.refuseTap n e tag .SUSPENDED
    | .REVOKED => s.refuseTap n e tag .REVOKED
    | .ACTIVE =>
      match s.persons.get card.slot with
      | none => s.refuseTap n e tag .UNKNOWN_CARD
      | some p =>
        if p.ident.gangwayHold then (s.raise .PRESENCE_CONFLICT (.person card.slot)).refuseTap n e tag .HOLD
        else s.crossTap n e tag card.slot p

/-- The lane a head is bound to. -/
def State.laneOfHead (s : State) (h : HeadId) : Nat := ((s.head? h).map (·.bound)).getD 0

/-- A lane TAP is decided (R113). -/
def State.decideLane (s : State) (e : Entry) (u : RawUid) (tag : Nat) : State :=
  let n := s.laneOfHead e.head
  if s.clock.state = .UNSET then s.refuseTap n e tag .CLOCK_UNSET
  else
    match (s.lane n).state with
    | .CLOSED => s.refuseTap n e tag .LANE_CLOSED
    | .HELD => s.refuseTap n e tag .LANE_HELD
    | .OPEN => s.cardTap n e u tag

/-! ## Events and timers of a pending crossing (R111, R116 to R119) -/

/-- The sensor reports a passage (R119). -/
def State.applyPassed (s : State) (n : Nat) : State :=
  match (s.lane n).pending with
  | some ⟨slot, tag, start, .AWAIT_PASS, mismatch, timer⟩ =>
    s.commitCrossing n ⟨slot, tag, start, .AWAIT_PASS, mismatch, timer⟩ .BY_PASS
  | _ => (s.setLane n { s.lane n with tailgates := bump (s.lane n).tailgates }).raise .TAILGATE (.lane n)

/-- The officer lets a person with a mismatch through (R116). -/
def State.applyAccept (s : State) (n : Nat) : State :=
  let la := s.lane n
  match la.pending with
  | some ⟨slot, tag, start, .AWAIT_OFFICER, mismatch, _⟩ =>
    s.setLane n { la with pending := some ⟨slot, tag, start, la.mode.stage, mismatch, s.pendingTimer⟩ }
  | _ => s

/-- The officer turns a person back (R117). -/
def State.applyReject (s : State) (n : Nat) : State :=
  match (s.lane n).pending with
  | some _ => s.abandonCrossing n
  | none => s

/-- A STALE to a PASS or AWAIT_OFFICER frame (R111). -/
def State.staleCrossing (s : State) (n tag : Nat) : State :=
  match (s.lane n).pending with
  | some pc => if pc.tag = tag then s.loseCrossing n else s
  | none => s

/-- The pending timer of a lane runs out (R118). -/
def State.expirePending (s : State) (n : Nat) : State :=
  match (s.lane n).pending with
  | none => s
  | some pc =>
    match pc.stage with
    | .AWAIT_PASS => (s.passTime (s.timeLeft pc.timer)).abandonCrossing n
    | .AWAIT_NEXT => (s.passTime (s.timeLeft pc.timer)).commitCrossing n pc .BY_TIMEOUT
    | .AWAIT_OFFICER => s

/-- The officer timer of a lane runs out (R118). -/
def State.expireOfficer (s : State) (n : Nat) : State :=
  match (s.lane n).pending with
  | none => s
  | some pc =>
    match pc.stage with
    | .AWAIT_OFFICER => (s.passTime (s.timeLeft pc.timer)).abandonCrossing n
    | .AWAIT_PASS => s
    | .AWAIT_NEXT => s

/-! ## The commands -/

/-- LANE PUT. -/
def execLanePut (tag : Byte) (lane direction mode : Nat) (s : State) : Host.Outcome State Fault Refusal :=
  .next (s.serve (.lanePut tag lane direction mode) (fun s => s.lanePutWork lane direction mode))

/-- LANE OPEN. -/
def execLaneOpen (tag : Byte) (lane : Nat) (s : State) : Host.Outcome State Fault Refusal :=
  .next (s.serve (.laneOpen tag lane) (fun s => s.laneOpenWork lane))

/-- LANE HOLD. -/
def execLaneHold (tag : Byte) (lane : Nat) (s : State) : Host.Outcome State Fault Refusal :=
  .next (s.serve (.laneHold tag lane) (fun s => s.laneHoldWork lane))

/-- LANE RELEASE. -/
def execLaneRelease (tag : Byte) (lane : Nat) (s : State) : Host.Outcome State Fault Refusal :=
  .next (s.serve (.laneRelease tag lane) (fun s => s.laneReleaseWork lane))

/-- LANE CLOSE. -/
def execLaneClose (tag : Byte) (lane : Nat) (s : State) : Host.Outcome State Fault Refusal :=
  .next (s.serve (.laneClose tag lane) (fun s => s.laneCloseWork lane))

/-- LANE GET. -/
def execLaneGet (tag : Byte) (lane : Nat) (s : State) : Host.Outcome State Fault Refusal :=
  .next (s.serve (.laneGet tag lane) (fun s => s.laneGetWork lane))

/-- The Gangway Unit takes a TAP. -/
def execLaneTap (s : State) : Host.Outcome State Fault Refusal :=
  .next (s.takeOldest .GANGWAY_LANE (fun e =>
    match e.event with
    | .laneTap u tag => some (fun s => s.decideLane e u tag)
    | _ => none))

/-- The Gangway Unit takes a PASSED. -/
def execPassed (s : State) : Host.Outcome State Fault Refusal :=
  .next (s.takeOldest .GANGWAY_LANE (fun e =>
    match e.event with
    | .passed => some (fun s => s.applyPassed (s.laneOfHead e.head))
    | _ => none))

/-- The Gangway Unit takes an OFFICER_ACCEPT. -/
def execOfficerAccept (s : State) : Host.Outcome State Fault Refusal :=
  .next (s.takeOldest .GANGWAY_LANE (fun e =>
    match e.event with
    | .officerAccept => some (fun s => s.applyAccept (s.laneOfHead e.head))
    | _ => none))

/-- The Gangway Unit takes an OFFICER_REJECT. -/
def execOfficerReject (s : State) : Host.Outcome State Fault Refusal :=
  .next (s.takeOldest .GANGWAY_LANE (fun e =>
    match e.event with
    | .officerReject => some (fun s => s.applyReject (s.laneOfHead e.head))
    | _ => none))

/-- The pending timer of a lane runs out. -/
def execPendingTimeout (lane : Nat) (s : State) : Host.Outcome State Fault Refusal := .next (s.expirePending lane)

/-- The officer timer of a lane runs out. -/
def execOfficerWaitExpiry (lane : Nat) (s : State) : Host.Outcome State Fault Refusal := .next (s.expireOfficer lane)

end Sys2Proof.Machine
end

