-- ==== Sys2Proof/Machine/Banks.lean ====
section
/-! DEFINITION. The crossing banks, the census and the All-Aboard Sweeper: their requests and the sweep (R129 to R140). -/

namespace Sys2Proof.Machine

open Sys2Proof

/-! ## Banks (R129 to R132) -/

/-- The state and record count of each bank. -/
def State.encBanks (s : State) : List Byte := encBank s.bank0 ++ encBank s.bank1

/-- BANK FLUSH (R129). -/
def State.bankFlushWork (s : State) : Answer :=
  if s.filling.records.isEmpty then s.refuse .WRONG_STATE
  else if s.other.state = .READABLE then s.refuse .BUSY
  else s.swapBanks.done s.swapBanks.encBanks

/-- The READABLE bank's number, none when no bank is READABLE. -/
def State.readable (s : State) : Option Nat :=
  if s.bank0.state = .READABLE then some 0 else if s.bank1.state = .READABLE then some 1 else none

/-- CROSSINGS READ (R130). -/
def State.crossingsReadWork (s : State) (start count : Nat) : Answer :=
  if 511 < start ∨ count = 0 ∨ 32 < count then s.refuse .OUT_OF_RANGE
  else
    match s.readable with
    | none => s.refuse .WRONG_STATE
    | some n =>
      s.done (u8 n ++ u16 (s.bank n).records.length ++ listOf encCrossing (((s.bank n).records.drop start).take count))

/-- Steps 1 to 3 of R131. -/
def State.bankReleased (s : State) (n : Nat) : State :=
  let s := s.setBank n ⟨.EMPTY, []⟩
  if s.swapDue then s.swapBanks else s.removeBankHolds

/-- BANK RELEASE (R131). -/
def State.bankReleaseWork (s : State) (n : Nat) : Answer :=
  if 1 < n then s.refuse .OUT_OF_RANGE
  else if (s.bank n).state ≠ .READABLE then s.refuse .WRONG_STATE
  else (s.bankReleased n).done (s.bankReleased n).encBanks

/-- CROSSING BASE (R132). -/
def State.crossingBaseWork (s : State) (number : Nat) : Answer :=
  if number = 0 ∨ max32 < number then s.refuse .OUT_OF_RANGE
  else if !s.filling.records.isEmpty ∨ s.other.state ≠ .EMPTY then s.refuse .WRONG_STATE
  else { s with nextCrossing := number : State }.done

/-! ## Presence and census (R135, R136) -/

/-- The direction of a manual crossing. -/
def manualDirection : Presence → Direction
  | .ABOARD => .INBOUND
  | .ASHORE => .OUTBOUND
  | .UNKNOWN => .OUTBOUND

/-- Steps 1 to 5 of R135. -/
def State.presenceSet (s : State) (slot : Nat) (p : Person) (after : Presence) : State :=
  let record : Crossing :=
    { number := s.nextCrossing, time := s.clock.time, slot := slot, personId := p.ident.id, lane := none,
      direction := manualDirection after, before := p.presence, after := after, mismatch := false, officer := false,
      cause := .MANUAL }
  ((s.changePresence slot p after).appendCrossing record).swapCheck

/-- PRESENCE SET (R135). -/
def State.presenceSetWork (s : State) (slot presence : Nat) : Answer :=
  match Presence.ofCode presence with
  | none => s.refuse .OUT_OF_RANGE
  | some after =>
    if Config.personSlots ≤ slot then s.refuse .OUT_OF_RANGE
    else
      match s.persons.get slot with
      | none => s.refuse .NOT_FOUND
      | some p =>
        if s.crossingNames slot then s.refuse .IN_USE
        else if !s.hasRoom then s.refuse .FULL
        else (s.presenceSet slot p after).done (u32 s.nextCrossing)

/-- The nine counters, aboard, ashore and unknown, each by category (R133). -/
def encCensus (c : Census) : List Byte :=
  u16 c.guest.aboard ++ u16 c.crew.aboard ++ u16 c.visitor.aboard ++ u16 c.guest.ashore ++ u16 c.crew.ashore
    ++ u16 c.visitor.ashore ++ u16 c.guest.unknown ++ u16 c.crew.unknown ++ u16 c.visitor.unknown
    ++ u16 c.missing ++ u16 c.visitorsAboard

/-- The sweeper's state, cursor, list length and overflow flag. -/
def encSweeper (w : Sweeper) : List Byte := u8 w.state.ctorIdx ++ u16 w.cursor ++ u16 w.missing.length ++ flag w.overflow

/-- CENSUS GET (R136). The number of pending crossings takes R192's two bytes for a count (DEDUCED, log entry 13). -/
def State.censusGetWork (s : State) : Answer :=
  s.done (encCensus s.census ++ u16 s.persons.size ++ encSweeper s.sweeper ++ s.encBanks ++ u16 s.pendings.length
    ++ u32 s.nextCrossing)

/-! ## The All-Aboard Sweeper (R138 to R140) -/

/-- ALLABOARD START (R138). -/
def State.allaboardStartWork (s : State) : Answer :=
  match s.sweeper.state with
  | .SWEEPING => s.refuse .BUSY
  | .IDLE => ⟨{ s with sweeper := ⟨.SWEEPING, 0, [], false⟩ }, .ACCEPTED, []⟩
  | .DONE => ⟨{ s with sweeper := ⟨.SWEEPING, 0, [], false⟩ }, .ACCEPTED, []⟩

/-- The person in the slot is occupied and missing. -/
def State.missingAt (s : State) (slot : Nat) : Bool := (s.persons.get slot).any (fun p => p.standing.missing)

/-- The sweeper after one examination (R139). -/
def State.examined (s : State) : Sweeper :=
  let w := s.sweeper
  let w' := if s.missingAt w.cursor then w.append w.cursor else w
  { w' with cursor := w.cursor + 1 }

/-- The completion of the sweep (R139). -/
def State.sweepDone (s : State) : State :=
  { s with sweeper := { s.sweeper with state := .DONE } : State }.raise .ALL_ABOARD_DONE
    (.allAboard s.census.missing s.census.visitorsAboard s.sweeper.missing.length s.sweeper.overflow)

/-- One step of the sweep (R139). -/
def State.sweep (s : State) : State :=
  match s.sweeper.state with
  | .IDLE => s
  | .DONE => s
  | .SWEEPING =>
    let s := { s with sweeper := s.examined }
    if Config.personSlots ≤ s.sweeper.cursor then s.sweepDone else s

/-- An entry of a MISSING READ. -/
def State.encMissing (s : State) (slot : Nat) : List Byte :=
  match s.persons.get slot with
  | some p => u16 slot ++ u32 p.ident.id ++ u8 p.ident.category.ctorIdx ++ opt u32 p.lastCrossing
  | none => u16 slot ++ u32 0 ++ u8 0 ++ u8 0

/-- MISSING READ (R140). -/
def State.missingReadWork (s : State) (start count : Nat) : Answer :=
  if 255 < start ∨ count = 0 ∨ 64 < count then s.refuse .OUT_OF_RANGE
  else
    s.done (encSweeper s.sweeper ++ u16 s.census.missing ++ u16 s.census.visitorsAboard
      ++ listOf s.encMissing ((s.sweeper.missing.drop start).take count))

/-! ## The commands -/

/-- BANK FLUSH. -/
def execBankFlush (tag : Byte) (s : State) : Host.Outcome State Fault Refusal :=
  .next (s.serve (.bankFlush tag) (fun s => s.bankFlushWork))

/-- CROSSINGS READ. -/
def execCrossingsRead (tag : Byte) (start count : Nat) (s : State) : Host.Outcome State Fault Refusal :=
  .next (s.serve (.crossingsRead tag start count) (fun s => s.crossingsReadWork start count))

/-- BANK RELEASE. -/
def execBankRelease (tag : Byte) (bank : Nat) (s : State) : Host.Outcome State Fault Refusal :=
  .next (s.serve (.bankRelease tag bank) (fun s => s.bankReleaseWork bank))

/-- CROSSING BASE. -/
def execCrossingBase (tag : Byte) (number : Nat) (s : State) : Host.Outcome State Fault Refusal :=
  .next (s.serve (.crossingBase tag number) (fun s => s.crossingBaseWork number))

/-- PRESENCE SET. -/
def execPresenceSet (tag : Byte) (slot presence : Nat) (s : State) : Host.Outcome State Fault Refusal :=
  .next (s.serve (.presenceSet tag slot presence) (fun s => s.presenceSetWork slot presence))

/-- CENSUS GET. -/
def execCensusGet (tag : Byte) (s : State) : Host.Outcome State Fault Refusal :=
  .next (s.serve (.censusGet tag) (fun s => s.censusGetWork))

/-- ALLABOARD START. -/
def execAllaboardStart (tag : Byte) (s : State) : Host.Outcome State Fault Refusal :=
  .next (s.serve (.allaboardStart tag) (fun s => s.allaboardStartWork))

/-- The sweeper examines one slot. -/
def execSweepStep (s : State) : Host.Outcome State Fault Refusal := .next s.sweep

/-- MISSING READ. -/
def execMissingRead (tag : Byte) (start count : Nat) (s : State) : Host.Outcome State Fault Refusal :=
  .next (s.serve (.missingRead tag start count) (fun s => s.missingReadWork start count))

end Sys2Proof.Machine
end

