-- ==== Sys2Proof/Machine/Folios.lean ====
section
/-! DEFINITION. The Charge Unit's requests: folios, venues, the upstream state, the journal and the Reconcile Scanner (R52, R54 to R63,
R96 to R100). -/

namespace Sys2Proof.Machine

open Sys2Proof

/-! ## Creating and posting a folio (R54 to R57) -/

/-- The folio id is held by an occupied slot other than `slot` (R54 check 2). -/
def State.folioIdElsewhere (s : State) (slot id : Nat) : Bool :=
  s.folios.cells.any (fun c => decide (c.1 ≠ slot) && decide (c.2.id = id))

/-- The journal holds an entry naming the slot and id (R54 check 7). -/
def State.journalNames (s : State) (slot id : Nat) : Bool :=
  s.journal.any (fun e => decide (e.folio = slot) && decide (e.folioId = id))

/-- The refusal of a FOLIO PUT by the checks of R54, in order; none when it passes. -/
def State.folioPutRefusal (s : State) (slot : Nat) (fields : FolioFields) : Option Status :=
  if Config.folioSlots ≤ slot ∨ stagedOf fields = none then some .OUT_OF_RANGE
  else if s.folioIdElsewhere slot fields.id then some .EXISTS
  else
    match s.folios.get slot with
    | some f =>
      if f.id ≠ fields.id then some .WRONG_STATE
      else if s.scanner.isSome then some .BUSY
      else if fields.through < s.retiredThrough then some .STALE_POSTING
      else if s.newestCharge < fields.through then some .OUT_OF_RANGE
      else none
    | none => if s.journalNames slot fields.id then some .IN_USE else none

/-- A created folio (R55). -/
def State.freshFolio (s : State) (id : Nat) (st : Staged) : Folio where
  id           := id
  state        := st.state
  limit        := st.limit
  package      := st.package
  posted       := st.posted
  through      := s.newestCharge
  unposted     := 0
  held         := 0
  offlineSpent := 0
  offlineEpoch := s.epoch

/-- The oldest charge number in the journal, or one above the newest number when it is empty (R56). -/
def State.oldestCharge (s : State) : Nat :=
  match s.journal with
  | e :: _ => e.number
  | [] => s.newestCharge + 1

/-- The scanner at the start of a reconcile (R56). -/
def State.scanOf (s : State) (slot id : Nat) (st : Staged) : Scan where
  slot   := slot
  id     := id
  staged := st
  last   := s.newestCharge
  cursor := s.oldestCharge
  sum    := 0

/-- The scan completes when its cursor has passed the end number (R57). -/
def State.scanCheck (s : State) (sc : Scan) : State :=
  if sc.last < sc.cursor then s.completeReconcile sc else { s with scanner := some sc }

/-- FOLIO PUT (R54): a creation on an empty slot, a posting on an occupied one. -/
def State.folioPutWork (s : State) (slot : Nat) (fields : FolioFields) : Answer :=
  match s.folioPutRefusal slot fields, stagedOf fields with
  | none, some st =>
    match s.folios.get slot with
    | none => { s with folios := s.folios.set slot (s.freshFolio fields.id st) : State }.done
    | some _ => ⟨s.scanCheck (s.scanOf slot fields.id st), .ACCEPTED, []⟩
  | some status, _ => s.refuse status
  | none, none => s.refuse .OUT_OF_RANGE

/-- What a scan adds for one entry (R57). -/
def Scan.added (sc : Scan) (e : JournalEntry) : Nat :=
  if e.folio = sc.slot ∧ e.folioId = sc.id ∧ sc.staged.through < e.number then e.total else 0

/-- The scanner after it has examined the entry at its cursor (R57). -/
def Scan.examined (sc : Scan) (journal : List JournalEntry) : Scan :=
  match journal.find? (fun e => e.number = sc.cursor) with
  | some e => { sc with cursor := sc.cursor + 1, sum := sc.sum + sc.added e }
  | none => { sc with cursor := sc.cursor + 1 }

/-- One step of the Reconcile Scanner (R57). -/
def State.scanStep (s : State) : State :=
  match s.scanner with
  | none => s
  | some sc => s.scanCheck (sc.examined s.journal)

/-! ## Other folio requests (R58 to R62) -/

/-- The staged fields change with the live ones while the folio is under reconcile (R58). -/
def State.restage (s : State) (slot : Nat) (f : Staged → Staged) : State :=
  { s with scanner := s.scanner.map (fun sc => if sc.slot = slot then { sc with staged := f sc.staged } else sc) }

/-- FOLIO LIMIT (R59). -/
def State.folioLimitWork (s : State) (slot limit : Nat) : Answer :=
  if Config.folioSlots ≤ slot ∨ 999999999 < limit then s.refuse .OUT_OF_RANGE
  else if (s.folios.get slot).isNone then s.refuse .NOT_FOUND
  else
    ((s.modifyFolio slot (fun f => { f with limit := limit })).restage slot (fun st => { st with limit := limit })).done

/-- FOLIO STATE (R60). -/
def State.folioStateWork (s : State) (slot state : Nat) : Answer :=
  match FolioState.ofCode state with
  | none => s.refuse .OUT_OF_RANGE
  | some st =>
    if Config.folioSlots ≤ slot then s.refuse .OUT_OF_RANGE
    else if (s.folios.get slot).isNone then s.refuse .NOT_FOUND
    else
      ((s.modifyFolio slot (fun f => { f with state := st })).restage slot (fun x => { x with state := st })).done

/-- The number of occupied person slots that name a folio. -/
def State.personsNaming (s : State) (folio : Nat) : Nat := s.persons.count (fun p => decide (p.ident.folio = some folio))

/-- The body of FOLIO GET (R61). -/
def State.folioBody (s : State) (slot : Nat) (f : Folio) : List Byte :=
  u16 slot ++ u32 f.id ++ u8 f.state.ctorIdx ++ u32 f.limit ++ opt encPackage f.package
    ++ s64 f.posted ++ u32 f.through ++ u64 f.unposted ++ u64 f.held ++ s64 f.headroom
    ++ u32 (f.offlineRead s.epoch) ++ u32 f.offlineSpent ++ u32 f.offlineEpoch ++ u32 s.epoch
    ++ u16 (s.personsNaming slot)
    ++ opt (fun sc : Scan => u32 sc.staged.through ++ u32 sc.last ++ u64 sc.cursor ++ u16 s.deferred.length)
        (if s.underReconcile slot f.id then s.scanner else none)

/-- FOLIO GET (R61). -/
def State.folioGetWork (s : State) (selector value : Nat) : Answer :=
  match slotNamed s.folios Config.folioSlots (fun f => f.id) selector value with
  | .error status => s.refuse status
  | .ok slot =>
    match s.folios.get slot with
    | none => s.refuse .NOT_FOUND
    | some f => s.done (s.folioBody slot f)

/-- FOLIO FREE (R62). -/
def State.folioFreeWork (s : State) (slot : Nat) : Answer :=
  if Config.folioSlots ≤ slot then s.refuse .OUT_OF_RANGE
  else
    match s.folios.get slot with
    | none => s.refuse .NOT_FOUND
    | some f =>
      if s.underReconcile slot f.id then s.refuse .BUSY
      else if s.personsNaming slot ≠ 0 ∨ f.unposted ≠ 0 ∨ f.held ≠ 0 then s.refuse .IN_USE
      else { s with folios := s.folios.erase slot : State }.done

/-! ## Venues and the upstream state (R52, R63) -/

/-- VENUE PUT (R63). -/
def State.venuePutWork (s : State) (venue rate eligible : Nat) : Answer :=
  match yesNo eligible with
  | none => s.refuse .OUT_OF_RANGE
  | some e =>
    if Config.venues ≤ venue then s.refuse .OUT_OF_RANGE
    else
      let stored := min rate 3000
      ⟨{ s with venues := s.venues.set venue ⟨stored, e⟩ }, if 3000 < rate then .OK_CLAMPED else .OK, u16 stored⟩

/-- The upstream state and epoch after UPSTREAM SET (R52). -/
def State.withUpstream (s : State) (u : Upstream) : State :=
  match s.upstream, u with
  | .OFFLINE, .ONLINE => { s with upstream := .ONLINE, epoch := if s.epoch = max32 then 0 else s.epoch + 1 }
  | .ONLINE, .OFFLINE => { s with upstream := .OFFLINE }
  | .ONLINE, .ONLINE => s
  | .OFFLINE, .OFFLINE => s

/-- UPSTREAM SET (R52). -/
def State.upstreamSetWork (s : State) (value : Nat) : Answer :=
  match Upstream.ofCode value with
  | none => s.refuse .OUT_OF_RANGE
  | some u => (s.withUpstream u).done (u8 (s.withUpstream u).upstream.ctorIdx ++ u32 (s.withUpstream u).epoch)

/-! ## The Charge Journal (R96 to R100) -/

/-- JOURNAL BASE (R96). -/
def State.journalBaseWork (s : State) (number : Nat) : Answer :=
  if number = 0 ∨ max32 < number then s.refuse .OUT_OF_RANGE
  else if !s.journal.isEmpty then s.refuse .WRONG_STATE
  else if mod32 - number < s.openHolds.length then s.refuse .FULL
  else
    ({ s with
        retiredThrough := number - 1
        folios := s.folios.map (fun _ f => { f with through := number - 1 }) : State }).evaluateJournal.done

/-- The entries a CHARGES READ returns (R98). -/
def State.chargesFrom (s : State) (start count : Nat) : List JournalEntry :=
  (s.journal.filter (fun e => decide (start ≤ e.number))).take count

/-- The oldest and the newest number, absent when the journal is empty. -/
def State.journalEnds (s : State) : Option (Nat × Nat) :=
  match s.journal, s.journal.getLast? with
  | a :: _, some b => some (a.number, b.number)
  | _, _ => none

/-- CHARGES READ (R98). DEDUCED (log entry 13): the oldest and the newest number travel as one optional pair, with one presence byte. -/
def State.chargesReadWork (s : State) (start count : Nat) : Answer :=
  if count = 0 ∨ 16 < count then s.refuse .OUT_OF_RANGE
  else
    s.done (opt encPair s.journalEnds ++ u32 s.retiredThrough ++ u64 s.nextCharge ++ u16 s.openHolds.length
      ++ listOf encJournal (s.chargesFrom start count))

/-- The entries up to and including number `n` are removed and booked, and the level is evaluated (R99, R100). -/
def State.retired (s : State) (n : Nat) : State :=
  let gone := s.journal.filter (fun e => decide (e.number ≤ n))
  let s := gone.foldl State.bookRetired s
  ({ s with journal := s.journal.filter (fun e => !decide (e.number ≤ n)), retiredThrough := n } : State).evaluateJournal

/-- The body of CHARGES RETIRE: the number of entries removed and the new retired-through. -/
def encRetired (removed through : Nat) : List Byte := u16 removed ++ u32 through

/-- CHARGES RETIRE (R100). -/
def State.chargesRetireWork (s : State) (number : Nat) : Answer :=
  if s.scanner.isSome then s.refuse .BUSY
  else if number ≤ s.retiredThrough ∨ s.journal.isEmpty = true then s.done (encRetired 0 s.retiredThrough)
  else
    let n := min number s.newestCharge
    let removed := (s.journal.filter (fun e => decide (e.number ≤ n))).length
    ⟨s.retired n, if s.newestCharge < number then .OK_CLAMPED else .OK, encRetired removed n⟩

/-! ## The commands -/

/-- FOLIO PUT. -/
def execFolioPut (tag : Byte) (slot : Nat) (fields : FolioFields) (s : State) : Host.Outcome State Fault Refusal :=
  .next (s.serve (.folioPut tag slot fields) (fun s => s.folioPutWork slot fields))

/-- The Reconcile Scanner examines one entry. -/
def execReconcileScanStep (s : State) : Host.Outcome State Fault Refusal := .next s.scanStep

/-- FOLIO LIMIT. -/
def execFolioLimit (tag : Byte) (slot limit : Nat) (s : State) : Host.Outcome State Fault Refusal :=
  .next (s.serve (.folioLimit tag slot limit) (fun s => s.folioLimitWork slot limit))

/-- FOLIO STATE. -/
def execFolioState (tag : Byte) (slot state : Nat) (s : State) : Host.Outcome State Fault Refusal :=
  .next (s.serve (.folioState tag slot state) (fun s => s.folioStateWork slot state))

/-- FOLIO GET. -/
def execFolioGet (tag : Byte) (selector value : Nat) (s : State) : Host.Outcome State Fault Refusal :=
  .next (s.serve (.folioGet tag selector value) (fun s => s.folioGetWork selector value))

/-- FOLIO FREE. -/
def execFolioFree (tag : Byte) (slot : Nat) (s : State) : Host.Outcome State Fault Refusal :=
  .next (s.serve (.folioFree tag slot) (fun s => s.folioFreeWork slot))

/-- VENUE PUT. -/
def execVenuePut (tag : Byte) (venue rate eligible : Nat) (s : State) : Host.Outcome State Fault Refusal :=
  .next (s.serve (.venuePut tag venue rate eligible) (fun s => s.venuePutWork venue rate eligible))

/-- UPSTREAM SET. -/
def execUpstreamSet (tag : Byte) (value : Nat) (s : State) : Host.Outcome State Fault Refusal :=
  .next (s.serve (.upstreamSet tag value) (fun s => s.upstreamSetWork value))

/-- JOURNAL BASE. -/
def execJournalBase (tag : Byte) (number : Nat) (s : State) : Host.Outcome State Fault Refusal :=
  .next (s.serve (.journalBase tag number) (fun s => s.journalBaseWork number))

/-- CHARGES READ. -/
def execChargesRead (tag : Byte) (start count : Nat) (s : State) : Host.Outcome State Fault Refusal :=
  .next (s.serve (.chargesRead tag start count) (fun s => s.chargesReadWork start count))

/-- CHARGES RETIRE. -/
def execChargesRetire (tag : Byte) (number : Nat) (s : State) : Host.Outcome State Fault Refusal :=
  .next (s.serve (.chargesRetire tag number) (fun s => s.chargesRetireWork number))

end Sys2Proof.Machine
end

