-- ==== Sys2Proof/Machine/Purchases.lean ====
section
/-! DEFINITION. The purchase arithmetic, the AUTH of a terminal TAP, and the events of a hold (R65 to R80, R83, R86 to R88, R90, R92). -/

namespace Sys2Proof.Machine

open Sys2Proof

/-! ## Lines, coverage and total (R66, R70 to R76) -/

/-- The class of a purchase line (R66); its code on the line is one above its place here (R193). -/
inductive ItemClass where | ALCOHOLIC | SOFT | FOOD | RETAIL | SERVICE
  deriving DecidableEq, Repr

def ItemClass.ofCode : Nat → Option ItemClass
  | 1 => some .ALCOHOLIC
  | 2 => some .SOFT
  | 3 => some .FOOD
  | 4 => some .RETAIL
  | 5 => some .SERVICE
  | _ => none

/-- A purchase line within R66. -/
structure PurchaseLine where
  cls   : ItemClass
  price : Nat
  qty   : Nat
  deriving DecidableEq, Repr

/-- A line as sent, none when it breaks R66. -/
def lineOf (r : RawLine) : Option PurchaseLine :=
  match ItemClass.ofCode r.cls with
  | some cls => if r.price ≤ 9999999 ∧ 1 ≤ r.qty ∧ r.qty ≤ 99 then some ⟨cls, r.price, r.qty⟩ else none
  | none => none

/-- Each line in turn, none when one of them breaks R66. -/
def allLines : List RawLine → Option (List PurchaseLine)
  | [] => some []
  | r :: rest =>
    match lineOf r, allLines rest with
    | some l, some ls => some (l :: ls)
    | _, _ => none

/-- The lines of a TAP, none when they break R66: 1 to 8 of them. -/
def linesOf (rs : List RawLine) : Option (List PurchaseLine) :=
  if 1 ≤ rs.length ∧ rs.length ≤ 8 then allLines rs else none

/-- The gross of a line (R70). -/
def PurchaseLine.gross (l : PurchaseLine) : Nat := l.price * l.qty

/-- A package kind covers a class (R49, R71). -/
def PackageKind.covers : PackageKind → ItemClass → Bool
  | .SOFT, .SOFT => true
  | .FULL, .SOFT => true
  | .FULL, .ALCOHOLIC => true
  | _, _ => false

/-- The per-unit covered value of a line, 0 for a line that is not covered (R71). -/
def perUnit (pkg : Option Package) (eligible : Bool) (l : PurchaseLine) : Nat :=
  match pkg with
  | none => 0
  | some p => if eligible && p.kind.covers l.cls then min l.price p.cap else 0

/-- The units available to a person on folio day `day` (R72). -/
def unitsAvailable (pkg : Option Package) (p : Person) (day : Nat) : Nat :=
  match pkg with
  | none => 0
  | some k => k.units - p.unitsUsed.read day - p.unitsReserved

/-- A line that may be given units: its place in line order, its per-unit covered value and its quantity. -/
structure Claim where
  place : Nat
  value : Nat
  qty   : Nat
  deriving DecidableEq, Repr

/-- A claim joins claims in descending order of value, before those of its own value: with the claims inserted last line first, equal
values stay in line order (R73). -/
def insertClaim (c : Claim) : List Claim → List Claim
  | [] => [c]
  | d :: rest => if d.value ≤ c.value then c :: d :: rest else d :: insertClaim c rest

/-- The claims of the lines, numbered from `n`; a line whose per-unit covered value is 0 has none (R71). -/
def claimsFrom (pkg : Option Package) (eligible : Bool) : Nat → List PurchaseLine → List Claim
  | _, [] => []
  | n, l :: rest =>
    let v := perUnit pkg eligible l
    let later := claimsFrom pkg eligible (n + 1) rest
    if v = 0 then later else insertClaim ⟨n, v, l.qty⟩ later

/-- Units are given out to the claims in order (R73): the place of each line with the units given to it. -/
def allocate : Nat → List Claim → List (Nat × Nat)
  | _, [] => []
  | left, c :: rest => (c.place, min c.qty left) :: allocate (left - c.qty) rest

/-- The units given to the line at a place. -/
def unitsGiven (given : List (Nat × Nat)) (place : Nat) : Nat := ((given.find? (fun g => g.1 = place)).map (·.2)).getD 0

/-- A line with the units given to it and its covered amount (R74). -/
structure PricedLine where
  line    : PurchaseLine
  units   : Nat
  covered : Nat
  deriving DecidableEq, Repr

/-- The excess of a line (R74). -/
def PricedLine.excess (l : PricedLine) : Nat := l.line.gross - l.covered

/-- The lines priced, numbered from `n`. -/
def pricedFrom (pkg : Option Package) (eligible : Bool) (given : List (Nat × Nat)) : Nat → List PurchaseLine → List PricedLine
  | _, [] => []
  | n, l :: rest =>
    let units := unitsGiven given n
    ⟨l, units, perUnit pkg eligible l * units⟩ :: pricedFrom pkg eligible given (n + 1) rest

/-- The figures of a TAP. -/
structure Figures where
  gross    : Nat
  covered  : Nat
  gratuity : Nat
  total    : Nat
  units    : Nat
  deriving DecidableEq, Repr

/-- A sum over the priced lines. -/
def sumOver (f : PricedLine → Nat) (ls : List PricedLine) : Nat := (ls.map f).foldl (· + ·) 0

/-- The excess that bears gratuity: none of a RETAIL line's (R75). -/
def PricedLine.gratuityBase (l : PricedLine) : Nat :=
  match l.line.cls with
  | .RETAIL => 0
  | .ALCOHOLIC | .SOFT | .FOOD | .SERVICE => l.excess

/-- The figures of priced lines at a gratuity rate (R70, R74 to R76). -/
def figuresOf (rate : Nat) (ls : List PricedLine) : Figures :=
  let excess := sumOver PricedLine.excess ls
  let gratuity := (sumOver PricedLine.gratuityBase ls * rate + 5000) / 10000
  { gross := sumOver (fun l => l.line.gross) ls, covered := sumOver (·.covered) ls, gratuity, total := excess + gratuity,
    units := sumOver (·.units) ls }

/-- The figures of a TAP's lines at a venue, for a folio's package and the units available. -/
def computeFigures (pkg : Option Package) (v : Venue) (available : Nat) (lines : List PurchaseLine) : Figures :=
  figuresOf v.rate
    (pricedFrom pkg v.eligible (allocate available (claimsFrom pkg v.eligible 0 lines)) 0 lines)

/-! ## The checks (R67 to R69, R77 to R79) -/

/-- Step 10: room in the journal and a number beyond those kept for the open holds (R69). -/
def State.journalRoom (s : State) : Bool :=
  decide (s.journal.length + s.openHolds.length < Config.journalEntries) && decide (s.openHolds.length < mod32 - s.nextCharge)

/-- Step 11: the child cap (R77). -/
def childCapPasses (p : Person) (day total : Nat) : Bool :=
  match p.ident.childCap with
  | none => true
  | some cap => decide (p.childSpent.read day + p.childReserved + total ≤ cap)

/-- Step 12: the offline allowance (R78). -/
def State.offlinePasses (s : State) (f : Folio) (total : Nat) : Bool :=
  match s.upstream with
  | .ONLINE => true
  | .OFFLINE => decide (f.offlineRead s.epoch + total ≤ s.params.offlineAllowance)

/-- An approved TAP: whom and what it charges, and its figures (R80). -/
structure Approval where
  slot     : Nat
  person   : Person
  folio    : Nat
  folioId  : Nat
  figures  : Figures
  conflict : Bool
  deriving DecidableEq, Repr

/-- Steps 9 to 13 of R67. -/
def State.limitRefusal (s : State) (p : Person) (f : Folio) (lines : List PurchaseLine) (fig : Figures) :
    Option PurchaseRefusal :=
  if lines.any (fun l => decide (l.cls = .ALCOHOLIC)) && !p.ident.alcohol then some .AGE
  else if !s.journalRoom then some .JOURNAL_FULL
  else if fig.total = 0 then none
  else if !childCapPasses p s.folioDay fig.total then some .CHILD_CAP
  else if !s.offlinePasses f fig.total then some .OFFLINE_CAP
  else if f.headroom < (fig.total : Int) then some .LIMIT
  else none

/-- Steps 8 to 13 of R67 for a person and folio that have passed the steps before. -/
def State.priceCheck (s : State) (v : Venue) (slot : Nat) (p : Person) (folio : Nat) (f : Folio) (raw : List RawLine) :
    Except PurchaseRefusal Approval :=
  match linesOf raw with
  | none => .error .AMOUNT_RANGE
  | some lines =>
    let fig := computeFigures f.package v (unitsAvailable f.package p s.folioDay) lines
    if 99999999 < fig.total then .error .AMOUNT_RANGE
    else
      match s.limitRefusal p f lines fig with
      | some refusal => .error refusal
      | none =>
        .ok { slot, person := p, folio, folioId := f.id, figures := fig, conflict := decide (p.presence = .ASHORE) }

/-- Steps 3 to 13 of R67 for a person whose card is ACTIVE. A person's folio slot always holds a folio (R62). -/
def State.personCheck (s : State) (v : Venue) (slot : Nat) (p : Person) (raw : List RawLine) :
    Except PurchaseRefusal Approval :=
  match p.ident.folio with
  | none => .error .NO_FOLIO
  | some folio =>
    match s.folios.get folio with
    | none => .error .NO_FOLIO
    | some f =>
      if p.ident.chargeHold then .error .PERSON_HOLD
      else if p.presence = .ASHORE ∧ s.params.chargePolicy = .REFUSE then .error .PRESENCE
      else if f.state ≠ .OPEN then .error .FOLIO_STATE
      else if s.underReconcile folio f.id then .error .TRY_AGAIN
      else s.priceCheck v slot p folio f raw

/-- The checks of R67, in order. An ACTIVE entry always names a person (R12). -/
def State.authorise (s : State) (v : Venue) (u : RawUid) (raw : List RawLine) : Except PurchaseRefusal Approval :=
  if s.clock.state = .UNSET then .error .CLOCK_UNSET
  else
    match s.lookupRaw u with
    | none => .error .UNKNOWN_CARD
    | some e =>
      match e.state with
      | .SUSPENDED => .error .SUSPENDED
      | .REVOKED => .error .REVOKED
      | .ACTIVE =>
        match s.persons.get e.slot with
        | none => .error .UNKNOWN_CARD
        | some p => s.personCheck v e.slot p raw

/-! ## The hold of an approval (R80, R83) -/

/-- The offline amount of an AUTH: its total with the present epoch while OFFLINE. -/
def State.offlineAmount (s : State) (total : Nat) : Option (Nat × Nat) :=
  match s.upstream with
  | .ONLINE => none
  | .OFFLINE => some (total, s.epoch)

/-- The hold written from an approval (R80, R82, R83). -/
def State.holdOf (s : State) (tag venue : Nat) (a : Approval) : Hold where
  tag        := tag
  slot       := a.slot
  personId   := a.person.ident.id
  folio      := a.folio
  folioId    := a.folioId
  venue      := venue
  gross      := a.figures.gross
  covered    := a.figures.covered
  gratuity   := a.figures.gratuity
  total      := a.figures.total
  units      := a.figures.units
  child      := if a.person.ident.childCap.isSome then a.figures.total else 0
  offline    := s.offlineAmount a.figures.total
  day        := s.folioDay
  time       := s.clock.time
  conflict   := a.conflict
  confirming := false
  timer      := s.startTimer (1000 * s.params.holdTimeout)

/-- The folio's reservations of an approval (R83). -/
def Folio.reserved (f : Folio) (h : Hold) (epoch : Nat) : Folio :=
  let f := { f with held := f.held + h.total }
  if h.offline.isSome then f.offlineAdd epoch h.total else f

/-- The person's reservations of an approval (R83). -/
def Person.reserved (p : Person) (h : Hold) : Person :=
  { p with unitsReserved := p.unitsReserved + h.units, childReserved := p.childReserved + h.child }

/-- The hold is written and its reservations are made (R83). -/
def State.openHold (s : State) (id : HeadId) (h : Hold) : State :=
  let s := (s.modifyFolio h.folio (fun f => f.reserved h s.epoch)).modifyPerson h.slot (fun p => p.reserved h)
  let s := s.modifyHead id (fun hd => { hd with hold := some h })
  if h.conflict then s.raise .PRESENCE_CONFLICT (.person h.slot) else s

/-- The venue of a terminal. Every terminal TAP finds its venue record (R65). -/
def State.venueOf (s : State) (venue : Nat) : Venue := (s.venues.get venue).getD ⟨0, false⟩

/-- The AUTH of a TAP whose terminal carries no hold any more. -/
def State.decideAuth (s : State) (e : Entry) (venue : Nat) (u : RawUid) (tag : Nat) (raw : List RawLine) : State :=
  match s.authorise (s.venueOf venue) u raw with
  | .error refusal => s.sendDecision e (.purchase tag (.REFUSE refusal))
  | .ok a =>
    (s.openHold e.head (s.holdOf tag venue a)).sendDecision e
      (.purchase tag (.APPROVE a.figures.gross a.figures.covered a.figures.gratuity a.figures.total))

/-- A terminal TAP is decided (R65). -/
def State.decidePurchase (s : State) (e : Entry) (u : RawUid) (tag : Nat) (raw : List RawLine) : State :=
  match s.head? e.head with
  | none => s
  | some hd =>
    match hd.hold with
    | none => s.decideAuth e hd.bound u tag raw
    | some h =>
      if h.confirming then s.sendDecision e (.purchase tag (.REFUSE .TRY_AGAIN))
      else (s.releaseHold e.head h).decideAuth e hd.bound u tag raw

/-! ## CONFIRM, VOID, expiry and answers (R86 to R88, R90) -/

/-- The hold a terminal carries. -/
def State.holdAt (s : State) (h : HeadId) : Option Hold := (s.head? h).bind (·.hold)

/-- Case 4 of R90: the purchase intake waits at this CONFIRM. -/
def State.confirmWaits (s : State) (e : Entry) (tag : Nat) : Bool :=
  (s.holdAt e.head).any (fun h => decide (h.tag = tag) && !h.confirming && s.underReconcile h.folio h.folioId)
    && decide (Config.deferredEntries ≤ s.deferred.length)

/-- Case 3 of R90: the CONFIRM joins the deferred list (R92). -/
def State.deferConfirm (s : State) (e : Entry) (tag : Nat) (h : Hold) : State :=
  let s := s.modifyHead e.head (fun hd => { hd with hold := some { h with confirming := true } })
  { s with deferred := s.deferred ++ [⟨e.head, tag, none⟩] : State }.giveBackEntry e

/-- Case 5 of R90: the CONFIRM is applied and answered CONFIRMED. -/
def State.confirmNow (s : State) (e : Entry) (tag : Nat) (h : Hold) : State :=
  let number := s.nextCharge
  let s := (s.applyConfirm h).modifyHead e.head (fun hd => { hd with hold := none })
  s.sendDecision e (.purchase tag (.CONFIRMED number))

/-- Cases 1, 2, 3 and 5 of R90. -/
def State.decideConfirm (s : State) (e : Entry) (tag : Nat) : State :=
  match s.holdAt e.head with
  | none => s.sendDecision e (.purchase tag .LATE)
  | some h =>
    if h.tag ≠ tag then s.sendDecision e (.purchase tag .LATE)
    else if h.confirming then s.giveBackEntry e
    else if s.underReconcile h.folio h.folioId then s.deferConfirm e tag h
    else s.confirmNow e tag h

/-- The terminal's hold is released when it is open, not confirming and has the tag (R86, R87). -/
def State.releaseTagged (s : State) (id : HeadId) (tag : Nat) : State :=
  match s.holdAt id with
  | none => s
  | some h => if h.tag = tag ∧ h.confirming = false then s.releaseHold id h else s

/-- The hold timer of a terminal's hold runs out (R88). -/
def State.expireHold (s : State) (id : HeadId) : State :=
  match s.holdAt id with
  | none => s
  | some h =>
    let s := s.passTime (s.timeLeft h.timer)
    if h.confirming then s else s.releaseHold id h

/-- The Charge Unit takes the oldest entry of the purchase intake, which takes nothing while it waits at a CONFIRM (R92). -/
def State.takePurchase (s : State) (handle : Entry → Option (State → State)) : State :=
  if s.intakeWaits then s else s.takeOldest .VENUE_TERMINAL handle

/-- The Charge Unit takes a CONFIRM, or waits at it (R90). -/
def State.takeConfirm (s : State) : State :=
  match s.oldest .VENUE_TERMINAL with
  | none => s
  | some e =>
    match e.event with
    | .confirm tag =>
      if !s.entryGone e && s.confirmWaits e tag then { s with intakeWaits := true }
      else s.takePurchase (fun e => some (fun s => s.decideConfirm e tag))
    | _ => s

/-! ## The commands -/

/-- The Charge Unit takes a TAP. -/
def execPurchaseTap (s : State) : Host.Outcome State Fault Refusal :=
  .next (s.takePurchase (fun e =>
    match e.event with
    | .purchaseTap u tag lines => some (fun s => s.decidePurchase e u tag lines)
    | _ => none))

/-- The Charge Unit takes a CONFIRM. -/
def execConfirm (s : State) : Host.Outcome State Fault Refusal := .next s.takeConfirm

/-- The Charge Unit takes a VOID. -/
def execVoid (s : State) : Host.Outcome State Fault Refusal :=
  .next (s.takePurchase (fun e =>
    match e.event with
    | .void tag => some (fun s => s.releaseTagged e.head tag)
    | _ => none))

/-- The hold timer of a terminal runs out. -/
def execHoldExpiry (line address : Nat) (s : State) : Host.Outcome State Fault Refusal := .next (s.expireHold ⟨line, address⟩)

end Sys2Proof.Machine
end

