-- ==== Sys2Proof/Machine/Heads.lean ====
section
/-! DEFINITION. The Head Manager's requests and its own steps (R165, R166, R168, R169, R172 to R175, R177, R178). -/

namespace Sys2Proof.Machine

open Sys2Proof

/-! ## Bindings (R25, R63, R106, R165) -/

/-- The refusal of a binding by the owner of the bound object, none when it is made. -/
def State.bindingRefusal (s : State) (h : HeadId) (cls : HeadClass) (bound : Nat) : Option Status :=
  match cls with
  | .CABIN_DOOR =>
    match s.cabin? bound with
    | none => some .NOT_FOUND
    | some c => if c.doorHead.any (fun d => decide (d ≠ h)) then some .IN_USE else none
  | .VENUE_TERMINAL => if (s.venues.get bound).isNone then some .NOT_FOUND else none
  | .GANGWAY_LANE => if (s.lane bound).head.any (fun d => decide (d ≠ h)) then some .IN_USE else none

/-- The owner of the bound object makes the binding. -/
def State.bind (s : State) (h : HeadId) (cls : HeadClass) (bound : Nat) : State :=
  match cls with
  | .CABIN_DOOR => s.bindCabin bound h
  | .VENUE_TERMINAL => s
  | .GANGWAY_LANE => s.bindLane bound h

/-- The owner of the bound object undoes the binding. -/
def State.unbind (s : State) (cls : HeadClass) (bound : Nat) : State :=
  match cls with
  | .CABIN_DOOR => s.unbindCabin bound
  | .VENUE_TERMINAL => s
  | .GANGWAY_LANE => s.unbindLane bound

/-! ## HEAD PUT (R165) -/

/-- The refusal of a HEAD PUT that names `cls`, by checks 2 and 3 of R165; none when it passes. -/
def State.headPutRefusal (s : State) (h : HeadId) (cls : HeadClass) (f : HeadFields) : Option Status :=
  match s.bindingRefusal h cls f.bound with
  | some status => some status
  | none =>
    if (s.head? h).any (fun hd => decide (hd.state = .TUNING)) && decide (f.neighbourhood ≠ 0)
        && decide (s.tuningCount (fun k x => decide (k ≠ h.key) && decide (x.neighbourhood = f.neighbourhood)) ≠ 0) then
      some .BUSY
    else none

/-- A created head (R163), before its line gives it a state. -/
def Head.fresh (cls : HeadClass) (f : HeadFields) : Head where
  cls           := cls
  bound         := f.bound
  neighbourhood := f.neighbourhood
  group         := f.group
  state         := .IDLE
  faultReason   := none
  tuneKind      := .LONG
  field         := none
  quality       := .UNTUNED
  lastTune      := none
  nextDue       := none
  tuneWait      := none
  missed        := 0
  lastSeq       := none
  notified      := false
  settings      := .NONE
  lastGrant     := none
  hold          := none
  tuneTimer     := none
  retryTimer    := none
  frameWaits    := false
  lastTurnEnd   := none
  lastIdentEnd  := none
  due           := false

/-- Step 1 of the changing case of R165: what the head has in hand ends. -/
def State.endInHand (s : State) (h : HeadId) : State :=
  ((s.leaveOnline h).tuneFrameEnds h).modifyHead h (fun hd => { hd.tuneOver with retryTimer := none, tuneWait := none })

/-- Step 4 of the changing case of R165. -/
def Head.changed (hd : Head) (cls : HeadClass) (f : HeadFields) : Head :=
  { hd with cls := cls, bound := f.bound, neighbourhood := f.neighbourhood, group := f.group, faultReason := none,
            field := none, lastTune := none, nextDue := none, quality := .UNTUNED, notified := false, due := false }

/-- A head that was FAULTED has left FAULTED for its present state, or for removal: HEAD_STATE is raised (R176). -/
def State.raiseRecovered (s : State) (h : HeadId) (was : HeadState) : State :=
  if was = .FAULTED then s.raise .HEAD_STATE (headStateSubject h ((s.head? h).map (·.state)) none 0) else s

/-- HEAD PUT on a head whose class or bound object changes (R165). -/
def State.headChanged (s : State) (h : HeadId) (hd : Head) (cls : HeadClass) (f : HeadFields) : State :=
  let s := ((s.endInHand h).unbind hd.cls hd.bound).bind h cls f.bound
  (s.modifyHead h (fun x => (x.changed cls f).byLine (s.lineRunning h.line))).raiseRecovered h hd.state

/-- HEAD PUT (R165). -/
def State.headPutWork (s : State) (h : HeadId) (f : HeadFields) : Answer :=
  match headClassOf h f with
  | none => s.refuse .OUT_OF_RANGE
  | some cls =>
    match s.headPutRefusal h cls f with
    | some status => s.refuse status
    | none =>
      match s.head? h with
      | none => ((s.setHead h ((Head.fresh cls f).byLine (s.lineRunning h.line))).bind h cls f.bound).done
      | some hd =>
        if hd.cls = cls ∧ hd.bound = f.bound then
          (s.modifyHead h (fun x => { x with neighbourhood := f.neighbourhood, group := f.group })).done
        else (s.headChanged h hd cls f).done

/-! ## HEAD DROP (R166) -/

/-- Step 2 of R166: the head's queued frames go, and a turn in flight to it runs on with its answer to be discarded. -/
def Line.dropHead (ln : Line) (address : Nat) : Line :=
  let ln := ln.removeFrames (fun f => f.dest == address)
  { ln with turn := ln.turn.map (fun t => if t.target = address then { t with dropped := true } else t) }

/-- The steps of an accepted HEAD DROP. -/
def State.headDropped (s : State) (h : HeadId) (hd : Head) : State :=
  let s := ((s.endInHand h).modifyLine h.line (fun ln => ln.dropHead h.address)).unbind hd.cls hd.bound
  ({ s with heads := s.heads.erase h.key } : State).raiseRecovered h hd.state

/-- HEAD DROP (R166). -/
def State.headDropWork (s : State) (h : HeadId) : Answer :=
  if !h.inRange then s.refuse .OUT_OF_RANGE
  else
    match s.head? h with
    | none => s.refuse .NOT_FOUND
    | some hd => (s.headDropped h hd).done

/-! ## HEAD GET (R178) -/

/-- A settings outcome: its value, and the segment index of FAILED. -/
def SettingsOutcome.bytes : SettingsOutcome → List Byte
  | .NONE => u8 0 ++ u8 0
  | .PENDING => u8 1 ++ u8 0
  | .APPLIED => u8 2 ++ u8 0
  | .FAILED index => u8 3 ++ u8 1 ++ u8 index

/-- The fields of R163, in table order, but for the last grant or hold. DEDUCED (log entry 13): the last accepted sequence, '0..7, or
none', travels as an optional field with its presence byte, and not as the event poll's FFh (R193). -/
def encHeadRecord (h : HeadId) (hd : Head) : List Byte :=
  encHead h ++ u8 hd.cls.ctorIdx ++ u16 hd.bound ++ u8 hd.neighbourhood ++ opt u8 hd.group ++ u8 hd.state.ctorIdx
    ++ opt (fun r : FaultReason => u8 r.ctorIdx) hd.faultReason ++ u8 hd.tuneKind.ctorIdx ++ opt u16 hd.field
    ++ u8 hd.quality.ctorIdx ++ opt u32 hd.lastTune ++ opt u32 hd.nextDue ++ opt u32 hd.tuneWait ++ u8 hd.missed
    ++ opt u8 hd.lastSeq ++ flag hd.notified ++ hd.settings.bytes

/-- The time left on a tune timer, when it runs: at most 3,000 ms, so 2 bytes (R192). -/
def State.encTuneTimer (s : State) (t : Option Timer) : List Byte := opt (fun t => u16 (s.timeLeft t)) t

/-- The time left on a fault retry timer, when it runs: up to 600,000 ms, so 4 bytes (R192). -/
def State.encRetryTimer (s : State) (t : Option Timer) : List Byte := opt (fun t => u32 (s.timeLeft t)) t

/-- The lane state of a lane head. -/
def State.laneStateOf (s : State) (hd : Head) : Option LaneState :=
  match hd.cls with
  | .GANGWAY_LANE => some (s.lane hd.bound).state
  | .CABIN_DOOR => none
  | .VENUE_TERMINAL => none

/-- The body of HEAD GET (R178). -/
def State.headBody (s : State) (h : HeadId) (hd : Head) : List Byte :=
  encHeadRecord h hd ++ opt encGrant hd.lastGrant ++ opt encHold hd.hold ++ s.encTuneTimer hd.tuneTimer ++ s.encRetryTimer hd.retryTimer
    ++ flag (s.waitsSince hd).isSome ++ flag (s.idle h hd) ++ opt (fun x : LaneState => u8 x.ctorIdx) (s.laneStateOf hd)

/-- HEAD GET (R178). -/
def State.headGetWork (s : State) (h : HeadId) : Answer :=
  if !h.inRange then s.refuse .OUT_OF_RANGE
  else
    match s.head? h with
    | none => s.refuse .NOT_FOUND
    | some hd => s.done (s.headBody h hd)

/-! ## HEAD TUNE and SETTINGS PUSH (R175, R177) -/

/-- HEAD TUNE (R175). -/
def State.headTuneWork (s : State) (h : HeadId) (kind : Nat) : Answer :=
  match TuneKind.ofCode kind with
  | none => s.refuse .OUT_OF_RANGE
  | some k =>
    if !h.inRange then s.refuse .OUT_OF_RANGE
    else
      match s.head? h with
      | none => s.refuse .NOT_FOUND
      | some hd =>
        if hd.state ≠ .ONLINE ∨ (s.laneStateOf hd).any (fun st => decide (st ≠ .CLOSED)) = true then s.refuse .WRONG_STATE
        else if !s.idle h hd || !s.limitsAllow h hd then s.refuse .BUSY
        else (s.startTune h k).done

/-- A destination address of a settings segment (R149, R177). -/
def pushDestination (dest : Nat) : Bool :=
  (decide (1 ≤ dest) && decide (dest ≤ 200)) || (decide (224 ≤ dest) && decide (dest ≤ 239)) || decide (dest = 255)

/-- A destination of one head. -/
def singleHead (dest : Nat) : Bool := decide (dest ≤ 200)

/-- The refusal of a SETTINGS PUSH by the checks of R177, in order; none when it passes. -/
def State.pushRefusal (s : State) (l dest : Nat) (page : List Byte) (map : Option (List Byte)) : Option Status :=
  let h : HeadId := ⟨l, dest⟩
  if Config.lines ≤ l ∨ pushDestination dest = false ∨ page.length = 0 ∨ 96 < page.length
      ∨ (singleHead dest = false ∧ map = none) then some .OUT_OF_RANGE
  else if singleHead dest && (s.head? h).isNone then some .NOT_FOUND
  else if !s.lineRunning l || (singleHead dest && !s.online h) then some .WRONG_STATE
  else if (s.line l).push.isSome then some .BUSY
  else none

/-- SETTINGS PUSH (R177). -/
def State.settingsPushWork (s : State) (l dest : Nat) (page : List Byte) (map : Option (List Byte)) : Answer :=
  match s.pushRefusal l dest page map with
  | some status => s.refuse status
  | none =>
    let s := s.modifyLine l (fun ln => { ln with push := some ⟨dest, page, map, false, 0⟩ })
    ⟨if singleHead dest then s.modifyHead ⟨l, dest⟩ (fun hd => { hd with settings := .PENDING }) else s, .ACCEPTED, []⟩

/-- A line's waiting push enqueues all its segments together once that many free unreserved slots exist (R160). -/
def State.enqueuePush (s : State) (l : Nat) : State :=
  let ln := s.line l
  match ln.push with
  | none => s
  | some p =>
    if p.queued = false ∧ segmentCount p.page ≤ ln.free then
      s.setLine l { ln with queue := ln.queue ++ p.frames, push := some { p with queued := true } }
    else s

/-! ## The Head Manager's own steps -/

/-- The TUNE frame that waits for a slot is enqueued when there is one (R168). -/
def State.enqueueWaitingTune (s : State) (h : HeadId) : State :=
  match s.head? h with
  | none => s
  | some hd => if hd.state = .TUNING ∧ hd.frameWaits = true then s.enqueueTune h hd.tuneKind else s

/-- The tune timer of a head runs out (R169). -/
def State.expireTune (s : State) (h : HeadId) : State :=
  match s.head? h with
  | none => s
  | some hd =>
    match hd.state, hd.tuneTimer with
    | .TUNING, some t => (s.passTime (s.timeLeft t)).faultHead h .TUNE_TIMEOUT 0
    | _, _ => s

/-- The fault retry timer of a head runs out (R172). -/
def State.expireRetry (s : State) (h : HeadId) : State :=
  match s.head? h with
  | none => s
  | some hd =>
    match hd.state, hd.retryTimer with
    | .FAULTED, some t =>
      ((s.passTime (s.timeLeft t)).modifyHead h (fun x => { x.probing with retryTimer := none })).raise .HEAD_STATE
        (headStateSubject h (some .PROBING) none 0)
    | _, _ => s

/-- The ms until the elapsed-time count reaches `t`, 0 once it has (R157). -/
def State.msUntil (s : State) (t : Nat) : Nat := if s.reached t then 0 else mod32 - s.since t

/-- An ONLINE head's next due time is reached, and it joins the heads that wait for a SHORT tune (R173). -/
def State.becomeDue (s : State) (h : HeadId) : State :=
  match s.head? h with
  | none => s
  | some hd =>
    match hd.state, hd.nextDue with
    | .ONLINE, some t => (s.passTime (s.msUntil t)).modifyHead h (fun x => { x with due := true })
    | _, _ => s

/-- The ms until an ONLINE head tuned last at `last` and due next at `next` is overdue, 0 once it is: the elapsed time since its last
tune then exceeds twice the span between the two (R174). -/
def State.msUntilOverdue (s : State) (last next : Nat) : Nat :=
  2 * ((next + (mod32 - last % mod32)) % mod32) + 1 - s.since last

/-- An ONLINE head becomes overdue, and raises TUNE_OVERDUE once (R174). -/
def State.becomeOverdue (s : State) (h : HeadId) : State :=
  match s.head? h with
  | none => s
  | some hd =>
    match hd.state, hd.lastTune, hd.nextDue with
    | .ONLINE, some last, some next =>
      if hd.notified then s
      else
        ((s.passTime (s.msUntilOverdue last next)).modifyHead h (fun x => { x with notified := true })).raise .TUNE_OVERDUE
          (.head h)
    | _, _, _ => s

/-! ## The commands -/

/-- HEAD PUT. -/
def execHeadPut (tag : Byte) (line address : Nat) (fields : HeadFields) (s : State) : Host.Outcome State Fault Refusal :=
  .next (s.serve (.headPut tag line address fields) (fun s => s.headPutWork ⟨line, address⟩ fields))

/-- HEAD DROP. -/
def execHeadDrop (tag : Byte) (line address : Nat) (s : State) : Host.Outcome State Fault Refusal :=
  .next (s.serve (.headDrop tag line address) (fun s => s.headDropWork ⟨line, address⟩))

/-- HEAD GET. -/
def execHeadGet (tag : Byte) (line address : Nat) (s : State) : Host.Outcome State Fault Refusal :=
  .next (s.serve (.headGet tag line address) (fun s => s.headGetWork ⟨line, address⟩))

/-- HEAD TUNE. -/
def execHeadTune (tag : Byte) (line address kind : Nat) (s : State) : Host.Outcome State Fault Refusal :=
  .next (s.serve (.headTune tag line address kind) (fun s => s.headTuneWork ⟨line, address⟩ kind))

/-- SETTINGS PUSH. -/
def execSettingsPush (tag : Byte) (line dest : Nat) (page : List Byte) (map : Option (List Byte)) (s : State) :
    Host.Outcome State Fault Refusal :=
  .next (s.serve (.settingsPush tag line dest page map) (fun s => s.settingsPushWork line dest page map))

/-- A waiting push enqueues its segments. -/
def execSettingsPushEnqueue (line : Nat) (s : State) : Host.Outcome State Fault Refusal :=
  .next (s.enqueuePush line)

/-- The scheduler starts the first waiting head whose conditions hold. -/
def execTuneStart (s : State) : Host.Outcome State Fault Refusal := .next s.scheduleOne

/-- A waiting TUNE frame is enqueued. -/
def execTuneFrameEnqueue (line address : Nat) (s : State) : Host.Outcome State Fault Refusal :=
  .next (s.enqueueWaitingTune ⟨line, address⟩)

/-- A tune timer runs out. -/
def execTuneTimeout (line address : Nat) (s : State) : Host.Outcome State Fault Refusal := .next (s.expireTune ⟨line, address⟩)

/-- A fault retry timer runs out. -/
def execFaultRetryExpiry (line address : Nat) (s : State) : Host.Outcome State Fault Refusal :=
  .next (s.expireRetry ⟨line, address⟩)

/-- A head becomes due for a SHORT tune. -/
def execHeadDueForTune (line address : Nat) (s : State) : Host.Outcome State Fault Refusal :=
  .next (s.becomeDue ⟨line, address⟩)

/-- A head becomes overdue for its tune. -/
def execTuneOverdue (line address : Nat) (s : State) : Host.Outcome State Fault Refusal :=
  .next (s.becomeOverdue ⟨line, address⟩)

end Sys2Proof.Machine
end

