-- ==== Sys2Proof/Machine/ReaderLines.lean ====
section
/-! DEFINITION. The Reader Line Controller: LINE START, STOP and GET, the turns of a line, the answers of the heads and what they hand
on (R143, R144, R147 to R156, R159, R160, R167, R169). -/

namespace Sys2Proof.Machine

open Sys2Proof

/-! ## LINE START, LINE STOP and LINE GET (R143, R144, R152) -/

/-- The heads of a line, by rising address (log entry 10). -/
def State.headsOf (s : State) (l : Nat) : List HeadId :=
  (s.heads.keys.map HeadId.ofKey).filter (fun h => decide (h.line = l))

/-- LINE START on a DOWN line (R143). -/
def State.lineStarted (s : State) (l : Nat) : State :=
  let s := s.setLine l { Line.powerOn with state := .RUNNING }
  (s.headsOf l).foldl (fun s h => s.modifyHead h Head.probing) s

/-- LINE START (R143). -/
def State.lineStartWork (s : State) (l : Nat) : Answer :=
  if Config.lines ≤ l then s.refuse .OUT_OF_RANGE
  else if s.lineRunning l then s.done
  else (s.lineStarted l).done

/-- Steps 1 to 4 of R144, but for the push, which the heads' departures still read: the turn ends without an outcome, the queue and its
reservations go, the intake reservation of a poll in flight is given back, and the line is DOWN. -/
def State.lineEmptied (s : State) (l : Nat) : State :=
  let s := match (s.line l).turn.bind (·.holds) with
    | some c => s.giveBackIntake c
    | none => s
  s.modifyLine l (fun ln => { ln with state := .DOWN, queue := [], reserved := 0, turn := none })

/-- A head of a stopped line enters IDLE (R144 step 5, R179). -/
def State.stopHead (s : State) (h : HeadId) : State :=
  match s.head? h with
  | none => s
  | some hd =>
    ((s.leaveOnline h).modifyHead h (fun x =>
      { x.tuneOver with state := .IDLE, retryTimer := none, tuneWait := none, nextDue := none, due := false })).raiseRecovered
      h hd.state

/-- LINE STOP on a RUNNING line (R144). -/
def State.lineStopped (s : State) (l : Nat) : State :=
  let s := s.lineEmptied l
  ((s.headsOf l).foldl State.stopHead s).modifyLine l Line.withoutPush

/-- LINE STOP (R144). -/
def State.lineStopWork (s : State) (l : Nat) : Answer :=
  if Config.lines ≤ l then s.refuse .OUT_OF_RANGE
  else if s.lineRunning l then (s.lineStopped l).done
  else s.done

/-- A turn of a LINE GET: its kind, target address and attempt, 0 for the first and 1 for the retry. DEDUCED (log entry 13): the
kind travels as R193's frame kind code, 01h to 07h, not as an enumeration numbered from 00h. -/
def encTurn (t : Turn) : List Byte := u8 t.frame.kind ++ u8 t.target ++ flag t.retry

/-- A head of a LINE GET, four bytes. DEDUCED (log entry 13): R152 names its address, which travels as R192's 'line and address', since
R191 calls LINE GET with 200 heads the largest reply: that body then has up to 843 bytes. -/
def State.encLineHead (s : State) (h : HeadId) : List Byte :=
  match s.head? h with
  | some hd => encHead h ++ u8 hd.state.ctorIdx ++ u8 hd.missed
  | none => encHead h ++ u8 0 ++ u8 0

/-- The body of LINE GET (R152); its frames and reservations are counts of two bytes (log entry 13). DESIGN CHOICE (log entry 10): the
heads follow by rising address, an order R152 does not give. -/
def State.lineBody (s : State) (l : Nat) : List Byte :=
  let ln := s.line l
  u8 ln.state.ctorIdx ++ u8 ln.cursor ++ u16 ln.queue.length ++ u16 ln.reserved ++ opt encTurn ln.turn ++ encCounters ln.counters
    ++ listOf s.encLineHead (s.headsOf l)

/-- LINE GET (R152). -/
def State.lineGetWork (s : State) (l : Nat) : Answer :=
  if Config.lines ≤ l then s.refuse .OUT_OF_RANGE else s.done (s.lineBody l)

/-! ## Turns (R147, R148, R150) -/

/-- Change the counters of a line. -/
def State.count (s : State) (l : Nat) (f : LineCounters → LineCounters) : State :=
  s.modifyLine l (fun ln => { ln with counters := f ln.counters })

/-- A least interval has passed since `t`, or there was nothing to wait for (R148). -/
def State.passedSince (s : State) (t : Option Nat) (ms : Nat) : Bool :=
  match t with
  | none => true
  | some t => decide (ms ≤ s.since t)

/-- The poll the head may be sent, none when it may not be polled (R148). -/
def State.pollOf (s : State) (h : HeadId) : Option TurnFrame :=
  match s.head? h with
  | none => none
  | some hd =>
    match hd.state with
    | .ONLINE =>
      if (s.intake hd.cls).hasRoom hd.cls && decide (0 < (s.line h.line).free) then some (.eventPoll hd.lastSeq) else none
    | .TUNING => if s.passedSince hd.lastTurnEnd Config.tuningPollMs then some .tuningPoll else none
    | .PROBING => if s.passedSince hd.lastIdentEnd Config.identMs then some .ident else none
    | .IDLE => none
    | .FAULTED => none

/-- The addresses of a line from its poll cursor upward, wrapping from 200 to 1 (R147). -/
def addressesFrom (cursor : Nat) : List Nat := (List.range 200).map (fun i => (cursor + 199 + i) % 200 + 1)

/-- The first head at or after the cursor that may be polled, with its poll. -/
def State.nextPoll (s : State) (l : Nat) : Option (Nat × TurnFrame) :=
  (addressesFrom (s.line l).cursor).findSome? (fun a => (s.pollOf ⟨l, a⟩).map (fun f => (a, f)))

/-- The class whose intake an event poll to the head holds a reservation in. -/
def State.pollHolds (s : State) (h : HeadId) (f : TurnFrame) : Option HeadClass :=
  match f with
  | .eventPoll _ => (s.head? h).map (·.cls)
  | .tuningPoll => none
  | .ident => none
  | .queued _ => none

/-- A turn starts: its first attempt is sent and counted. -/
def State.beginTurn (s : State) (l : Nat) (t : Turn) : State :=
  (s.modifyLine l (fun ln => { ln with turn := some t })).count l (fun c => { c with turns := bump c.turns })

/-- A poll is sent to an address: an event poll takes its two reservations (R154), and the cursor moves on (R147). -/
def State.beginPoll (s : State) (l address : Nat) (f : TurnFrame) : State :=
  let holds := s.pollHolds ⟨l, address⟩ f
  let s := match holds with
    | some c => s.reservePoll l c
    | none => s
  (s.modifyLine l (fun ln => { ln with cursor := address % 200 + 1 })).beginTurn l ⟨f, address, false, holds, false⟩

/-- A free RUNNING line starts its next turn (R147). -/
def State.startTurn (s : State) (l : Nat) : State :=
  let ln := s.line l
  match ln.state, ln.turn with
  | .RUNNING, none =>
    match ln.queue with
    | f :: _ => s.beginTurn l ⟨.queued f, f.dest, false, none, false⟩
    | [] =>
      match s.nextPoll l with
      | some (a, f) => s.beginPoll l a f
      | none => s
  | _, _ => s

/-- The head a turn is for, none when HEAD DROP has taken it away. -/
def State.turnHead (s : State) (l : Nat) (t : Turn) : Option Head := if t.dropped then none else s.head? ⟨l, t.target⟩

/-- A turn is over: a queued frame leaves the queue, and for one head the ends that R148 measures from are written. DESIGN CHOICE
(log entry 26): they are written for the turn that was already in flight when the head entered TUNING or PROBING as for any other. -/
def State.endTurn (s : State) (l : Nat) (t : Turn) : State :=
  let s := s.modifyLine l (fun ln =>
    { ln with turn := none, queue := match t.frame with | .queued _ => ln.queue.drop 1 | _ => ln.queue })
  if t.dropped || !singleHead t.target then s
  else
    s.modifyHead ⟨l, t.target⟩ (fun hd =>
      { hd with lastTurnEnd := some s.elapsed,
                lastIdentEnd := match t.frame with | .ident => some s.elapsed | _ => hd.lastIdentEnd })

/-! ## Group frames (R149, R150, R177) -/

/-- A group or all-heads push ends with its last segment. -/
def Line.groupSent (ln : Line) (f : OutFrame) : Line :=
  match f.content with
  | .segment _ false _ _ => ln.withoutPush
  | _ => ln

/-- The turn of a group or all-heads frame ends when the frame has been sent (R150). -/
def State.groupSent (s : State) (l : Nat) : State :=
  match (s.line l).turn with
  | some ⟨.queued f, target, retry, holds, dropped⟩ =>
    if singleHead f.dest then s
    else (s.endTurn l ⟨.queued f, target, retry, holds, dropped⟩).modifyLine l (fun ln => ln.groupSent f)
  | _ => s

/-! ## Failed turns (R150, R151) -/

/-- The head's missed turns reach the limit: the RLC hands over a NO_ANSWER fault (R151). -/
def State.missTurn (s : State) (h : HeadId) : State :=
  match s.head? h with
  | none => s
  | some hd =>
    if hd.state = .ONLINE ∨ hd.state = .TUNING then
      let s := s.modifyHead h (fun x => { x with missed := x.missed + 1 })
      if s.params.missedTurnLimit ≤ hd.missed + 1 then s.faultHead h .NO_ANSWER 0 else s
    else s

/-- A TUNE frame whose turn failed is enqueued again while the head is TUNING (R168). -/
def State.resendTune (s : State) (h : HeadId) : State :=
  match s.head? h with
  | none => s
  | some hd => if hd.state = .TUNING then s.enqueueTune h hd.tuneKind else s

/-- The block that enqueued a frame is told that its turn failed (R150). When HEAD DROP has taken the head away (`dropped`), only
the DDU still has something to do: the cabin of an INDICATOR frame is owed it again (R29). -/
def State.frameFailed (s : State) (h : HeadId) (dropped : Bool) (f : OutFrame) : State :=
  match f.content with
  | .indicator cabin _ => s.indicatorLost cabin
  | .segment _ _ _ _ => if dropped then s else s.failPush h
  | .tune _ => if dropped then s else s.resendTune h
  | .door _ _ => s
  | .purchase _ _ => s
  | .lane _ _ => s

/-- A turn ends failed (R150). -/
def State.failTurn (s : State) (l : Nat) (t : Turn) : State :=
  let h : HeadId := ⟨l, t.target⟩
  let s := ((s.endTurn l t).count l (fun c => { c with failed := bump c.failed })).giveBackPoll l t.holds
  let s := if t.dropped then s else s.missTurn h
  match t.frame with
  | .queued f => s.frameFailed h t.dropped f
  | .eventPoll _ => s
  | .tuningPoll => s
  | .ident => s

/-- An attempt of a turn has failed: the first is followed by the retry, the second ends the turn (R150). -/
def State.failAttempt (s : State) (l : Nat) (t : Turn) : State :=
  if t.retry then s.failTurn l t
  else
    (s.modifyLine l (fun ln => { ln with turn := some { t with retry := true } })).count l
      (fun c => { c with retries := bump c.retries })

/-! ## Events (R155, R156) -/

/-- The event kind code of HEAD_FAULT (R193). -/
def headFaultCode : Nat := 0x0F

/-- An accepted event is routed (R156). -/
def State.routeEvent (s : State) (h : HeadId) (hd : Head) (holds : Option HeadClass) (kind : Nat) (payload : List Byte) : State :=
  if kind = headFaultCode then (s.giveBackPoll h.line holds).faultHead h .HEAD_REPORTED (numberOf payload)
  else
    match eventOf hd.cls kind payload with
    | some e => s.enterIntake h hd.cls e
    | none => (s.giveBackPoll h.line holds).count h.line (fun c => { c with foreign := bump c.foreign })

/-- An event answer of an ONLINE head (R155). -/
def State.takeEvent (s : State) (h : HeadId) (hd : Head) (holds : Option HeadClass) (seq lost kind : Nat) (payload : List Byte) :
    State :=
  if hd.lastSeq = some seq then
    (s.giveBackPoll h.line holds).count h.line (fun c => { c with duplicates := bump c.duplicates })
  else
    ((s.modifyHead h (fun x => { x with lastSeq := some seq })).count h.line
      (fun c => { c with lost := min (c.lost + lost) max32 })).routeEvent h hd holds kind payload

/-! ## Answers handed on (R159, R167, R169, R177) -/

/-- An IDENT answer (R167). PRESUMED (log entry 17): a class byte that is none of 01h to 03h is another class, CLASS_MISMATCH. -/
def State.takeIdent (s : State) (h : HeadId) (hd : Head) (code : Nat) : State :=
  if hd.state = .PROBING then
    if code = hd.cls.ctorIdx + 1 then
      (s.modifyHead h (fun x => { x with tuneWait := some (x.tuneWait.getD s.elapsed) })).attemptStarts
    else (s.modifyHead h (fun x => { x with tuneWait := none })).faultHead h .CLASS_MISMATCH 0
  else s

/-- A STALE answer to a decision frame is handed to the job unit of the head's class (R35, R86, R111). -/
def State.takeStale (s : State) (h : HeadId) (hd : Head) (content : FrameContent) : State :=
  match content with
  | .door tag (.GRANT _) => s.modifyHead h (fun x => x.grantAnswered tag)
  | .purchase tag (.APPROVE _ _ _ _) => s.releaseTagged h tag
  | .lane tag (.PASS _) => s.staleCrossing hd.bound tag
  | .lane tag .AWAIT_OFFICER => s.staleCrossing hd.bound tag
  | _ => s

/-- The ACK of a single-head segment is handed to the Head Manager; that of the last one ends the push APPLIED (R177). -/
def State.takeSegmentAck (s : State) (h : HeadId) (more : Bool) : State :=
  match (s.line h.line).push with
  | none => s
  | some p =>
    if p.dest ≠ h.address then s
    else if more then s.modifyLine h.line (fun ln => { ln with push := some { p with answered := p.answered + 1 } })
    else (s.modifyLine h.line Line.withoutPush).modifyHead h (fun x => { x with settings := .APPLIED })

/-- The ACK of a queued frame: an INDICATOR's and a TUNE frame's have no further effect (R159, R168). -/
def State.takeAck (s : State) (h : HeadId) (content : FrameContent) : State :=
  match content with
  | .segment _ more _ _ => s.takeSegmentAck h more
  | .indicator _ _ => s
  | .tune _ => s
  | .door _ _ => s
  | .purchase _ _ => s
  | .lane _ _ => s

/-- A good answer, after the turn has ended, from a head that has not been dropped. -/
def State.takeAnswer (s : State) (h : HeadId) (hd : Head) (t : Turn) (a : HeadAnswer) : State :=
  match a with
  | .noEvent => s.giveBackPoll h.line t.holds
  | .event seq lost kind payload =>
    if hd.state = .ONLINE then s.takeEvent h hd t.holds seq lost kind payload else s.giveBackPoll h.line t.holds
  | .tuning => s
  | .tuneDone low high field => if hd.state = .TUNING then s.finishTune h hd low high field else s
  | .ident code => s.takeIdent h hd code
  | .taken => s
  | .stale =>
    match t.frame with
    | .queued f => if hd.state = .ONLINE then s.takeStale h hd f.content else s
    | _ => s
  | .ack =>
    match t.frame with
    | .queued f => s.takeAck h f.content
    | _ => s

/-- A good answer ends the turn, and the head's missed turns become 0 (R150, R151). The answer of a dropped head is discarded
(R166). -/
def State.goodAnswer (s : State) (l : Nat) (t : Turn) (a : HeadAnswer) : State :=
  let h : HeadId := ⟨l, t.target⟩
  let s := s.endTurn l t
  match s.turnHead l t with
  | none => s.giveBackPoll l t.holds
  | some hd => (s.modifyHead h (fun x => { x with missed := 0 })).takeAnswer h hd t a

/-- The turn in flight when it awaits an answer: it is addressed to one head (R149). -/
def Line.awaiting (ln : Line) : Option Turn := ln.turn.filter (fun t => singleHead t.target)

/-- A head's answer arrives (R150). It is judged by the poll that it answers, whatever has become of the head since (R155). -/
def State.receiveAnswer (s : State) (l : Nat) (bytes : List Byte) : State :=
  match (s.line l).awaiting with
  | none => s
  | some t =>
    match judge t bytes with
    | .good a => s.goodAnswer l t a
    | .crcError => (s.count l (fun c => { c with crcErrors := bump c.crcErrors })).failAttempt l t
    | .bad => (s.count l (fun c => { c with badAnswers := bump c.badAnswers })).failAttempt l t

/-- No answer has arrived within 4 ms (R150). -/
def State.answerLate (s : State) (l : Nat) : State :=
  match (s.line l).awaiting with
  | none => s
  | some t => s.failAttempt l t

/-! ## The commands -/

/-- LINE START. -/
def execLineStart (tag : Byte) (line : Nat) (s : State) : Host.Outcome State Fault Refusal :=
  .next (s.serve (.lineStart tag line) (fun s => s.lineStartWork line))

/-- LINE STOP. -/
def execLineStop (tag : Byte) (line : Nat) (s : State) : Host.Outcome State Fault Refusal :=
  .next (s.serve (.lineStop tag line) (fun s => s.lineStopWork line))

/-- LINE GET. -/
def execLineGet (tag : Byte) (line : Nat) (s : State) : Host.Outcome State Fault Refusal :=
  .next (s.serve (.lineGet tag line) (fun s => s.lineGetWork line))

/-- A line starts a turn. -/
def execTurnStart (line : Nat) (s : State) : Host.Outcome State Fault Refusal := .next (s.startTurn line)

/-- A group or all-heads frame has been sent. -/
def execGroupFrameSent (line : Nat) (s : State) : Host.Outcome State Fault Refusal := .next (s.groupSent line)

/-- An answer arrives on a line. -/
def execAnswerReceived (line : Nat) (bytes : List Byte) (s : State) : Host.Outcome State Fault Refusal :=
  .next (s.receiveAnswer line bytes)

/-- The answer window of a line's turn ends without an answer. -/
def execAnswerTimeout (line : Nat) (s : State) : Host.Outcome State Fault Refusal := .next (s.answerLate line)

end Sys2Proof.Machine
end

