-- ==== Sys2Proof/Machine/Port.lean ====
section
/-! DEFINITION. The System Link Port's commands: SPI transactions, notices, the clock, the parameter store, STATUS GET, RESTART and
power-on reset (R22, R45, R64, R101, R124, R141, R162, R179 to R190). -/

namespace Sys2Proof.Machine

open Sys2Proof

/-! ## RESTART (R189) -/

/-- Step 1 of R189: every notice message leaves the outgoing queue. -/
def Link.withoutNotices (k : Link) : Link := { k with outgoing := k.outgoing.filter Message.isReply }

/-- Step 2 of R189: every latch is cleared, and the mask is kept. -/
def State.clearLatches (s : State) : State := { s with latches := s.latches.map (fun _ l => l.cleared) }

/-- A line across RESTART (R162, R179): its turn, queue and push go; state, cursor and counters are kept. -/
def Line.restarted (ln : Line) : Line := { ln with queue := [], reserved := 0, turn := none, push := none }

/-- The settings outcome of a head across RESTART: PENDING becomes FAILED at its first unanswered segment (R179). -/
def State.settingsRestarted (s : State) (h : HeadId) (o : SettingsOutcome) : SettingsOutcome :=
  match o with
  | .PENDING =>
    match (s.line h.line).push with
    | some p => if p.dest = h.address then .FAILED p.answered else .FAILED 0
    | none => .FAILED 0
  | .NONE => .NONE
  | .APPLIED => .APPLIED
  | .FAILED i => .FAILED i

/-- A head across RESTART (R162, R179). -/
def State.headRestarted (s : State) (h : HeadId) (hd : Head) : Head :=
  { hd with
    state       := if s.lineRunning h.line then .PROBING else .IDLE
    nextDue     := none
    tuneWait    := none
    missed      := 0
    lastSeq     := none
    notified    := false
    settings    := s.settingsRestarted h hd.settings
    lastGrant   := none
    hold        := none
    tuneTimer   := none
    retryTimer  := none
    frameWaits  := false
    lastIdentEnd := none
    due         := false }

/-- A lane across RESTART: its pending crossing is dropped and it is CLOSED (R124). -/
def Lane.restarted (la : Lane) : Lane := la.closed

/-- The sweeper across RESTART (R141). -/
def Sweeper.restarted (w : Sweeper) : Sweeper :=
  match w.state with
  | .SWEEPING => ⟨.IDLE, 0, [], false⟩
  | .IDLE => w
  | .DONE => w

/-- Step 3 of R189: every block restarts its working state and keeps its tables. -/
def State.blocksRestarted (s : State) : State :=
  let s := s.openHolds.foldl State.releaseAmounts s
  ({ s with
      heads       := s.heads.map (fun k hd => s.headRestarted (HeadId.ofKey k) hd)
      lines       := s.lines.map (fun _ ln => ln.restarted)
      lanes       := s.lanes.map (fun _ la => la.restarted)
      doorIn      := ⟨[], 0⟩
      purchaseIn  := ⟨[], 0⟩
      laneIn      := ⟨[], 0⟩
      intakeWaits := false
      deferred    := []
      scanner     := none
      sweeper     := s.sweeper.restarted : State }).evaluateJournal

/-- A notice raised during RESTART may be queued before RESTART's reply; whether it is, is a free value (log entry 4). -/
def State.noticeBeforeReply (s : State) : State :=
  let s' := { s with draws := s.draws + 1 }
  if Config.restartNoticeFirst s.draws then s'.queueNotice else s'

/-- Steps 1 to 3 of R189. -/
def State.restarted (s : State) : State :=
  ({ s with link := s.link.withoutNotices } : State).clearLatches.blocksRestarted.noticeBeforeReply

/-- RESTART (R189): it is refused while any other request is unanswered. -/
def State.restartWork (s : State) : Answer :=
  if s.link.unanswered ≠ 1 then s.refuse .BUSY else s.restarted.done

/-! ## The commands -/

/-- Power-on reset (R190). The commands that wait and the count of free values drawn are the model's own and stay. -/
def execPowerOnReset (s : State) : Host.Outcome State Fault Refusal :=
  .next { State.reset with pending := s.pending, draws := s.draws }

/-- A transaction that ends with a whole request frame clocked in (R180). -/
def execRequestFrameTaken (bytes : List Byte) (s : State) : Host.Outcome State Fault Refusal := .next (s.transact bytes)

/-- A transaction that ends before the frame's last byte, or whose length is above the bound (R181). -/
def execTruncatedFrame (bytes : List Byte) (s : State) : Host.Outcome State Fault Refusal := .next (s.transact bytes)

/-- A read transaction of `count` bytes (R182); one of no bytes is no transaction. -/
def execReadTransaction (count : Nat) (s : State) : Host.Outcome State Fault Refusal :=
  .next (if count = 0 then s else s.readMessage count)

/-- An owed notice is queued (R186). -/
def execNoticeQueued (s : State) : Host.Outcome State Fault Refusal := .next s.queueNotice

/-- The rest of the current second passes, and a SET ship clock advances by one (R183). -/
def execShipClockTick (s : State) : Host.Outcome State Fault Refusal := .next (s.passTime (1000 - s.clock.phase))

/-- CLOCK SET. -/
def execClockSet (tag : Byte) (time : Nat) (s : State) : Host.Outcome State Fault Refusal :=
  .next (s.serve (.clockSet tag time) (fun s => s.clockSetWork time))

/-- CLOCK GET. -/
def execClockGet (tag : Byte) (s : State) : Host.Outcome State Fault Refusal :=
  .next (s.serve (.clockGet tag) (fun s => s.clockGetWork))

/-- PARAM SET. -/
def execParamSet (tag : Byte) (ident : Nat) (value : Int) (s : State) : Host.Outcome State Fault Refusal :=
  .next (s.serve (.paramSet tag ident value) (fun s => s.paramSetWork ident value))

/-- PARAM GET. -/
def execParamGet (tag : Byte) (ident : Option Nat) (s : State) : Host.Outcome State Fault Refusal :=
  .next (s.serve (.paramGet tag ident) (fun s => s.paramGetWork ident))

/-- NOTICE MASK. -/
def execNoticeMask (tag : Byte) (classes : Nat) (s : State) : Host.Outcome State Fault Refusal :=
  .next (s.serve (.noticeMask tag classes) (fun s => s.noticeMaskWork classes))

/-- NOTICE CLEAR. -/
def execNoticeClear (tag : Byte) (classes : Nat) (s : State) : Host.Outcome State Fault Refusal :=
  .next (s.serve (.noticeClear tag classes) (fun s => s.noticeClearWork classes))

/-- STATUS GET. -/
def execStatusGet (tag : Byte) (s : State) : Host.Outcome State Fault Refusal :=
  .next (s.serve (.statusGet tag) (fun s => s.statusGetWork))

/-- RESTART. -/
def execRestart (tag : Byte) (s : State) : Host.Outcome State Fault Refusal :=
  .next (s.serve (.restart tag) (fun s => s.restartWork))

end Sys2Proof.Machine
end

