-- ==== Sys2Proof/Machine/Dispatch.lean ====
section
/-! DEFINITION. The dispatch of the commands to their meanings: one arm per constructor of `Instr`. -/

namespace Sys2Proof.Machine

open Sys2Proof

def exec (i : Instr) (s : State) : Host.Outcome State Fault Refusal :=
  match i with
  | .powerOnReset => Sys2Proof.Machine.execPowerOnReset s
  | .requestFrameTaken bytes => Sys2Proof.Machine.execRequestFrameTaken bytes s
  | .truncatedFrame bytes => Sys2Proof.Machine.execTruncatedFrame bytes s
  | .readTransaction count => Sys2Proof.Machine.execReadTransaction count s
  | .noticeQueued => Sys2Proof.Machine.execNoticeQueued s
  | .shipClockTick => Sys2Proof.Machine.execShipClockTick s
  | .clockSet tag time => Sys2Proof.Machine.execClockSet tag time s
  | .clockGet tag => Sys2Proof.Machine.execClockGet tag s
  | .paramSet tag ident value => Sys2Proof.Machine.execParamSet tag ident value s
  | .paramGet tag ident => Sys2Proof.Machine.execParamGet tag ident s
  | .noticeMask tag classes => Sys2Proof.Machine.execNoticeMask tag classes s
  | .noticeClear tag classes => Sys2Proof.Machine.execNoticeClear tag classes s
  | .statusGet tag => Sys2Proof.Machine.execStatusGet tag s
  | .restart tag => Sys2Proof.Machine.execRestart tag s
  | .personPut tag slot fields => Sys2Proof.Machine.execPersonPut tag slot fields s
  | .personGet tag selector value => Sys2Proof.Machine.execPersonGet tag selector value s
  | .personDrop tag slot => Sys2Proof.Machine.execPersonDrop tag slot s
  | .cardEnrol tag uid slot issue state => Sys2Proof.Machine.execCardEnrol tag uid slot issue state s
  | .cardRevoke tag uid issue => Sys2Proof.Machine.execCardRevoke tag uid issue s
  | .cardSuspend tag uid issue => Sys2Proof.Machine.execCardSuspend tag uid issue s
  | .cardResume tag uid issue => Sys2Proof.Machine.execCardResume tag uid issue s
  | .cardFind tag uid => Sys2Proof.Machine.execCardFind tag uid s
  | .cardPurge tag => Sys2Proof.Machine.execCardPurge tag s
  | .cabinPut tag number zone => Sys2Proof.Machine.execCabinPut tag number zone s
  | .cabinGet tag number => Sys2Proof.Machine.execCabinGet tag number s
  | .cabinDrop tag number => Sys2Proof.Machine.execCabinDrop tag number s
  | .privacySet tag number value => Sys2Proof.Machine.execPrivacySet tag number value s
  | .indicatorOnRoom line => Sys2Proof.Machine.execIndicatorOnRoom line s
  | .folioPut tag slot fields => Sys2Proof.Machine.execFolioPut tag slot fields s
  | .reconcileScanStep => Sys2Proof.Machine.execReconcileScanStep s
  | .folioLimit tag slot limit => Sys2Proof.Machine.execFolioLimit tag slot limit s
  | .folioState tag slot state => Sys2Proof.Machine.execFolioState tag slot state s
  | .folioGet tag selector value => Sys2Proof.Machine.execFolioGet tag selector value s
  | .folioFree tag slot => Sys2Proof.Machine.execFolioFree tag slot s
  | .venuePut tag venue rate eligible => Sys2Proof.Machine.execVenuePut tag venue rate eligible s
  | .upstreamSet tag value => Sys2Proof.Machine.execUpstreamSet tag value s
  | .journalBase tag number => Sys2Proof.Machine.execJournalBase tag number s
  | .chargesRead tag start count => Sys2Proof.Machine.execChargesRead tag start count s
  | .chargesRetire tag number => Sys2Proof.Machine.execChargesRetire tag number s
  | .lanePut tag lane direction mode => Sys2Proof.Machine.execLanePut tag lane direction mode s
  | .laneOpen tag lane => Sys2Proof.Machine.execLaneOpen tag lane s
  | .laneHold tag lane => Sys2Proof.Machine.execLaneHold tag lane s
  | .laneRelease tag lane => Sys2Proof.Machine.execLaneRelease tag lane s
  | .laneClose tag lane => Sys2Proof.Machine.execLaneClose tag lane s
  | .laneGet tag lane => Sys2Proof.Machine.execLaneGet tag lane s
  | .bankFlush tag => Sys2Proof.Machine.execBankFlush tag s
  | .crossingsRead tag start count => Sys2Proof.Machine.execCrossingsRead tag start count s
  | .bankRelease tag bank => Sys2Proof.Machine.execBankRelease tag bank s
  | .crossingBase tag number => Sys2Proof.Machine.execCrossingBase tag number s
  | .presenceSet tag slot presence => Sys2Proof.Machine.execPresenceSet tag slot presence s
  | .censusGet tag => Sys2Proof.Machine.execCensusGet tag s
  | .allaboardStart tag => Sys2Proof.Machine.execAllaboardStart tag s
  | .sweepStep => Sys2Proof.Machine.execSweepStep s
  | .missingRead tag start count => Sys2Proof.Machine.execMissingRead tag start count s
  | .lineStart tag line => Sys2Proof.Machine.execLineStart tag line s
  | .lineStop tag line => Sys2Proof.Machine.execLineStop tag line s
  | .lineGet tag line => Sys2Proof.Machine.execLineGet tag line s
  | .headPut tag line address fields => Sys2Proof.Machine.execHeadPut tag line address fields s
  | .headDrop tag line address => Sys2Proof.Machine.execHeadDrop tag line address s
  | .headGet tag line address => Sys2Proof.Machine.execHeadGet tag line address s
  | .headTune tag line address kind => Sys2Proof.Machine.execHeadTune tag line address kind s
  | .settingsPush tag line dest page map => Sys2Proof.Machine.execSettingsPush tag line dest page map s
  | .settingsPushEnqueue line => Sys2Proof.Machine.execSettingsPushEnqueue line s
  | .turnStart line => Sys2Proof.Machine.execTurnStart line s
  | .groupFrameSent line => Sys2Proof.Machine.execGroupFrameSent line s
  | .answerReceived line bytes => Sys2Proof.Machine.execAnswerReceived line bytes s
  | .answerTimeout line => Sys2Proof.Machine.execAnswerTimeout line s
  | .doorTap => Sys2Proof.Machine.execDoorTap s
  | .opened => Sys2Proof.Machine.execOpened s
  | .notOpened => Sys2Proof.Machine.execNotOpened s
  | .privacyOn => Sys2Proof.Machine.execPrivacyOn s
  | .privacyOff => Sys2Proof.Machine.execPrivacyOff s
  | .deadboltOn => Sys2Proof.Machine.execDeadboltOn s
  | .deadboltOff => Sys2Proof.Machine.execDeadboltOff s
  | .purchaseTap => Sys2Proof.Machine.execPurchaseTap s
  | .confirm => Sys2Proof.Machine.execConfirm s
  | .void => Sys2Proof.Machine.execVoid s
  | .holdExpiry line address => Sys2Proof.Machine.execHoldExpiry line address s
  | .laneTap => Sys2Proof.Machine.execLaneTap s
  | .passed => Sys2Proof.Machine.execPassed s
  | .officerAccept => Sys2Proof.Machine.execOfficerAccept s
  | .officerReject => Sys2Proof.Machine.execOfficerReject s
  | .pendingTimeout lane => Sys2Proof.Machine.execPendingTimeout lane s
  | .officerWaitExpiry lane => Sys2Proof.Machine.execOfficerWaitExpiry lane s
  | .tuneStart => Sys2Proof.Machine.execTuneStart s
  | .tuneFrameEnqueue line address => Sys2Proof.Machine.execTuneFrameEnqueue line address s
  | .tuneTimeout line address => Sys2Proof.Machine.execTuneTimeout line address s
  | .faultRetryExpiry line address => Sys2Proof.Machine.execFaultRetryExpiry line address s
  | .headDueForTune line address => Sys2Proof.Machine.execHeadDueForTune line address s
  | .tuneOverdue line address => Sys2Proof.Machine.execTuneOverdue line address s

end Sys2Proof.Machine
end

