-- ==== Sys2Proof/Safety.lean ====
section
/-! DEFINITION. What counts as a safe run, in the terms the statements use: the laws of the manual that a state meets by itself, the parts
of the state with what it means to keep them, and what it means for a request to be answered. -/

namespace Sys2Proof.Machine

open Sys2Proof

/-! ## Requests and their answers -/

/-- The request is in hand, and the next one its block takes (R180). -/
def State.ready (s : State) (c : Instr) : Bool :=
  match requestOf c with
  | some (kind, _) => decide (s.link.nextFor (blockOf kind) = some c)
  | none => false

/-- The command answers a next state: `t` with the reply queued on the request's reservation (R180, R182). -/
def Answers (c : Instr) (s t : State) (status : Status) (body : List Byte) : Prop :=
  ∃ kind tag, requestOf c = some (kind, tag)
    ∧ exec c s = .next { t with link := t.link.answered c kind tag status body }

/-- The command is refused with the status: the empty-bodied reply is queued, and nothing else changes (R180). -/
def Refused (c : Instr) (s : State) (status : Status) : Prop := Answers c s s status []

/-- The bytes of a request frame (R191): type 5Ah, tag, kind code, body length, body and CRC-16. -/
def requestFrame (tag : Byte) (kind : Nat) (body : List Byte) : List Byte :=
  withCrc16 ([0x5A#8, tag] ++ u8 kind ++ u16 body.length ++ body)

/-- The bytes of a head's answer (R193): the head's address, the answer's kind, the payload's length, the payload and CRC-8. -/
def answerFrame (address : Nat) (kind : Byte) (payload : List Byte) : List Byte :=
  withCrc8 ([BitVec.ofNat 8 address, kind] ++ u8 payload.length ++ payload)

/-- The command answers the next state `t`. -/
def Gives (c : Instr) (s t : State) : Prop := exec c s = .next t

/-- The intake from which a job unit's command takes an entry with the event; none when the command takes no such event (R157, R161). -/
def takenFrom : Instr → Event → Option HeadClass
  | .doorTap, .doorTap _ _ => some .CABIN_DOOR
  | .opened, .opened _ => some .CABIN_DOOR
  | .notOpened, .notOpened _ => some .CABIN_DOOR
  | .privacyOn, .privacyOn => some .CABIN_DOOR
  | .privacyOff, .privacyOff => some .CABIN_DOOR
  | .deadboltOn, .deadboltOn => some .CABIN_DOOR
  | .deadboltOff, .deadboltOff => some .CABIN_DOOR
  | .purchaseTap, .purchaseTap _ _ _ => some .VENUE_TERMINAL
  | .confirm, .confirm _ => some .VENUE_TERMINAL
  | .void, .void _ => some .VENUE_TERMINAL
  | .laneTap, .laneTap _ _ => some .GANGWAY_LANE
  | .passed, .passed => some .GANGWAY_LANE
  | .officerAccept, .officerAccept => some .GANGWAY_LANE
  | .officerReject, .officerReject => some .GANGWAY_LANE
  | _, _ => none

/-- The oldest entry `e` of an intake is one its job unit takes: not departed, from an ONLINE head, and no TAP past its reply window (R158). -/
def State.takeable (s : State) (c : HeadClass) (e : Entry) (rest : List Entry) : Prop :=
  (s.intake c).entries = e :: rest ∧ e.departed = false ∧ s.online e.head = true
    ∧ (e.event.isTap = true → s.since e.arrival ≤ s.window c)

/-! ## Hand-offs to the cabins and to the Missing List -/

/-- R27 and R28 for the cabin in slot `k`, whose record `old` becomes `new` but for privacy: when its aboard count falls from 1 to 0, it
is PRIVACY and the privacy-lapse parameter is on, its privacy becomes OPEN, and the indicator work is done: with no door head the owed flag
clears; a door head that is ONLINE and whose line has a free unreserved slot is sent the INDICATOR frame and the flag clears; otherwise the
flag is set. -/
def State.cabinBecomes (s : State) (k : Nat) (old new : Cabin) : State :=
  if old.aboard = 1 ∧ new.aboard = 0 ∧ old.privacy = .PRIVACY ∧ s.params.privacyLapse = true then
    match old.doorHead with
    | none => { s with cabins := s.cabins.set k { new with privacy := .OPEN, owed := false } }
    | some h =>
      if s.online h = true ∧ 0 < (s.line h.line).free then
        { s with cabins := s.cabins.set k { new with privacy := .OPEN, owed := false },
                 lines := s.lines.set h.line { s.line h.line with
                   queue := (s.line h.line).queue ++ [⟨h.address, .indicator old.number .OPEN⟩] } }
      else { s with cabins := s.cabins.set k { new with privacy := .OPEN, owed := true } }
  else { s with cabins := s.cabins.set k new }

/-- The same change is handed to the cabins of a list, in list order; a number that no cabin has is passed over (R27). -/
def State.cabinsChanged (s : State) (change : Cabin → Cabin) (numbers : List Nat) : State :=
  numbers.foldl (fun u n =>
    match u.cabinSlot n with
    | none => u
    | some k =>
      match u.cabins.get k with
      | none => u
      | some c => u.cabinBecomes k c (change c)) s

/-- A cabin that the person in a slot leaves (R26). -/
def Cabin.left (slot : Nat) (p : Presence) (c : Cabin) : Cabin :=
  { c with occupants := c.occupants.erase slot, aboard := if p = .ABOARD then c.aboard - 1 else c.aboard }

/-- A cabin that the person in a slot joins (R26). -/
def Cabin.joined (slot : Nat) (p : Presence) (c : Cabin) : Cabin :=
  { c with occupants := c.occupants ++ [slot], aboard := if p = .ABOARD then c.aboard + 1 else c.aboard }

/-- A cabin one of whose occupants changes presence (R27). -/
def Cabin.recounted (before after : Presence) (c : Cabin) : Cabin :=
  { c with aboard := if before ≠ .ABOARD ∧ after = .ABOARD then c.aboard + 1
      else if before = .ABOARD ∧ after ≠ .ABOARD then c.aboard - 1 else c.aboard }

/-- Whether a person of this category, presence and excused field is missing (R133). -/
def isMissing (c : Category) (p : Presence) (excused : Bool) : Bool := decide (c ≠ .VISITOR ∧ p = .ASHORE ∧ excused = false)

/-- R137 for a slot whose person is missing `before` and `after` a change: while the sweeper is DONE, or SWEEPING past the slot, one that
becomes missing is appended, or sets the overflow flag when 256 slots stand in the list, and one that stops being missing is removed. -/
def Sweeper.listed (w : Sweeper) (slot : Nat) (before after : Bool) : Sweeper :=
  if before ≠ after ∧ (w.state = .DONE ∨ (w.state = .SWEEPING ∧ slot < w.cursor)) then
    if after = false then { w with missing := w.missing.erase slot }
    else if w.missing.length < 256 then { w with missing := w.missing ++ [slot] }
    else { w with overflow := true }
  else w

/-! ## Outbound queues -/

/-- R146 and R169: the queue of a line without the frames that are `gone`, but for the frame whose turn is in flight, which is its oldest; the
others keep their order. -/
def Line.queueWithout (ln : Line) (gone : OutFrame → Bool) : List OutFrame :=
  match ln.turn.map Turn.frame with
  | some (.queued _) => ln.queue.take 1 ++ (ln.queue.drop 1).filter (fun f => !gone f)
  | _ => ln.queue.filter (fun f => !gone f)

/-! ## Frames -/

/-- The parts of the state, one for each field of `State`. -/
inductive Part where
  | pending | link | clock | elapsed | params | latches | persons | cards | cabins | folios | venues | upstream | epoch | journal
  | retiredThrough | scanner | deferred | intakeWaits | lanes | bank0 | bank1 | nextCrossing | census | sweeper | lines | doorIn
  | purchaseIn | laneIn | heads | draws
  deriving DecidableEq, Repr

/-- The two states agree on a part. -/
def Part.same : Part → State → State → Prop
  | .pending, s, t => t.pending = s.pending
  | .link, s, t => t.link = s.link
  | .clock, s, t => t.clock = s.clock
  | .elapsed, s, t => t.elapsed = s.elapsed
  | .params, s, t => t.params = s.params
  | .latches, s, t => t.latches = s.latches
  | .persons, s, t => t.persons = s.persons
  | .cards, s, t => t.cards = s.cards
  | .cabins, s, t => t.cabins = s.cabins
  | .folios, s, t => t.folios = s.folios
  | .venues, s, t => t.venues = s.venues
  | .upstream, s, t => t.upstream = s.upstream
  | .epoch, s, t => t.epoch = s.epoch
  | .journal, s, t => t.journal = s.journal
  | .retiredThrough, s, t => t.retiredThrough = s.retiredThrough
  | .scanner, s, t => t.scanner = s.scanner
  | .deferred, s, t => t.deferred = s.deferred
  | .intakeWaits, s, t => t.intakeWaits = s.intakeWaits
  | .lanes, s, t => t.lanes = s.lanes
  | .bank0, s, t => t.bank0 = s.bank0
  | .bank1, s, t => t.bank1 = s.bank1
  | .nextCrossing, s, t => t.nextCrossing = s.nextCrossing
  | .census, s, t => t.census = s.census
  | .sweeper, s, t => t.sweeper = s.sweeper
  | .lines, s, t => t.lines = s.lines
  | .doorIn, s, t => t.doorIn = s.doorIn
  | .purchaseIn, s, t => t.purchaseIn = s.purchaseIn
  | .laneIn, s, t => t.laneIn = s.laneIn
  | .heads, s, t => t.heads = s.heads
  | .draws, s, t => t.draws = s.draws

/-- `t` agrees with `s` on every part but those listed. -/
def Keeps (touched : List Part) (s t : State) : Prop := ∀ p, p ∉ touched → p.same s t

/-! ## Laws a state meets by itself -/

/-- Every table is in its one canonical form, so that equal tables are equal data. -/
def State.tablesCanonical (s : State) : Prop :=
  s.latches.wf = true ∧ s.persons.wf = true ∧ s.cards.wf = true ∧ s.cabins.wf = true ∧ s.folios.wf = true ∧ s.venues.wf = true
    ∧ s.lanes.wf = true ∧ s.lines.wf = true ∧ s.heads.wf = true

/-- R180 and R182: at most four unanswered requests and at most four notices, so that the outgoing queue's messages plus its
reservations never exceed 8. -/
def State.linkLaw (s : State) : Prop :=
  s.link.unanswered ≤ Config.unansweredRequests ∧ s.link.notices ≤ Config.noticeSlots

/-- R183 and R157: an UNSET clock reads 0, a ship time and the elapsed-time count stay in their ranges. -/
def State.clockLaw (s : State) : Prop :=
  (s.clock.state = .UNSET → s.clock.time = 0 ∧ s.clock.phase = 0) ∧ s.clock.time ≤ max32 ∧ s.clock.phase < 1000
    ∧ s.elapsed < mod32

/-- Law 6, its first half: exactly one bank is FILLING; and an EMPTY bank holds no records (R125). -/
def State.bankLaw (s : State) : Prop :=
  (s.bank0.state = .FILLING ↔ s.bank1.state ≠ .FILLING)
    ∧ (s.bank0.state = .EMPTY → s.bank0.records = []) ∧ (s.bank1.state = .EMPTY → s.bank1.records = [])

/-- Law 6, its second half: the records of the FILLING bank plus the pending crossings never exceed 512 (R126), with the threshold in
the range of its parameter (R184), on which the room limit of R127 rests. -/
def State.roomLaw (s : State) : Prop :=
  s.filling.records.length + s.pendings.length ≤ 512 ∧ s.params.bankThreshold ≤ 511

/-- Law 8: no person is named by two pending crossings (R104, R113). -/
def State.crossingLaw (s : State) : Prop := (s.pendings.map (·.slot)).Nodup

/-- R103 and Law 8: a lane is HELD exactly while it has a hold reason, and a CLOSED lane has no pending crossing. -/
def State.laneLaw (s : State) : Prop :=
  ∀ n, ((s.lane n).state = .HELD ↔ (s.lane n).holdHost = true ∨ (s.lane n).holdBank = true)
    ∧ ((s.lane n).state = .CLOSED → (s.lane n).pending = none)

/-- Law 7 for the outbound queues: the frames of a line's queue plus its reservations never exceed 16 (R145). -/
def State.queueLaw (s : State) : Prop := ∀ l, (s.line l).taken ≤ Config.outboundSlots

/-- Law 7 for the intake queues: the entries of each plus its reservations never exceed 32, 16 and 16 (R154). -/
def State.intakeLaw (s : State) : Prop :=
  s.doorIn.entries.length + s.doorIn.reserved ≤ 32 ∧ s.purchaseIn.entries.length + s.purchaseIn.reserved ≤ 16
    ∧ s.laneIn.entries.length + s.laneIn.reserved ≤ 16

/-- Law 10, its first half: no two heads of one neighbourhood other than 0 are TUNING (R168). -/
def State.tuningLaw (s : State) : Prop :=
  ∀ j k x y, j ≠ k → s.heads.get j = some x → s.heads.get k = some y → x.state = .TUNING → y.state = .TUNING →
    x.neighbourhood = y.neighbourhood → x.neighbourhood = 0

/-- The number of persons of a category with a presence. -/
def State.personsOf (s : State) (c : Category) (p : Presence) : Nat :=
  s.persons.count (fun x => decide (x.ident.category = c) && decide (x.presence = p))

/-- The counters of a category agree with the Roster. -/
def State.bucketsAgree (s : State) (b : Buckets) (c : Category) : Prop :=
  b.aboard = s.personsOf c .ABOARD ∧ b.ashore = s.personsOf c .ASHORE ∧ b.unknown = s.personsOf c .UNKNOWN

/-- Law 2: the census counters agree with the Roster (R133). -/
def State.censusLaw (s : State) : Prop :=
  s.bucketsAgree s.census.guest .GUEST ∧ s.bucketsAgree s.census.crew .CREW ∧ s.bucketsAgree s.census.visitor .VISITOR
    ∧ s.census.missing = s.persons.count (fun p => p.standing.missing)
    ∧ s.census.visitorsAboard = s.personsOf .VISITOR .ABOARD

end Sys2Proof.Machine
end

