-- ==== Sys2Proof/WellFormed.lean ====
section
/-! DEFINITION. Well-formed commands: every operand fits the field that carries it (R192), and the commands that name a
line, a lane or a head name one the part has. A well-formed request may still be refused by its owner. -/

namespace Sys2Proof

/-- The number fits `n` bytes. -/
def fits (n v : Nat) : Bool := decide (v < 256 ^ n)

/-- The signed value fits `n` bytes of two's complement. -/
def fitsSigned (n : Nat) (v : Int) : Bool := decide (-(256 ^ n : Int) ≤ 2 * v) && decide (2 * v < (256 ^ n : Int))

/-- Both numbers of an optional pair fit `n` bytes. -/
def pairFits (n : Nat) : Option (Nat × Nat) → Bool
  | none => true
  | some (a, b) => fits n a && fits n b

/-- A UID field: a length byte and ten bytes. -/
def RawUid.wf (u : RawUid) : Bool := fits 1 u.len && decide (u.data.length = 10)

def PersonFields.wf (f : PersonFields) : Bool :=
  fits 4 f.id && fits 1 f.category && fits 1 f.roles && fits 4 f.zones && pairFits 4 f.shift && pairFits 4 f.stay
    && decide (f.cabins.length ≤ 2) && f.cabins.all (fits 2) && f.folio.all (fits 2) && fits 1 f.alcohol
    && f.childCap.all (fits 4) && fits 1 f.chargeHold && fits 1 f.gangwayHold && fits 1 f.excused

def PackageFields.wf (p : PackageFields) : Bool := fits 1 p.kind && fits 4 p.cap && fits 1 p.units

def FolioFields.wf (f : FolioFields) : Bool :=
  fits 4 f.id && fits 1 f.state && fits 4 f.limit && f.package.all PackageFields.wf && fitsSigned 8 f.posted && fits 4 f.through

def HeadFields.wf (f : HeadFields) : Bool :=
  fits 1 f.cls && fits 2 f.bound && fits 1 f.neighbourhood && f.group.all (fits 1)

/-- A line of the part. -/
def lineNamed (line : Nat) : Bool := decide (line < Config.lines)
/-- A line and an address on it. -/
def headNamed (line address : Nat) : Bool := lineNamed line && decide (1 ≤ address) && decide (address ≤ 200)
/-- A lane of the part. -/
def laneNamed (lane : Nat) : Bool := decide (lane < Config.lanes)

/-- Well-formed commands. -/
def Instr.wf : Instr → Bool
  | .powerOnReset => true
  | .requestFrameTaken bytes => !bytes.isEmpty
  | .truncatedFrame bytes => !bytes.isEmpty
  | .readTransaction count => decide (1 ≤ count)
  | .noticeQueued => true
  | .shipClockTick => true
  | .clockSet _ time => fits 4 time
  | .clockGet _ => true
  | .paramSet _ ident value => fits 1 ident && fitsSigned 4 value
  | .paramGet _ ident => ident.all (fits 1)
  | .noticeMask _ classes => fits 2 classes
  | .noticeClear _ classes => fits 2 classes
  | .statusGet _ => true
  | .restart _ => true
  | .personPut _ slot fields => fits 2 slot && fields.wf
  | .personGet _ selector value => fits 1 selector && fits 4 value
  | .personDrop _ slot => fits 2 slot
  | .cardEnrol _ uid slot issue state => uid.wf && fits 2 slot && fits 1 issue && fits 1 state
  | .cardRevoke _ uid issue => uid.wf && fits 1 issue
  | .cardSuspend _ uid issue => uid.wf && fits 1 issue
  | .cardResume _ uid issue => uid.wf && fits 1 issue
  | .cardFind _ uid => uid.wf
  | .cardPurge _ => true
  | .cabinPut _ number zone => fits 2 number && fits 1 zone
  | .cabinGet _ number => fits 2 number
  | .cabinDrop _ number => fits 2 number
  | .privacySet _ number value => fits 2 number && fits 1 value
  | .indicatorOnRoom line => lineNamed line
  | .folioPut _ slot fields => fits 2 slot && fields.wf
  | .reconcileScanStep => true
  | .folioLimit _ slot limit => fits 2 slot && fits 4 limit
  | .folioState _ slot state => fits 2 slot && fits 1 state
  | .folioGet _ selector value => fits 1 selector && fits 4 value
  | .folioFree _ slot => fits 2 slot
  | .venuePut _ venue rate eligible => fits 1 venue && fits 2 rate && fits 1 eligible
  | .upstreamSet _ value => fits 1 value
  | .journalBase _ number => fits 4 number
  | .chargesRead _ start count => fits 4 start && fits 2 count
  | .chargesRetire _ number => fits 4 number
  | .lanePut _ lane direction mode => fits 1 lane && fits 1 direction && fits 1 mode
  | .laneOpen _ lane => fits 1 lane
  | .laneHold _ lane => fits 1 lane
  | .laneRelease _ lane => fits 1 lane
  | .laneClose _ lane => fits 1 lane
  | .laneGet _ lane => fits 1 lane
  | .bankFlush _ => true
  | .crossingsRead _ start count => fits 2 start && fits 2 count
  | .bankRelease _ bank => fits 1 bank
  | .crossingBase _ number => fits 4 number
  | .presenceSet _ slot presence => fits 2 slot && fits 1 presence
  | .censusGet _ => true
  | .allaboardStart _ => true
  | .sweepStep => true
  | .missingRead _ start count => fits 1 start && fits 2 count
  | .lineStart _ line => fits 1 line
  | .lineStop _ line => fits 1 line
  | .lineGet _ line => fits 1 line
  | .headPut _ line address fields => fits 1 line && fits 1 address && fields.wf
  | .headDrop _ line address => fits 1 line && fits 1 address
  | .headGet _ line address => fits 1 line && fits 1 address
  | .headTune _ line address kind => fits 1 line && fits 1 address && fits 1 kind
  | .settingsPush _ line dest page map =>
    fits 1 line && fits 1 dest && fits 1 page.length && map.all (fun m => decide (m.length = 25))
  | .settingsPushEnqueue line => lineNamed line
  | .turnStart line => lineNamed line
  | .groupFrameSent line => lineNamed line
  | .answerReceived line bytes => lineNamed line && !bytes.isEmpty
  | .answerTimeout line => lineNamed line
  | .doorTap => true
  | .opened => true
  | .notOpened => true
  | .privacyOn => true
  | .privacyOff => true
  | .deadboltOn => true
  | .deadboltOff => true
  | .purchaseTap => true
  | .confirm => true
  | .void => true
  | .holdExpiry line address => headNamed line address
  | .laneTap => true
  | .passed => true
  | .officerAccept => true
  | .officerReject => true
  | .pendingTimeout lane => laneNamed lane
  | .officerWaitExpiry lane => laneNamed lane
  | .tuneStart => true
  | .tuneFrameEnqueue line address => headNamed line address
  | .tuneTimeout line address => headNamed line address
  | .faultRetryExpiry line address => headNamed line address
  | .headDueForTune line address => headNamed line address
  | .tuneOverdue line address => headNamed line address

end Sys2Proof
end

