-- ==== Sys2Proof/Certificates/Slice0/Obligations.lean ====
section
/-! DEFINITION. The statements for the provers. Each says, from the manual's rules, what a command or the part does; those that rest on a
choice of the model say so and name the log entry. -/

open Sys2Proof Sys2Proof.Machine

/-! ## The step -/

/-- A step takes the command at the front of the queue and runs it with the queue's rest. -/
def Obligations.StepTakesFront : Prop :=
  ∀ (c : Instr) (rest : List Instr) (s : State), s.pending = c :: rest → step s = exec c { s with pending := rest }

/-- With no command waiting one millisecond passes (the model's choice, log entry 1), and a tick of the ship clock passes the rest of
the present second (the model's choice, log entry 3): the elapsed-time count goes on with wrap (R157), an UNSET clock stands still, and a SET
clock advances by one at each whole second and stops at 4,294,967,295; CLOCK SET moves the clock alone, to the start of a fresh second (the
model's choice, log entry 6), and CLOCK GET reports it (R183), the folio day in two bytes (the model's reading, log entry 13). -/
def Obligations.TimePasses : Prop :=
  (∀ s : State, s.pending = [] →
     (s.clock.state = .UNSET → step s = .next { s with elapsed := (s.elapsed + 1) % 4294967296 })
     ∧ (s.clock.state = .SET → s.clock.phase < 999 → s.clock.time ≤ 4294967295 →
         step s = .next { s with elapsed := (s.elapsed + 1) % 4294967296,
                                 clock := ⟨.SET, s.clock.time, s.clock.phase + 1⟩ })
     ∧ (s.clock.state = .SET → s.clock.phase = 999 →
         step s = .next { s with elapsed := (s.elapsed + 1) % 4294967296,
                                 clock := ⟨.SET, min (s.clock.time + 1) 4294967295, 0⟩ }))
  ∧ (∀ s : State, s.clock.phase < 1000 →
       (s.clock.state = .SET →
         Gives .shipClockTick s { s with elapsed := (s.elapsed + (1000 - s.clock.phase)) % 4294967296,
                                         clock := ⟨.SET, min (s.clock.time + 1) 4294967295, 0⟩ })
       ∧ (s.clock.state = .UNSET →
           Gives .shipClockTick s { s with elapsed := (s.elapsed + (1000 - s.clock.phase)) % 4294967296 }))
  ∧ (∀ (s : State) (tag : Byte) (time : Nat),
       (s.ready (.clockSet tag time) = true →
         (time ≤ 4294967295 → Answers (.clockSet tag time) s { s with clock := ⟨.SET, time, 0⟩ } .OK [])
         ∧ (4294967295 < time → Refused (.clockSet tag time) s .OUT_OF_RANGE))
       ∧ (s.ready (.clockGet tag) = true →
           Answers (.clockGet tag) s s .OK
             (u8 s.clock.state.ctorIdx ++ u32 s.clock.time ++ u32 (s.clock.time % 86400) ++ u16 s.folioDay ++ u32 s.elapsed)))

/-- What power-on reset leaves (R190, R22, R45, R64, R101, R124, R141, R162, R179), whatever the state before it. -/
def Obligations.PowerOnResetValues : Prop :=
  ∀ s : State, ∃ t : State, Gives .powerOnReset s t
    ∧ (t.link.inHand = [] ∧ t.link.outgoing = [] ∧ t.attn = false
        ∧ t.link.overruns = 0 ∧ t.link.badFrames = 0 ∧ t.link.truncated = 0)
    ∧ t.clock.state = .UNSET ∧ t.clock.time = 0 ∧ t.elapsed = 0 ∧ t.params = Params.default
    ∧ (∀ c, t.latch c = ⟨true, false, 0, none, false⟩)
    ∧ (t.persons.cells = [] ∧ t.cards.cells = [] ∧ t.cabins.cells = [] ∧ t.folios.cells = [] ∧ t.venues.cells = []
        ∧ t.heads.cells = [])
    ∧ t.upstream = .ONLINE ∧ t.epoch = 0 ∧ t.journal = [] ∧ t.retiredThrough = 0 ∧ t.scanner = none ∧ t.deferred = []
    ∧ (∀ n, n < 8 → t.lane n = ⟨.INBOUND, .ON_PASS, .CLOSED, false, false, none, none, 0, 0, 0, 0⟩)
    ∧ (t.bank0 = ⟨.FILLING, []⟩ ∧ t.bank1 = ⟨.EMPTY, []⟩ ∧ t.nextCrossing = 1)
    ∧ t.census = ⟨⟨0, 0, 0⟩, ⟨0, 0, 0⟩, ⟨0, 0, 0⟩, 0, 0⟩ ∧ t.sweeper = ⟨.IDLE, 0, [], false⟩
    ∧ (∀ l, l < 16 → (t.line l).state = .DOWN ∧ (t.line l).queue = [] ∧ (t.line l).reserved = 0 ∧ (t.line l).cursor = 1
        ∧ (t.line l).turn = none ∧ (t.line l).counters = ⟨0, 0, 0, 0, 0, 0, 0, 0⟩ ∧ (t.line l).push = none)
    ∧ (t.doorIn = ⟨[], 0⟩ ∧ t.purchaseIn = ⟨[], 0⟩ ∧ t.laneIn = ⟨[], 0⟩ ∧ t.intakeWaits = false)

/-! ## The system link (Chapter 10) -/

/-- R180: a whole request frame with a right CRC-16 and type byte is discarded and counted while four requests are unanswered, answered at
once when its kind or length is wrong, and handed to its block otherwise. -/
def Obligations.RequestFrameByCase : Prop :=
  ∀ (s : State) (tag : Byte) (kind : Nat) (body : List Byte), kind < 256 → body.length ≤ 1024 →
    let t := s.clockOut (body.length + 7)
    let c := Instr.requestFrameTaken (requestFrame tag kind body)
    (4 ≤ s.link.unanswered → Gives c s { t with link := { t.link with overruns := min (s.link.overruns + 1) 4294967295 } })
    ∧ (s.link.unanswered < 4 →
        (∀ r, decodeRequest kind tag body = .request r →
          Gives c s { t with link := { t.link with inHand := s.link.inHand ++ [r] } })
        ∧ (decodeRequest kind tag body = .unknownKind →
          Gives c s { t with link :=
            { t.link with outgoing := s.link.outgoing ++ [.reply tag (BitVec.ofNat 8 kind) .UNKNOWN_KIND []] } })
        ∧ (decodeRequest kind tag body = .badLength →
          Gives c s { t with link :=
            { t.link with outgoing := s.link.outgoing ++ [.reply tag (BitVec.ofNat 8 kind) .BAD_LENGTH []] } }))

/-- R181: a whole frame with a wrong check or a type byte other than 5Ah is answered BAD_FRAME with tag 0 and kind 00h and counted, or
discarded as an overrun while four requests are unanswered; a frame cut short, or whose length field gives a body above 1,024 bytes, gets no
reply and raises the truncated-frame counter. -/
def Obligations.DamagedFramesCounted : Prop :=
  (∀ (s : State) (type tag kind high low : Byte) (body check : List Byte), type ≠ 0x00#8 → check.length = 2 →
     body.length ≤ 1024 → u16 body.length = [high, low] →
     (type ≠ 0x5A#8 ∨ check ≠ u16 (crc16 ([type, tag, kind, high, low] ++ body)).toNat) →
     let t := s.clockOut (body.length + 7)
     let c := Instr.requestFrameTaken ([type, tag, kind, high, low] ++ body ++ check)
     (4 ≤ s.link.unanswered → Gives c s { t with link := { t.link with overruns := min (s.link.overruns + 1) 4294967295 } })
     ∧ (s.link.unanswered < 4 →
         Gives c s { t with link := { t.link with outgoing := s.link.outgoing ++ [.reply 0x00#8 0x00#8 .BAD_FRAME []],
                                                  badFrames := min (s.link.badFrames + 1) 4294967295 } }))
  ∧ (∀ (s : State) (first : Byte) (rest : List Byte), first ≠ 0x00#8 →
       (rest.length < 4 ∨ 1024 < numberOf ((rest.drop 2).take 2) ∨ rest.length < 6 + numberOf ((rest.drop 2).take 2)) →
       let t := s.clockOut (rest.length + 1)
       Gives (.truncatedFrame (first :: rest)) s
         { t with link := { t.link with truncated := min (s.link.truncated + 1) 4294967295 } })

/-- R182 and R191: a read of an empty queue clocks out 00h bytes; one that runs to the oldest message's last byte clocks out that message
and removes it; a shorter one clocks out its first bytes and leaves it. Nothing else changes but the model's own count of free values. The
bytes beyond a message's last are left free (log entry 5). -/
def Obligations.ReadTakesOldestMessage : Prop :=
  ∀ (s : State) (n : Nat), 1 ≤ n → ∃ t : State, Gives (.readTransaction n) s t ∧ Keeps [.link, .draws] s t
    ∧ t.link.inHand = s.link.inHand ∧ t.link.overruns = s.link.overruns ∧ t.link.badFrames = s.link.badFrames
    ∧ t.link.truncated = s.link.truncated ∧ t.link.clockedOut.length = n
    ∧ (s.link.outgoing = [] → t.link.outgoing = [] ∧ t.link.clockedOut = List.replicate n 0x00#8)
    ∧ (∀ m rest, s.link.outgoing = m :: rest →
        (m.bytes.length ≤ n → t.link.outgoing = rest ∧ t.link.clockedOut.take m.bytes.length = m.bytes)
        ∧ (n < m.bytes.length → t.link.outgoing = m :: rest ∧ t.link.clockedOut = m.bytes.take n))

/-- R186: a raise counts up, saturating at 65,535; the first since a clearing makes the latch pending, keeps its subject and ship time and
owes a notice when the class is enabled, and a later one keeps the subject; while fewer than four notices wait, the first owed class in the order
of R186 has its message queued with its count and subject as they stand, and its notice owed clears. -/
def Obligations.NoticesRaisedAndQueued : Prop :=
  (∀ (s : State) (c : NoticeClass) (subject : Subject),
     let t := s.raise c subject
     Keeps [.latches] s t ∧ (t.latch c).pending = true ∧ (t.latch c).count = min ((s.latch c).count + 1) 65535
     ∧ (t.latch c).enabled = (s.latch c).enabled ∧ (∀ d, d ≠ c → t.latch d = s.latch d)
     ∧ ((s.latch c).pending = false → (t.latch c).subject = some (subject, s.clock.time)
         ∧ ((t.latch c).owed = true ↔ (s.latch c).owed = true ∨ (s.latch c).enabled = true))
     ∧ ((s.latch c).pending = true → (t.latch c).subject = (s.latch c).subject ∧ (t.latch c).owed = (s.latch c).owed))
  ∧ (∀ (s : State) (c : NoticeClass), s.link.notices < 4 → (s.latch c).owed = true →
       (∀ d, (s.latch d).owed = true → c.code ≤ d.code) →
       ∃ t : State, Gives .noticeQueued s t ∧ Keeps [.link, .latches] s t
         ∧ t.link = { s.link with outgoing := s.link.outgoing ++ [.notice c (s.latch c).count (s.latch c).subject] }
         ∧ t.latch c = { s.latch c with owed := false } ∧ ∀ d, d ≠ c → t.latch d = s.latch d)

/-- R187: NOTICE MASK enables the classes of its set and no others, with the effects on notice owed; NOTICE CLEAR reports and clears the
latches of its set and keeps the mask; a set with a bit that names no class is refused (R192). That the reported latches follow one another
without a count is the model's reading (log entry 13), and so is that a class enabled already does not become enabled (log entry 27). -/
def Obligations.NoticeMaskAndClear : Prop :=
  ∀ (s : State) (tag : Byte) (classes : Nat),
    (4096 ≤ classes →
      (s.ready (.noticeMask tag classes) = true → Refused (.noticeMask tag classes) s .OUT_OF_RANGE)
      ∧ (s.ready (.noticeClear tag classes) = true → Refused (.noticeClear tag classes) s .OUT_OF_RANGE))
    ∧ (classes < 4096 → s.ready (.noticeMask tag classes) = true →
        ∃ t : State, Answers (.noticeMask tag classes) s t .OK (u16 classes) ∧ Keeps [.latches] s t
          ∧ ∀ c, (t.latch c).pending = (s.latch c).pending ∧ (t.latch c).count = (s.latch c).count
            ∧ (t.latch c).subject = (s.latch c).subject
            ∧ (bitOf classes (c.code - 1) = true → (t.latch c).enabled = true
                ∧ ((t.latch c).owed = true ↔
                    (s.latch c).owed = true ∨ ((s.latch c).enabled = false ∧ (s.latch c).pending = true)))
            ∧ (bitOf classes (c.code - 1) = false → (t.latch c).enabled = false ∧ (t.latch c).owed = false))
    ∧ (classes < 4096 → s.ready (.noticeClear tag classes) = true →
        ∃ t : State,
          Answers (.noticeClear tag classes) s t .OK
            ((NoticeClass.all.filter (fun c => bitOf classes (c.code - 1))).map (fun c => encLatch (s.latch c))).flatten
          ∧ Keeps [.latches] s t
          ∧ ∀ c, t.latch c =
              if bitOf classes (c.code - 1) then ⟨(s.latch c).enabled, false, 0, none, false⟩ else s.latch c)

/-- R185, R13, R97 and R128: PARAM SET by its cases: what is refused, what is clamped, what is stored, and the work a changed parameter
starts: a changed high-water evaluates JOURNAL_HIGH, and a changed bank threshold or policy swaps the banks when a swap is due. That 1 is on is
the model's reading (log entry 14). -/
def Obligations.ParamSetByCase : Prop :=
  ∀ (s : State) (tag : Byte) (ident : Nat) (value : Int), s.ready (.paramSet tag ident value) = true →
    let c := Instr.paramSet tag ident value
    let v := fun (r : Nat × Nat) => clampTo value r
    let work := fun (u : State) =>
      if ident = 19 ∧ u.params.highWater ≤ u.journal.length then u.raise .JOURNAL_HIGH (.entries u.journal.length)
      else if (ident = 22 ∨ ident = 23) ∧ u.params.bankThreshold < (u.bank u.fillingNumber).records.length
          ∧ (u.bank (1 - u.fillingNumber)).state = .EMPTY then u.swapBanks
      else u
    ((23 < ident ∨ ident = 9 ∨ ident = 10) → Refused c s .OUT_OF_RANGE)
    ∧ ((ident = 13 ∨ ident = 14 ∨ ident = 15 ∨ ident = 23) → value ≠ 0 → value ≠ 1 → Refused c s .OUT_OF_RANGE)
    ∧ ((value = 0 ∨ value = 1) →
        (ident = 13 → Answers c s
          { s with params := { s.params with doorPolicy := if value = 0 then .GRANT_AND_NOTIFY else .DENY } } .OK
          (encParam 13 value.toNat))
        ∧ (ident = 14 → Answers c s { s with params := { s.params with privacyLapse := decide (value = 1) } } .OK
          (encParam 14 value.toNat))
        ∧ (ident = 15 → Answers c s
          { s with params := { s.params with chargePolicy := if value = 0 then .ALLOW_AND_NOTIFY else .REFUSE } } .OK
          (encParam 15 value.toNat))
        ∧ (ident = 23 → Answers c s
          (work { s with params := { s.params with bankPolicy := if value = 0 then .FILL_TO_CAPACITY else .HOLD_AT_THRESHOLD } }) .OK
          (encParam 23 value.toNat)))
    ∧ (ident = 11 →
        ((value < 0 ∨ 9 < value ∨ value = s.params.bucketB) → Refused c s .OUT_OF_RANGE)
        ∧ (0 ≤ value → value ≤ 9 → value ≠ s.params.bucketB → s.cards.size ≠ 0 → Refused c s .WRONG_STATE)
        ∧ (0 ≤ value → value ≤ 9 → value ≠ s.params.bucketB → s.cards.size = 0 →
            Answers c s { s with params := { s.params with bucketA := value.toNat } } .OK (encParam 11 value.toNat)))
    ∧ (ident = 12 →
        ((value < 0 ∨ 9 < value ∨ value = s.params.bucketA) → Refused c s .OUT_OF_RANGE)
        ∧ (0 ≤ value → value ≤ 9 → value ≠ s.params.bucketA → s.cards.size ≠ 0 → Refused c s .WRONG_STATE)
        ∧ (0 ≤ value → value ≤ 9 → value ≠ s.params.bucketA → s.cards.size = 0 →
            Answers c s { s with params := { s.params with bucketB := value.toNat } } .OK (encParam 12 value.toNat)))
    ∧ (ident = 7 → s.params.refHigh ≤ v (0, 1000) → Refused c s .OUT_OF_RANGE)
    ∧ (ident = 8 → v (0, 1000) ≤ s.params.refLow → Refused c s .OUT_OF_RANGE)
    ∧ (∀ r, numericRange ident = some r → (ident = 7 → v r < s.params.refHigh) → (ident = 8 → s.params.refLow < v r) →
        r.1 ≤ v r ∧ v r ≤ r.2 ∧ ((r.1 : Int) ≤ value → value ≤ r.2 → (v r : Int) = value)
        ∧ Answers c s (work { s with params := s.params.store ident (v r) })
            (if (v r : Int) = value then .OK else .OK_CLAMPED) (encParam ident (v r))
        ∧ (s.params.store ident (v r)).value ident = some (v r)
        ∧ ∀ other, other ≠ ident → (s.params.store ident (v r)).value other = s.params.value other)

/-- R189, R22, R64, R101, R124, R141, R162 and R179: RESTART is refused BUSY while another request is unanswered; otherwise it clears the latches
but for a level that still holds, ends every turn, queue, push, intake, crossing, scan and sweep under way, releases every open hold, and keeps
the mask, the clock, the parameters, the link counters and the tables: every person record but for the reserved fields, which fall by the
amounts of the released holds (to 0 where they are those holds' amounts, as in every run), every folio but for its held total and the offline
amount that falls likewise, every lane CLOSED with its head, direction, mode and counters, and every head record, PROBING or IDLE by its
line, with its class, bound object, neighbourhood, group, fault reason, field strength, quality and last tune time. Whether a notice of its own
is queued before its reply is left free (log entry 4). -/
def Obligations.RestartKeepsTables : Prop :=
  ∀ (s : State) (tag : Byte), s.ready (.restart tag) = true →
    (s.link.unanswered ≠ 1 → Refused (.restart tag) s .BUSY)
    ∧ (s.link.unanswered = 1 → ∃ t : State, Answers (.restart tag) s t .OK []
        ∧ Keeps [.link, .latches, .persons, .folios, .scanner, .deferred, .intakeWaits, .lanes, .sweeper, .lines, .doorIn,
                 .purchaseIn, .laneIn, .heads, .draws] s t
        ∧ t.link.inHand = s.link.inHand ∧ t.link.overruns = s.link.overruns ∧ t.link.badFrames = s.link.badFrames
        ∧ t.link.truncated = s.link.truncated ∧ t.link.notices ≤ 1
        ∧ (∀ c, (t.latch c).enabled = (s.latch c).enabled)
        ∧ (∀ c, c ≠ .JOURNAL_HIGH → t.latch c = ⟨(s.latch c).enabled, false, 0, none, false⟩)
        ∧ ((t.latch .JOURNAL_HIGH).pending = true ↔ s.params.highWater ≤ s.journal.length)
        ∧ (t.doorIn = ⟨[], 0⟩ ∧ t.purchaseIn = ⟨[], 0⟩ ∧ t.laneIn = ⟨[], 0⟩)
        ∧ t.intakeWaits = false ∧ t.deferred = [] ∧ t.scanner = none
        ∧ t.sweeper = (if s.sweeper.state = .SWEEPING then ⟨.IDLE, 0, [], false⟩ else s.sweeper)
        ∧ (∀ l, t.line l = { s.line l with queue := [], reserved := 0, turn := none, push := none })
        ∧ (∀ n, t.lane n = { s.lane n with state := .CLOSED, holdHost := false, holdBank := false, pending := none })
        ∧ (∀ k, let sum := fun (amount : Hold → Nat) => ((s.openHolds.filter (fun h => decide (h.slot = k))).map amount).sum
            (s.persons.get k = none → t.persons.get k = none)
            ∧ (∀ p, s.persons.get k = some p →
                t.persons.get k = some { p with unitsReserved := p.unitsReserved - sum (·.units),
                                                childReserved := p.childReserved - sum (·.child) }
                ∧ (p.unitsReserved = sum (·.units) → p.childReserved = sum (·.child) →
                    t.persons.get k = some { p with unitsReserved := 0, childReserved := 0 })))
        ∧ (∀ k, let holds := s.openHolds.filter (fun h => decide (h.folio = k))
            let offline := (holds.filterMap (fun h => h.offline.bind (fun x => if x.2 = s.epoch then some x.1 else none))).sum
            (s.folios.get k = none → t.folios.get k = none)
            ∧ (∀ f, s.folios.get k = some f →
                t.folios.get k = some
                  { f with held := f.held - (holds.map (·.total)).sum,
                           offlineSpent := if f.offlineEpoch = s.epoch then f.offlineSpent - offline else f.offlineSpent }
                ∧ (f.held = (holds.map (·.total)).sum → (t.folios.get k).map (·.held) = some 0)))
        ∧ (∀ k, s.heads.get k = none → t.heads.get k = none)
        ∧ (∀ k hd, s.heads.get k = some hd → ∃ outcome : SettingsOutcome,
            t.heads.get k = some
              { hd with state := if (s.line (k / 256)).state = .RUNNING then .PROBING else .IDLE, missed := 0, lastSeq := none,
                        lastIdentEnd := none, hold := none, lastGrant := none, tuneTimer := none, retryTimer := none,
                        tuneWait := none, nextDue := none, due := false, notified := false, frameWaits := false,
                        settings := outcome }
            ∧ (hd.settings ≠ .PENDING → outcome = hd.settings)
            ∧ (∀ p, hd.settings = .PENDING → (s.line (k / 256)).push = some p → p.dest = k % 256 → outcome = .FAILED p.answered)))

/-- R180: a request command whose frame has not been taken stands for its frame's arrival as well (the model's choice, log entry 2); one that
is not the next its block takes stays in hand, and nothing else happens. -/
def Obligations.RequestsTakenInOrder : Prop :=
  ∀ (s : State) (c : Instr) (kind : Nat) (tag : Byte), requestOf c = some (kind, tag) → s.ready c = false →
    (c ∈ s.link.inHand → Gives c s s)
    ∧ (c ∉ s.link.inHand → 4 ≤ s.link.unanswered →
        Gives c s { s with link := { s.link with overruns := min (s.link.overruns + 1) 4294967295 } })
    ∧ (c ∉ s.link.inHand → s.link.unanswered < 4 →
        (s.link.nextFor (blockOf kind)).isSome = true → Gives c s { s with link := { s.link with inHand := s.link.inHand ++ [c] } })
    ∧ (c ∉ s.link.inHand → s.link.unanswered < 4 → s.link.nextFor (blockOf kind) = none →
        exec c s = exec c { s with link := { s.link with inHand := s.link.inHand ++ [c] } })

/-! ## Persons and cards (Chapter 1) -/

/-- R6 and R2: the checks of PERSON PUT in order, the ranges and conditions of R2 first; a PUT that fails one is answered its refusal and
changes nothing. That 1 is yes is the model's reading (log entry 14). -/
def Obligations.PersonPutRefusals : Prop :=
  ∀ (s : State) (tag : Byte) (slot : Nat) (f : PersonFields), s.ready (.personPut tag slot f) = true →
    let c := Instr.personPut tag slot f
    ((∃ i, identityOf f = some i) ↔
      f.category ≤ 2 ∧ f.alcohol ≤ 1 ∧ f.chargeHold ≤ 1 ∧ f.gangwayHold ≤ 1 ∧ f.excused ≤ 1 ∧ f.id ≤ 4294967295
      ∧ f.zones ≤ 4294967295 ∧ f.roles ≤ 3 ∧ (f.category ≠ 1 → f.roles = 0)
      ∧ (∀ a b, f.shift = some (a, b) → a ≤ 86399 ∧ b ≤ 86399 ∧ a ≠ b)
      ∧ (∀ a b, f.stay = some (a, b) → a ≤ b ∧ b ≤ 4294967295)
      ∧ f.cabins.length ≤ 2 ∧ (∀ n ∈ f.cabins, 1 ≤ n ∧ n ≤ 9999) ∧ f.cabins.Nodup ∧ (f.category = 2 → f.cabins = [])
      ∧ (∀ n, f.folio = some n → n ≤ 4095) ∧ (∀ n, f.childCap = some n → n ≤ 99999999))
    ∧ (∀ i, identityOf f = some i →
        i.id = f.id ∧ i.category.ctorIdx = f.category ∧ i.service = bitOf f.roles 0 ∧ i.emergency = bitOf f.roles 1
        ∧ i.zones = BitVec.ofNat 32 f.zones ∧ i.shift = f.shift ∧ i.stay = f.stay ∧ i.cabins = f.cabins ∧ i.folio = f.folio
        ∧ i.alcohol = decide (f.alcohol = 1) ∧ i.childCap = f.childCap ∧ i.chargeHold = decide (f.chargeHold = 1)
        ∧ i.gangwayHold = decide (f.gangwayHold = 1) ∧ i.excused = decide (f.excused = 1))
    ∧ ((8192 ≤ slot ∨ identityOf f = none) → Refused c s .OUT_OF_RANGE)
    ∧ (∀ i, slot < 8192 → identityOf f = some i →
        let elsewhere := ∃ cell ∈ s.persons.cells, cell.1 ≠ slot ∧ cell.2.ident.id = i.id
        let another := ∃ p, s.persons.get slot = some p ∧ p.ident.id ≠ i.id
        let inUse := s.crossingNames slot = true ∨ s.holdNames slot = true
        let missing := (∃ n ∈ i.cabins, s.cabinSlot n = none) ∨ (∃ n, i.folio = some n ∧ s.folios.get n = none)
        let full := ∃ n ∈ i.cabins, n ∉ s.presentCabins slot ∧ ∃ cb, s.cabin? n = some cb ∧ 6 ≤ cb.occupants.length
        (elsewhere → Refused c s .EXISTS)
        ∧ (¬ elsewhere → another → Refused c s .WRONG_STATE)
        ∧ (¬ elsewhere → ¬ another → inUse → Refused c s .IN_USE)
        ∧ (¬ elsewhere → ¬ another → ¬ inUse → missing → Refused c s .NOT_FOUND)
        ∧ (¬ elsewhere → ¬ another → ¬ inUse → ¬ missing → full → Refused c s .FULL)
        ∧ (¬ elsewhere → ¬ another → ¬ inUse → ¬ missing → ¬ full → ∃ t, Answers c s t .OK []))

/-- R7, R8, R26 to R28 and R137: a PERSON PUT accepted on an empty slot writes the fields with the start values of R3, joins the person to each cabin
of the list as its newest occupant, and counts the person UNKNOWN; on an occupied slot it replaces the fields of R2 and keeps the running fields,
moves the person between the cabins dropped and added with their aboard counts and what a count fallen to 0 brings (privacy lapse and indicator
work), and hands the census and the Missing List the old and new standing. -/
def Obligations.PersonPutWrites : Prop :=
  (∀ (s : State) (tag : Byte) (slot : Nat) (f : PersonFields) (i : Identity), s.ready (.personPut tag slot f) = true →
     s.cabins.wf = true → identityOf f = some i → s.personPutRefusal slot f = none → s.persons.get slot = none →
     ∃ t : State, Answers (.personPut tag slot f) s t .OK [] ∧ Keeps [.persons, .cabins, .census] s t
       ∧ t.persons.get slot = some ⟨i, .UNKNOWN, none, ⟨0, 0⟩, 0, ⟨0, 0⟩, 0⟩
       ∧ (∀ k, k ≠ slot → t.persons.get k = s.persons.get k)
       ∧ (∀ k, t.cabins.get k = (s.cabins.get k).map (fun c =>
           if c.number ∈ i.cabins ∧ s.cabinSlot c.number = some k then { c with occupants := c.occupants ++ [slot] } else c))
       ∧ t.census.missing = s.census.missing ∧ t.census.visitorsAboard = s.census.visitorsAboard
       ∧ (i.category = .GUEST → t.census = { s.census with guest := { s.census.guest with unknown := s.census.guest.unknown + 1 } })
       ∧ (i.category = .CREW → t.census = { s.census with crew := { s.census.crew with unknown := s.census.crew.unknown + 1 } })
       ∧ (i.category = .VISITOR →
           t.census = { s.census with visitor := { s.census.visitor with unknown := s.census.visitor.unknown + 1 } }))
  ∧ (∀ (s : State) (tag : Byte) (slot : Nat) (f : PersonFields) (i : Identity) (old : Person),
       s.ready (.personPut tag slot f) = true → s.cabins.wf = true → identityOf f = some i →
       s.personPutRefusal slot f = none → s.persons.get slot = some old → old.ident.cabins.Nodup →
       ∃ t : State, Answers (.personPut tag slot f) s t .OK []
         ∧ Keeps [.persons, .cabins, .census, .sweeper, .lines] s t
         ∧ t.persons.get slot = some { old with ident := i } ∧ (∀ k, k ≠ slot → t.persons.get k = s.persons.get k)
         ∧ t.census = s.census.handed (some ⟨old.ident.category, old.presence, old.ident.excused⟩)
             (some ⟨i.category, old.presence, i.excused⟩)
         ∧ t.sweeper = s.sweeper.listed slot (isMissing old.ident.category old.presence old.ident.excused)
             (isMissing i.category old.presence i.excused)
         ∧ (let moved := (s.cabinsChanged (Cabin.left slot old.presence)
                (old.ident.cabins.filter (fun n => decide (n ∉ i.cabins)))).cabinsChanged (Cabin.joined slot old.presence)
                (i.cabins.filter (fun n => decide (n ∉ old.ident.cabins)))
            t.cabins = moved.cabins ∧ t.lines = moved.lines)
         ∧ ∀ k c, s.cabins.get k = some c → ∃ c', t.cabins.get k = some c' ∧ c'.number = c.number ∧ c'.ring = c.ring
             ∧ (s.cabinSlot c.number = some k → c.number ∈ old.ident.cabins → c.number ∉ i.cabins →
                 c'.occupants = c.occupants.erase slot
                 ∧ c'.aboard = if old.presence = .ABOARD then c.aboard - 1 else c.aboard)
             ∧ (s.cabinSlot c.number = some k → c.number ∉ old.ident.cabins → c.number ∈ i.cabins →
                 c'.occupants = c.occupants ++ [slot]
                 ∧ c'.aboard = if old.presence = .ABOARD then c.aboard + 1 else c.aboard)
             ∧ ((c.number ∈ old.ident.cabins ↔ c.number ∈ i.cabins) → c' = c))

/-- R10, R26 to R28 and R137: PERSON DROP is refused for no person and for one that a pending crossing or open hold names; otherwise the
person's cards go, the person leaves the occupants of each cabin of the list, the cabin's aboard count falling with one ABOARD and what a
count fallen to 0 brings (privacy lapse and indicator work), the census and the Missing List lose the person, and the slot is empty. -/
def Obligations.PersonDropRemoves : Prop :=
  ∀ (s : State) (tag : Byte) (slot : Nat), s.ready (.personDrop tag slot) = true →
    let c := Instr.personDrop tag slot
    (8192 ≤ slot → Refused c s .OUT_OF_RANGE)
    ∧ (slot < 8192 → s.persons.get slot = none → Refused c s .NOT_FOUND)
    ∧ (∀ p, slot < 8192 → s.persons.get slot = some p → (s.crossingNames slot = true ∨ s.holdNames slot = true) →
        Refused c s .IN_USE)
    ∧ (∀ p, slot < 8192 → s.persons.get slot = some p → s.crossingNames slot = false → s.holdNames slot = false →
        s.persons.wf = true → s.cards.wf = true → s.cabins.wf = true → p.ident.cabins.Nodup →
        ∃ t : State, Answers c s t .OK [] ∧ Keeps [.persons, .cards, .cabins, .census, .sweeper, .lines] s t
          ∧ t.persons.get slot = none ∧ (∀ k, k ≠ slot → t.persons.get k = s.persons.get k)
          ∧ (∀ k e, t.cards.get k = some e ↔ s.cards.get k = some e ∧ e.slot ≠ slot)
          ∧ t.census = s.census.handed (some ⟨p.ident.category, p.presence, p.ident.excused⟩) none
          ∧ t.sweeper = s.sweeper.listed slot (isMissing p.ident.category p.presence p.ident.excused) false
          ∧ (let moved := s.cabinsChanged (Cabin.left slot p.presence) p.ident.cabins
             t.cabins = moved.cabins ∧ t.lines = moved.lines)
          ∧ (∀ k cb, s.cabins.get k = some cb → ∃ cb', t.cabins.get k = some cb' ∧ cb'.number = cb.number
              ∧ cb'.ring = cb.ring ∧ cb'.deadbolt = cb.deadbolt
              ∧ (s.cabinSlot cb.number = some k → cb.number ∈ p.ident.cabins →
                  cb'.occupants = cb.occupants.erase slot
                  ∧ cb'.aboard = if p.presence = .ABOARD then cb.aboard - 1 else cb.aboard)
              ∧ (cb.number ∉ p.ident.cabins → cb' = cb)))

/-- R13, R15 and R16: a UID's bucket is picked by its two bucket bytes, a byte beyond its length reading as 0, and the lookup returns the
entry of that bucket, positions 0 to 7, with the same UID. CARD ENROL by its checks in order: an accepted one takes the lowest free position of
the bucket, or else its lowest REVOKED entry's, is then found there, and when ACTIVE revokes the person's old ACTIVE card. That the bytes of a UID field
beyond its length are ignored is the model's choice (log entry 28). -/
def Obligations.LookupAndEnrol : Prop :=
  (∀ (s : State) (u : Uid),
     let bucket := ((u.getD s.params.bucketA 0).toNat * 256 + (u.getD s.params.bucketB 0).toNat) % 2048
     (∀ k, s.cardKeyOf u = some k →
       ∃ pos e, pos < 8 ∧ k = 8 * bucket + pos ∧ s.cards.get k = some e ∧ e.uid = u ∧ s.lookup u = some e)
     ∧ (s.cardKeyOf u = none ↔ ∀ pos e, pos < 8 → s.cards.get (8 * bucket + pos) = some e → e.uid ≠ u)
     ∧ (s.lookup u = none ↔ s.cardKeyOf u = none))
  ∧ (∀ (s : State) (tag : Byte) (u : RawUid) (slot issue state : Nat), s.ready (.cardEnrol tag u slot issue state) = true →
       let c := Instr.cardEnrol tag u slot issue state
       ((uidOf u = none ∨ 8192 ≤ slot ∨ 2 ≤ state) → Refused c s .OUT_OF_RANGE)
       ∧ (∀ uid, uidOf u = some uid → slot < 8192 → state < 2 →
           let keys := bucketKeys (s.bucketOf uid)
           let new : CardEntry := ⟨uid, slot, issue, if state = 0 then .ACTIVE else .SUSPENDED⟩
           (s.persons.get slot = none → Refused c s .NOT_FOUND)
           ∧ (s.persons.get slot ≠ none → s.cardKeyOf uid ≠ none → Refused c s .EXISTS)
           ∧ (s.persons.get slot ≠ none → s.cardKeyOf uid = none →
               (∀ k ∈ keys, ∃ e, s.cards.get k = some e ∧ e.state ≠ .REVOKED) → Refused c s .FULL)
           ∧ (s.persons.get slot ≠ none → s.cardKeyOf uid = none → s.cards.wf = true →
               (∃ k ∈ keys, ∀ e, s.cards.get k = some e → e.state = .REVOKED) →
               ∃ (t : State) (k : Nat), Answers c s t .OK [] ∧ Keeps [.cards] s t ∧ k ∈ keys
                 ∧ ((s.cards.get k = none ∧ ∀ j ∈ keys, j < k → s.cards.get j ≠ none)
                     ∨ ((∀ j ∈ keys, s.cards.get j ≠ none) ∧ (∃ e, s.cards.get k = some e ∧ e.state = .REVOKED)
                         ∧ ∀ j ∈ keys, j < k → ∀ e, s.cards.get j = some e → e.state ≠ .REVOKED))
                 ∧ t.cards.get k = some new ∧ t.cardKeyOf uid = some k
                 ∧ ∀ j, j ≠ k → t.cards.get j = (s.cards.get j).map (fun e =>
                     if state = 0 ∧ s.activeCard slot = some j then { e with state := .REVOKED } else e))))

/-- R17 to R19 and R21: CARD REVOKE, CARD SUSPEND and CARD RESUME find the card by UID and issue number together, and change its state, or
refuse, by the state it is in; CARD PURGE removes every REVOKED entry, leaves every other at its position, and answers how many it
removed. The two bytes of that number are the model's reading (log entry 13). That the bytes of a UID field
beyond its length are ignored is the model's choice (log entry 28). -/
def Obligations.CardStateChanges : Prop :=
  (∀ (s : State) (tag : Byte) (u : RawUid) (issue : Nat),
     (uidOf u = none →
       (s.ready (.cardRevoke tag u issue) = true → Refused (.cardRevoke tag u issue) s .OUT_OF_RANGE)
       ∧ (s.ready (.cardSuspend tag u issue) = true → Refused (.cardSuspend tag u issue) s .OUT_OF_RANGE)
       ∧ (s.ready (.cardResume tag u issue) = true → Refused (.cardResume tag u issue) s .OUT_OF_RANGE))
     ∧ (∀ uid, uidOf u = some uid → (∀ e, s.lookup uid = some e → e.issue ≠ issue) →
         (s.ready (.cardRevoke tag u issue) = true → Refused (.cardRevoke tag u issue) s .NOT_FOUND)
         ∧ (s.ready (.cardSuspend tag u issue) = true → Refused (.cardSuspend tag u issue) s .NOT_FOUND)
         ∧ (s.ready (.cardResume tag u issue) = true → Refused (.cardResume tag u issue) s .NOT_FOUND))
     ∧ (∀ uid k e, uidOf u = some uid → s.cardKeyOf uid = some k → s.cards.get k = some e → e.issue = issue →
         let into := fun (st : CardState) => { s with cards := s.cards.modify k (fun e => { e with state := st }) }
         (s.ready (.cardRevoke tag u issue) = true → Answers (.cardRevoke tag u issue) s (into .REVOKED) .OK [])
         ∧ (s.ready (.cardSuspend tag u issue) = true →
             (e.state ≠ .REVOKED → Answers (.cardSuspend tag u issue) s (into .SUSPENDED) .OK [])
             ∧ (e.state = .REVOKED → Refused (.cardSuspend tag u issue) s .WRONG_STATE))
         ∧ (s.ready (.cardResume tag u issue) = true →
             ((e.state = .ACTIVE ∨ (e.state = .SUSPENDED ∧ s.activeCard e.slot = none)) →
               Answers (.cardResume tag u issue) s (into .ACTIVE) .OK [])
             ∧ ((e.state = .REVOKED ∨ (e.state = .SUSPENDED ∧ s.activeCard e.slot ≠ none)) →
               Refused (.cardResume tag u issue) s .WRONG_STATE))))
  ∧ (∀ (s : State) (tag : Byte), s.ready (.cardPurge tag) = true → s.cards.wf = true →
       ∃ t : State, Answers (.cardPurge tag) s t .OK (u16 (s.cards.size - t.cards.size)) ∧ Keeps [.cards] s t
         ∧ ∀ k e, t.cards.get k = some e ↔ s.cards.get k = some e ∧ e.state ≠ .REVOKED)

/-! ## Cabins and doors (Chapter 2) -/

/-- R40, R42, R43, R28 and R29: CABIN PUT creates a cabin in the lowest empty slot or replaces a zone, and CABIN DROP empties the slot of a
cabin without occupant and door head. PRIVACY SET stores the value and does the indicator work; when a line has room, its owed cabins get one
INDICATOR frame each with their present privacy, in ascending slot order, while a free unreserved slot remains. -/
def Obligations.CabinRequestsAndIndicators : Prop :=
  (∀ (s : State) (tag : Byte) (number zone : Nat),
     (s.ready (.cabinPut tag number zone) = true →
       let c := Instr.cabinPut tag number zone
       ((number < 1 ∨ 9999 < number ∨ 31 < zone) → Refused c s .OUT_OF_RANGE)
       ∧ (1 ≤ number → number ≤ 9999 → zone ≤ 31 →
           (∀ k, s.cabinSlot number = some k →
             Answers c s { s with cabins := s.cabins.modify k (fun c => { c with zone := zone }) } .OK (u16 k))
           ∧ (s.cabinSlot number = none → (∀ k, k < 3072 → s.cabins.get k ≠ none) → Refused c s .FULL)
           ∧ (∀ k, s.cabinSlot number = none → k < 3072 → s.cabins.get k = none → (∀ j, j < k → s.cabins.get j ≠ none) →
               Answers c s { s with cabins := s.cabins.set k ⟨number, zone, none, [], 0, .OPEN, .UNKNOWN, false, []⟩ } .OK
                 (u16 k))))
     ∧ (s.ready (.cabinDrop tag number) = true →
         let c := Instr.cabinDrop tag number
         ((number < 1 ∨ 9999 < number) → Refused c s .OUT_OF_RANGE)
         ∧ (1 ≤ number → number ≤ 9999 →
             (s.cabinSlot number = none → Refused c s .NOT_FOUND)
             ∧ (∀ k cb, s.cabinSlot number = some k → s.cabins.get k = some cb →
                 ((cb.occupants ≠ [] ∨ cb.doorHead ≠ none) → Refused c s .IN_USE)
                 ∧ (cb.occupants = [] → cb.doorHead = none → Answers c s { s with cabins := s.cabins.erase k } .OK [])))))
  ∧ (∀ (s : State) (tag : Byte) (number value : Nat), s.ready (.privacySet tag number value) = true →
       let c := Instr.privacySet tag number value
       let p : Privacy := if value = 0 then .OPEN else .PRIVACY
       ((number < 1 ∨ 9999 < number ∨ 1 < value) → Refused c s .OUT_OF_RANGE)
       ∧ (1 ≤ number → number ≤ 9999 → value ≤ 1 →
           (s.cabinSlot number = none → Refused c s .NOT_FOUND)
           ∧ (∀ k cb, s.cabinSlot number = some k → s.cabins.get k = some cb →
               (cb.doorHead = none →
                 Answers c s { s with cabins := s.cabins.set k { cb with privacy := p, owed := false } } .OK [])
               ∧ (∀ h, cb.doorHead = some h → s.online h = true → 0 < (s.line h.line).free →
                   Answers c s
                     { s with
                       cabins := s.cabins.set k { cb with privacy := p, owed := false },
                       lines := s.lines.set h.line
                         { s.line h.line with
                           queue := (s.line h.line).queue ++ [⟨h.address, .indicator cb.number p⟩] } } .OK [])
               ∧ (∀ h, cb.doorHead = some h → (s.online h = false ∨ (s.line h.line).free = 0) →
                   Answers c s { s with cabins := s.cabins.set k { cb with privacy := p, owed := true } } .OK []))))
  ∧ (∀ (s : State) (l : Nat), s.cabins.wf = true →
       let due := s.cabins.cells.filterMap (fun x => x.2.doorHead.bind (fun h =>
         if x.2.owed = true ∧ h.line = l ∧ s.online h = true then
           some (x.1, (⟨h.address, .indicator x.2.number x.2.privacy⟩ : OutFrame)) else none))
       let served := due.take (s.line l).free
       ∃ t : State, Gives (.indicatorOnRoom l) s t ∧ Keeps [.cabins, .lines] s t
         ∧ t.line l = { s.line l with queue := (s.line l).queue ++ served.map (·.2) } ∧ (∀ m, m ≠ l → t.line m = s.line m)
         ∧ ∀ k, t.cabins.get k =
             (s.cabins.get k).map (fun c => if k ∈ served.map (·.1) then { c with owed := false } else c))

/-- R33, R34 and R4: the door decision order, step by step, for the card the lookup finds, its person and the head's cabin, the two windows as
R4 tests them. That the bytes of a UID field beyond its length are ignored is the model's choice (log entry 28). -/
def Obligations.DoorDecisionOrder : Prop :=
  ∀ (s : State) (cabin : Option Cabin) (u : RawUid),
    let emergency := ∃ e p, s.lookupRaw u = some e ∧ e.state = .ACTIVE ∧ s.persons.get e.slot = some p
      ∧ p.ident.emergency = true
    (s.clock.state = .UNSET → ¬ emergency → s.doorVerdict cabin u = ⟨.DENY .CLOCK_UNSET, 0, none⟩)
    ∧ (s.clock.state = .SET → s.lookupRaw u = none → s.doorVerdict cabin u = ⟨.DENY .UNKNOWN_CARD, 0, none⟩)
    ∧ (∀ e, s.clock.state = .SET → s.lookupRaw u = some e →
        (e.state = .SUSPENDED → s.doorVerdict cabin u = ⟨.DENY .SUSPENDED, 0, none⟩)
        ∧ (e.state = .REVOKED → s.doorVerdict cabin u = ⟨.DENY .REVOKED, e.slot, some .REVOKED_CARD⟩))
    ∧ (∀ e p, s.lookupRaw u = some e → e.state = .ACTIVE → s.persons.get e.slot = some p →
        (p.ident.emergency = true → s.doorVerdict cabin u = ⟨.GRANT .EMERGENCY, e.slot, none⟩)
        ∧ (s.clock.state = .SET → p.ident.emergency = false →
            (p.ident.category = .VISITOR → s.doorVerdict cabin u = ⟨.DENY .NOT_PERMITTED, 0, none⟩)
            ∧ (∀ c, cabin = some c → p.ident.category ≠ .VISITOR →
                (c.deadbolt = .ENGAGED → s.doorVerdict cabin u = ⟨.DENY .DEADBOLT, 0, none⟩)
                ∧ (c.deadbolt ≠ .ENGAGED → e.slot ∈ c.occupants →
                    let inStay := ∀ first last, p.ident.stay = some (first, last) → first ≤ s.clock.time ∧ s.clock.time ≤ last
                    (¬ inStay → s.doorVerdict cabin u = ⟨.DENY .WINDOW, 0, none⟩)
                    ∧ (inStay →
                        (p.presence ≠ .ASHORE → s.doorVerdict cabin u = ⟨.GRANT .KEYED, e.slot, none⟩)
                        ∧ (p.presence = .ASHORE → s.params.doorPolicy = .GRANT_AND_NOTIFY →
                            s.doorVerdict cabin u = ⟨.GRANT .KEYED, e.slot, some .PRESENCE_CONFLICT⟩)
                        ∧ (p.presence = .ASHORE → s.params.doorPolicy = .DENY →
                            s.doorVerdict cabin u = ⟨.DENY .PRESENCE, 0, none⟩)))
                ∧ (c.deadbolt ≠ .ENGAGED → e.slot ∉ c.occupants →
                    let service := p.ident.category = .CREW ∧ p.ident.service = true ∧ p.ident.zones.getLsbD c.zone = true
                    let sec := s.clock.time % 86400
                    let inShift := ∀ start stop, p.ident.shift = some (start, stop) →
                      (start < stop → start ≤ sec ∧ sec < stop) ∧ (stop < start → start ≤ sec ∨ sec < stop)
                    (service → ¬ inShift → s.doorVerdict cabin u = ⟨.DENY .WINDOW, 0, none⟩)
                    ∧ (service → inShift → c.privacy = .PRIVACY →
                        s.doorVerdict cabin u = ⟨.DENY .PRIVACY, 0, none⟩)
                    ∧ (service → inShift → c.privacy = .OPEN →
                        s.doorVerdict cabin u = ⟨.GRANT .SERVICE, e.slot, none⟩)
                    ∧ (¬ service → s.doorVerdict cabin u = ⟨.DENY .NOT_PERMITTED, 0, none⟩)))))

/-- R32 and R35: a door TAP that is taken is answered on its reserved slot by the decision of R33 on the records as they stand; a GRANT becomes
the head's last grant, a DENY leaves it, and the decision's notice is raised; no card, person, cabin or census field changes. -/
def Obligations.DoorTapDecided : Prop :=
  ∀ (s : State) (e : Entry) (rest : List Entry) (u : RawUid) (tag : Nat) (hd : Head), e.event = .doorTap u tag →
    s.takeable .CABIN_DOOR e rest → s.head? e.head = some hd → 0 < (s.line e.head.line).reserved →
    let v := s.doorVerdict (s.cabin? hd.bound) u
    ∃ t : State, Gives .doorTap s t ∧ Keeps [.doorIn, .lines, .heads, .latches] s t
      ∧ t.doorIn = ⟨rest, s.doorIn.reserved⟩
      ∧ t.line e.head.line =
          { s.line e.head.line with
            queue := (s.line e.head.line).queue ++ [⟨e.head.address, .door tag v.decision⟩],
            reserved := (s.line e.head.line).reserved - 1 }
      ∧ (∀ m, m ≠ e.head.line → t.line m = s.line m)
      ∧ (∀ kind, v.decision = .GRANT kind → t.head? e.head = some { hd with lastGrant := some ⟨tag, v.slot, kind⟩ })
      ∧ (∀ code, v.decision = .DENY code → t.head? e.head = some hd)
      ∧ (∀ h, h ≠ e.head → t.head? h = s.head? h)
      ∧ (∀ n, v.notice = some n → t.latch n = (s.latch n).raised (.person v.slot) s.clock.time)
      ∧ (∀ n, v.notice ≠ some n → t.latch n = s.latch n)

/-- R36, R31, R38 and R30: an OPENED that is taken adds one record to the cabin's ring, the oldest of eight leaving: the last grant's kind and
person when it carries that grant's tag, which then clears; EGRESS without a tag; UNMATCHED with any other tag. PRIVACY_ON and PRIVACY_OFF set the
cabin's privacy and clear its owed flag without indicator work; DEADBOLT_ON and DEADBOLT_OFF set its deadbolt; nothing else changes. -/
def Obligations.DoorEventsApplied : Prop :=
  (∀ (s : State) (e : Entry) (rest : List Entry) (tag : Option Nat) (hd : Head) (k : Nat) (cb : Cabin),
     e.event = .opened tag → s.takeable .CABIN_DOOR e rest → s.head? e.head = some hd → s.cabinSlot hd.bound = some k →
     s.cabins.get k = some cb →
     ∃ (t : State) (r : AuditRecord), Gives .opened s t ∧ Keeps [.doorIn, .cabins, .heads] s t
       ∧ t.doorIn = ⟨rest, s.doorIn.reserved⟩ ∧ r.time = s.clock.time
       ∧ t.cabins.get k = some { cb with ring := (r :: cb.ring).take 8 } ∧ (∀ j, j ≠ k → t.cabins.get j = s.cabins.get j)
       ∧ (∀ h, h ≠ e.head → t.head? h = s.head? h)
       ∧ (tag = none → r.kind = .EGRESS ∧ r.slot = none ∧ t.head? e.head = some hd)
       ∧ (∀ n, tag = some n → (∀ g, hd.lastGrant = some g → g.tag ≠ n) →
           r.kind = .UNMATCHED ∧ r.slot = none ∧ t.head? e.head = some hd)
       ∧ (∀ n g, tag = some n → hd.lastGrant = some g → g.tag = n →
           r.slot = some g.slot ∧ r.kind.ctorIdx = g.kind.ctorIdx ∧ t.head? e.head = some { hd with lastGrant := none }))
  ∧ (∀ (s : State) (e : Entry) (rest : List Entry) (hd : Head) (k : Nat) (cb : Cabin),
       s.takeable .CABIN_DOOR e rest → s.head? e.head = some hd → s.cabinSlot hd.bound = some k → s.cabins.get k = some cb →
       let after := fun (x : Cabin) =>
         { s with doorIn := ⟨rest, s.doorIn.reserved⟩, cabins := s.cabins.set k x : State }
       (e.event = .privacyOn → Gives .privacyOn s (after { cb with privacy := .PRIVACY, owed := false }))
       ∧ (e.event = .privacyOff → Gives .privacyOff s (after { cb with privacy := .OPEN, owed := false }))
       ∧ (e.event = .deadboltOn → Gives .deadboltOn s (after { cb with deadbolt := .ENGAGED }))
       ∧ (e.event = .deadboltOff → Gives .deadboltOff s (after { cb with deadbolt := .RELEASED })))

/-- R37: a NOT_OPENED that is taken clears the head's last grant when it carries that grant's tag and has no effect otherwise; it writes no audit
record. -/
def Obligations.NotOpenedClearsGrant : Prop :=
  ∀ (s : State) (e : Entry) (rest : List Entry) (tag : Nat) (hd : Head),
    e.event = .notOpened tag → s.takeable .CABIN_DOOR e rest → s.head? e.head = some hd →
    ∃ t : State, Gives .notOpened s t ∧ Keeps [.doorIn, .heads] s t ∧ t.doorIn = ⟨rest, s.doorIn.reserved⟩
      ∧ (∀ h, h ≠ e.head → t.head? h = s.head? h)
      ∧ (∀ g, hd.lastGrant = some g → g.tag = tag → t.head? e.head = some { hd with lastGrant := none })
      ∧ ((∀ g, hd.lastGrant = some g → g.tag ≠ tag) → t.head? e.head = some hd)

/-- R158 and R92: every job unit discards the oldest entry of its intake when it is departed or its head is not ONLINE, and a TAP whose reply window has
run out, which raises LATE_TAPS; the intake slot is freed and the entry's outbound reservation given back; an event that is no TAP is never
late, however long it waited; a purchase intake that waits at a CONFIRM takes nothing. A command whose event is not the oldest changes nothing
(the model's choice, log entry 8). -/
def Obligations.IntakeEntriesDiscarded : Prop :=
  (∀ s : State, s.intakeWaits = true → Gives .purchaseTap s s ∧ Gives .confirm s s ∧ Gives .void s s)
  ∧ ∀ (s : State) (i : Instr) (c : HeadClass) (e : Entry) (rest : List Entry), takenFrom i e.event = some c →
    (s.intake c).entries = e :: rest → (c = .VENUE_TERMINAL → s.intakeWaits = false) →
    let emptied := s.setIntake c ⟨rest, (s.intake c).reserved⟩
    let gone := if e.held then
        emptied.setLine e.head.line { s.line e.head.line with reserved := (s.line e.head.line).reserved - 1 } else emptied
    ((e.departed = true ∨ s.online e.head = false) → Gives i s gone)
    ∧ (e.departed = false → s.online e.head = true → e.event.isTap = true → s.window c < s.since e.arrival →
        Gives i s (gone.raise .LATE_TAPS (.head e.head)))
    ∧ (e.departed = false → s.online e.head = true → e.event.isTap = false →
        s.takeable c e rest ∧ ∃ t : State, Gives i s t ∧ t.latch .LATE_TAPS = s.latch .LATE_TAPS)
    ∧ (∀ other event, takenFrom other event = some c → takenFrom other e.event = none → Gives other s s)

/-! ## Folios, venues and the journal (Chapters 3 and 5) -/

/-- R54 to R56: FOLIO PUT by its checks in order; on an empty slot it creates the folio with posted-through at the newest number, and on an
occupied one it starts the Reconcile Scanner over the journal, or completes at once when the journal is empty. -/
def Obligations.FolioPutByCase : Prop :=
  ∀ (s : State) (tag : Byte) (slot : Nat) (f : FolioFields), s.ready (.folioPut tag slot f) = true →
    let c := Instr.folioPut tag slot f
    ((∃ st, stagedOf f = some st) ↔
      f.state ≤ 2 ∧ f.id ≤ 4294967295 ∧ f.limit ≤ 999999999 ∧ -999999999999 ≤ f.posted ∧ f.posted ≤ 999999999999
      ∧ f.through ≤ 4294967295
      ∧ ∀ p, f.package = some p → p.kind ≤ 1 ∧ p.cap ≤ 9999999 ∧ 1 ≤ p.units ∧ p.units ≤ 99)
    ∧ ((4096 ≤ slot ∨ stagedOf f = none) → Refused c s .OUT_OF_RANGE)
    ∧ (∀ st, slot < 4096 → stagedOf f = some st →
        let elsewhere := ∃ cell ∈ s.folios.cells, cell.1 ≠ slot ∧ cell.2.id = f.id
        (elsewhere → Refused c s .EXISTS)
        ∧ (¬ elsewhere → s.folios.get slot = none →
            ((∃ e ∈ s.journal, e.folio = slot ∧ e.folioId = f.id) → Refused c s .IN_USE)
            ∧ ((∀ e ∈ s.journal, ¬ (e.folio = slot ∧ e.folioId = f.id)) →
                Answers c s
                  { s with
                    folios := s.folios.set slot
                      ⟨f.id, st.state, f.limit, st.package, f.posted, s.newestCharge, 0, 0, 0, s.epoch⟩ } .OK []))
        ∧ (∀ live, ¬ elsewhere → s.folios.get slot = some live →
            (live.id ≠ f.id → Refused c s .WRONG_STATE)
            ∧ (live.id = f.id → s.scanner ≠ none → Refused c s .BUSY)
            ∧ (live.id = f.id → s.scanner = none → f.through < s.retiredThrough → Refused c s .STALE_POSTING)
            ∧ (live.id = f.id → s.scanner = none → s.retiredThrough ≤ f.through → s.newestCharge < f.through →
                Refused c s .OUT_OF_RANGE)
            ∧ (live.id = f.id → s.scanner = none → s.retiredThrough ≤ f.through → f.through ≤ s.newestCharge →
                (∀ e rest, s.journal = e :: rest → e.number ≤ s.newestCharge →
                  Answers c s { s with scanner := some ⟨slot, f.id, st, s.newestCharge, e.number, 0⟩ } .ACCEPTED [])
                ∧ (s.journal = [] → s.deferred = [] → s.intakeWaits = false →
                    Answers c s
                      (({ s with
                          folios := s.folios.set slot
                            { live with state := st.state, limit := f.limit, package := st.package, posted := f.posted,
                                        through := f.through, unposted := 0 } } : State).raise .RECONCILE_DONE (.folio slot))
                      .ACCEPTED []))))

/-- R57 and R92: one step of a scan adds the total of the entry at the cursor when it names the scanner's folio above the staged K, and
moves the cursor on; the step that passes the end number installs the staged fields and the sum, raises RECONCILE_DONE for the folio slot,
applies each deferred CONFIRM in list order under the next number, and leaves the scanner IDLE, the deferred list empty and the intake waiting no
more. A CONFIRM whose hold was not carried takes the hold off its head and gets a CONFIRMED frame when the terminal is ONLINE and its line has
a free unreserved slot; what applying does is said by ConfirmApplied. That a step of an IDLE scanner changes nothing is the model's choice (log
entry 8). -/
def Obligations.ScanStepExaminesOneEntry : Prop :=
  ∀ (s : State),
    (s.scanner = none → Gives .reconcileScanStep s s)
    ∧ (∀ sc, s.scanner = some sc →
        let counted := match s.journal.find? (fun e => e.number = sc.cursor) with
          | some e => if e.folio = sc.slot ∧ e.folioId = sc.id ∧ sc.staged.through < e.number then e.total else 0
          | none => 0
        let installed := fun (f : Folio) =>
          { f with state := sc.staged.state, limit := sc.staged.limit, package := sc.staged.package, posted := sc.staged.posted,
                   through := sc.staged.through, unposted := sc.sum + counted }
        let confirmed := fun (u : State) (d : Deferred) =>
          match d.carried, u.head? d.head with
          | some h, _ => u.applyConfirm h
          | none, none => u
          | none, some hd =>
            match hd.hold with
            | none => u
            | some h =>
              let ln := u.line d.head.line
              { u.applyConfirm h with
                heads := u.heads.set d.head.key { hd with hold := none },
                lines := if hd.state = .ONLINE then
                    u.lines.set d.head.line (if 0 < ln.free then
                      { ln with queue := ln.queue ++ [⟨d.head.address, .purchase d.tag (.CONFIRMED u.nextCharge)⟩] } else ln)
                  else u.lines }
        (sc.cursor < sc.last →
          Gives .reconcileScanStep s { s with scanner := some { sc with cursor := sc.cursor + 1, sum := sc.sum + counted } })
        ∧ (sc.last ≤ sc.cursor →
            let posted := ({ s with folios := s.folios.modify sc.slot installed } : State).raise .RECONCILE_DONE (.folio sc.slot)
            ∃ (t : State) (new : List JournalEntry), Gives .reconcileScanStep s t
              ∧ t = { s.deferred.foldl confirmed posted with deferred := [], scanner := none, intakeWaits := false }
              ∧ Keeps [.folios, .persons, .heads, .lines, .latches, .journal, .scanner, .deferred, .intakeWaits] s t
              ∧ t.latch .RECONCILE_DONE = (s.latch .RECONCILE_DONE).raised (.folio sc.slot) s.clock.time
              ∧ t.journal = s.journal ++ new ∧ new.length ≤ s.deferred.length
              ∧ ((∀ d ∈ s.deferred, d.carried ≠ none) → new.length = s.deferred.length)
              ∧ (∀ f, s.deferred = [] → s.folios.get sc.slot = some f →
                  new = [] ∧ t.persons = s.persons ∧ t.heads = s.heads ∧ t.lines = s.lines
                  ∧ t.folios = s.folios.set sc.slot (installed f))))

/-- R58, R59, R60 and R62: FOLIO LIMIT and FOLIO STATE change the live field at once, and the staged one too while their folio is under
reconcile; FOLIO FREE empties the slot of a folio that is not under reconcile, that no person names, and that has nothing unposted or held. -/
def Obligations.FolioEditsAndFree : Prop :=
  (∀ (s : State) (tag : Byte) (slot limit state : Nat),
     (s.ready (.folioLimit tag slot limit) = true →
       let c := Instr.folioLimit tag slot limit
       ((4096 ≤ slot ∨ 999999999 < limit) → Refused c s .OUT_OF_RANGE)
       ∧ (slot < 4096 → limit ≤ 999999999 → s.folios.get slot = none → Refused c s .NOT_FOUND)
       ∧ (∀ f, slot < 4096 → limit ≤ 999999999 → s.folios.get slot = some f →
           ((∀ sc, s.scanner = some sc → sc.slot ≠ slot) →
             Answers c s { s with folios := s.folios.set slot { f with limit := limit } } .OK [])
           ∧ (∀ sc, s.scanner = some sc → sc.slot = slot →
               Answers c s { s with folios := s.folios.set slot { f with limit := limit },
                                    scanner := some { sc with staged := { sc.staged with limit := limit } } } .OK [])))
     ∧ (s.ready (.folioState tag slot state) = true →
         let c := Instr.folioState tag slot state
         ((4096 ≤ slot ∨ 2 < state) → Refused c s .OUT_OF_RANGE)
         ∧ (slot < 4096 → state ≤ 2 → s.folios.get slot = none → Refused c s .NOT_FOUND)
         ∧ (∀ f st, slot < 4096 → st.ctorIdx = state → s.folios.get slot = some f →
             ((∀ sc, s.scanner = some sc → sc.slot ≠ slot) →
               Answers c s { s with folios := s.folios.set slot { f with state := st } } .OK [])
             ∧ (∀ sc, s.scanner = some sc → sc.slot = slot →
                 Answers c s { s with folios := s.folios.set slot { f with state := st },
                                      scanner := some { sc with staged := { sc.staged with state := st } } } .OK []))))
  ∧ (∀ (s : State) (tag : Byte) (slot : Nat), s.ready (.folioFree tag slot) = true →
       let c := Instr.folioFree tag slot
       (4096 ≤ slot → Refused c s .OUT_OF_RANGE)
       ∧ (slot < 4096 → s.folios.get slot = none → Refused c s .NOT_FOUND)
       ∧ (∀ f, slot < 4096 → s.folios.get slot = some f →
           let scanning := ∃ sc, s.scanner = some sc ∧ sc.slot = slot ∧ sc.id = f.id
           let used := (∃ cell ∈ s.persons.cells, cell.2.ident.folio = some slot) ∨ f.unposted ≠ 0 ∨ f.held ≠ 0
           (scanning → Refused c s .BUSY)
           ∧ (¬ scanning → used → Refused c s .IN_USE)
           ∧ (¬ scanning → ¬ used → Answers c s { s with folios := s.folios.erase slot } .OK [])))

/-- R63, R52, R96 and R132: VENUE PUT defines a venue, its rate clamped to 3,000 basis points; UPSTREAM SET sets the upstream state, and a
return to ONLINE raises the offline epoch, from its top to 0; JOURNAL BASE with an empty journal makes N the next charge number and N − 1
every folio's posted-through; CROSSING BASE sets the next crossing number while neither bank holds anything to number from. That 1 is yes
is the model's reading (log entry 14). -/
def Obligations.VenueUpstreamAndBases : Prop :=
  (∀ (s : State) (tag : Byte) (venue rate eligible value : Nat),
     (s.ready (.venuePut tag venue rate eligible) = true →
       let c := Instr.venuePut tag venue rate eligible
       ((64 ≤ venue ∨ 1 < eligible) → Refused c s .OUT_OF_RANGE)
       ∧ (venue < 64 → eligible ≤ 1 →
           (3000 < rate →
             Answers c s { s with venues := s.venues.set venue ⟨3000, decide (eligible = 1)⟩ } .OK_CLAMPED (u16 3000))
           ∧ (rate ≤ 3000 → Answers c s { s with venues := s.venues.set venue ⟨rate, decide (eligible = 1)⟩ } .OK (u16 rate))))
     ∧ (s.ready (.upstreamSet tag value) = true →
         let c := Instr.upstreamSet tag value
         (1 < value → Refused c s .OUT_OF_RANGE)
         ∧ (value = 1 → Answers c s { s with upstream := .OFFLINE } .OK (u8 1 ++ u32 s.epoch))
         ∧ (value = 0 → s.upstream = .ONLINE → Answers c s s .OK (u8 0 ++ u32 s.epoch))
         ∧ (value = 0 → s.upstream = .OFFLINE → s.epoch < 4294967295 →
             Answers c s { s with upstream := .ONLINE, epoch := s.epoch + 1 } .OK (u8 0 ++ u32 (s.epoch + 1)))
         ∧ (value = 0 → s.upstream = .OFFLINE → s.epoch = 4294967295 →
             Answers c s { s with upstream := .ONLINE, epoch := 0 } .OK (u8 0 ++ u32 0))))
  ∧ (∀ (s : State) (tag : Byte) (n : Nat), s.ready (.journalBase tag n) = true →
       let c := Instr.journalBase tag n
       ((n = 0 ∨ 4294967295 < n) → Refused c s .OUT_OF_RANGE)
       ∧ (1 ≤ n → n ≤ 4294967295 →
           (s.journal ≠ [] → Refused c s .WRONG_STATE)
           ∧ (s.journal = [] → 4294967296 - n < s.openHolds.length → Refused c s .FULL)
           ∧ (s.journal = [] → s.openHolds.length ≤ 4294967296 - n → 1 ≤ s.params.highWater →
               ∃ t : State, Answers c s t .OK [] ∧ Keeps [.retiredThrough, .folios] s t
                 ∧ t.nextCharge = n ∧ t.retiredThrough = n - 1
                 ∧ ∀ k, t.folios.get k = (s.folios.get k).map (fun f => { f with through := n - 1 }))))
  ∧ (∀ (s : State) (tag : Byte) (n : Nat), s.ready (.crossingBase tag n) = true →
       let c := Instr.crossingBase tag n
       ((n = 0 ∨ 4294967295 < n) → Refused c s .OUT_OF_RANGE)
       ∧ (1 ≤ n → n ≤ 4294967295 → (s.filling.records ≠ [] ∨ s.other.state ≠ .EMPTY) → Refused c s .WRONG_STATE)
       ∧ (1 ≤ n → n ≤ 4294967295 → s.filling.records = [] → s.other.state = .EMPTY →
           Answers c s { s with nextCrossing := n } .OK []))

/-- R100, R99 and R97: CHARGES RETIRE is refused during a reconcile, does nothing for a number already retired, and otherwise removes the
entries up to the number, clamped to the newest, books each into its folio when the folio still has its id and the entry is above its
posted-through, and raises JOURNAL_HIGH when the entries left stand at or above the high-water. The two bytes of the number removed are
the model's reading (log entry 13). -/
def Obligations.ChargesRetireBooks : Prop :=
  ∀ (s : State) (tag : Byte) (number : Nat), s.ready (.chargesRetire tag number) = true →
    let c := Instr.chargesRetire tag number
    (s.scanner ≠ none → Refused c s .BUSY)
    ∧ (s.scanner = none → (number ≤ s.retiredThrough ∨ s.journal = []) →
        Answers c s s .OK (u16 0 ++ u32 s.retiredThrough))
    ∧ (s.scanner = none → s.retiredThrough < number → s.journal ≠ [] →
        let n := min number s.newestCharge
        let gone := s.journal.filter (fun e => decide (e.number ≤ n))
        let left := s.journal.filter (fun e => decide (n < e.number))
        ∃ t : State,
          Answers c s t (if s.newestCharge < number then .OK_CLAMPED else .OK) (u16 gone.length ++ u32 n)
          ∧ Keeps [.journal, .retiredThrough, .folios, .latches] s t ∧ t.journal = left ∧ t.retiredThrough = n
          ∧ (∀ k f, s.folios.get k = some f → t.folios.get k = some
              ((gone.filter (fun e => decide (e.folio = k) && decide (e.folioId = f.id) && decide (f.through < e.number))).foldl
                (fun f e => { f with posted := max (-999999999999) (min 999999999999 (f.posted + e.total)),
                                     unposted := f.unposted - e.total }) f))
          ∧ (s.params.highWater ≤ left.length →
              t.latch .JOURNAL_HIGH = (s.latch .JOURNAL_HIGH).raised (.entries left.length) s.clock.time)
          ∧ (left.length < s.params.highWater → t.latches = s.latches))

/-! ## Purchases and holds (Chapters 4 and 5) -/

/-- R70 to R76 and R73: gross is price times quantity; the units given stay within those available; covered and excess make up the gross;
the gratuity is taken once, half up, on the excess of all but RETAIL lines; the total is excess plus gratuity; with no package, or at a venue
where packages do not apply, nothing is covered; and no other way to give units to the lines, within their quantities and the units available,
covers more. -/
def Obligations.PurchaseFiguresAndCoverage : Prop :=
  (∀ (pkg : Option Package) (v : Venue) (available : Nat) (lines : List PurchaseLine),
     let f := computeFigures pkg v available lines
     let priced := pricedFrom pkg v.eligible (allocate available (claimsFrom pkg v.eligible 0 lines)) 0 lines
     let base := ((priced.filter (fun l => decide (l.line.cls ≠ .RETAIL))).map (fun l => l.line.gross - l.covered)).sum
     f.gross = (lines.map (fun l => l.price * l.qty)).sum
     ∧ priced.map (·.line) = lines
     ∧ (∀ l ∈ priced, l.units ≤ l.line.qty ∧ l.covered = perUnit pkg v.eligible l.line * l.units ∧ l.covered ≤ l.line.gross)
     ∧ f.units = (priced.map (·.units)).sum ∧ f.units ≤ available
     ∧ f.covered = (priced.map (·.covered)).sum ∧ f.covered ≤ f.gross
     ∧ f.gratuity = (base * v.rate + 5000) / 10000
     ∧ f.total = f.gross - f.covered + f.gratuity
     ∧ ((pkg = none ∨ v.eligible = false) → f.covered = 0 ∧ f.units = 0))
  ∧ (∀ (pkg : Option Package) (v : Venue) (available : Nat) (lines : List PurchaseLine) (given : List Nat),
       given.length = lines.length → (∀ x ∈ lines.zip given, x.2 ≤ x.1.qty) → given.sum ≤ available →
       ((lines.zip given).map (fun x => perUnit pkg v.eligible x.1 * x.2)).sum ≤ (computeFigures pkg v available lines).covered)

/-- R66 to R69, R72 and R76 to R79: the AUTH checks in order, the first that applies giving the refusal; a TAP that passes them all is approved with
its figures, its person and folio, and the presence-conflict mark of an ASHORE person. That the bytes of a UID field
beyond its length are ignored is the model's choice (log entry 28). -/
def Obligations.AuthChecksInOrder : Prop :=
  ∀ (s : State) (v : Venue) (u : RawUid) (raw : List RawLine),
    let gives := fun (r : PurchaseRefusal) => s.authorise v u raw = .error r
    ((∃ lines, linesOf raw = some lines) ↔
      1 ≤ raw.length ∧ raw.length ≤ 8
      ∧ ∀ r ∈ raw, 1 ≤ r.cls ∧ r.cls ≤ 5 ∧ r.price ≤ 9999999 ∧ 1 ≤ r.qty ∧ r.qty ≤ 99)
    ∧ (∀ lines, linesOf raw = some lines →
        lines.map (fun l => (l.cls.ctorIdx + 1, l.price, l.qty)) = raw.map (fun r => (r.cls, r.price, r.qty)))
    ∧ (s.clock.state = .UNSET → gives .CLOCK_UNSET)
    ∧ (s.clock.state = .SET → s.lookupRaw u = none → gives .UNKNOWN_CARD)
    ∧ (∀ e, s.clock.state = .SET → s.lookupRaw u = some e →
        (e.state = .SUSPENDED → gives .SUSPENDED) ∧ (e.state = .REVOKED → gives .REVOKED)
        ∧ (∀ p, e.state = .ACTIVE → s.persons.get e.slot = some p →
            (p.ident.folio = none → gives .NO_FOLIO)
            ∧ (∀ k f, p.ident.folio = some k → s.folios.get k = some f →
                let ashore := p.presence = .ASHORE ∧ s.params.chargePolicy = .REFUSE
                let scanning := ∃ sc, s.scanner = some sc ∧ sc.slot = k ∧ sc.id = f.id
                let passes := p.ident.chargeHold = false ∧ ¬ ashore ∧ f.state = .OPEN ∧ ¬ scanning
                (p.ident.chargeHold = true → gives .PERSON_HOLD)
                ∧ (p.ident.chargeHold = false → ashore → gives .PRESENCE)
                ∧ (p.ident.chargeHold = false → ¬ ashore → f.state ≠ .OPEN → gives .FOLIO_STATE)
                ∧ (p.ident.chargeHold = false → ¬ ashore → f.state = .OPEN → scanning → gives .TRY_AGAIN)
                ∧ (passes → linesOf raw = none → gives .AMOUNT_RANGE)
                ∧ (∀ lines, passes → linesOf raw = some lines →
                    let available := match f.package with
                      | none => 0
                      | some k => k.units - (if p.unitsUsed.day = s.folioDay then p.unitsUsed.value else 0) - p.unitsReserved
                    let fig := computeFigures f.package v available lines
                    let age := (∃ l ∈ lines, l.cls = .ALCOHOLIC) ∧ p.ident.alcohol = false
                    let room := s.journal.length + s.openHolds.length < 4096 ∧ s.openHolds.length < 4294967296 - s.nextCharge
                    let cap := ∀ c, p.ident.childCap = some c →
                      (if p.childSpent.day = s.folioDay then p.childSpent.value else 0) + p.childReserved + fig.total ≤ c
                    let offline := s.upstream = .OFFLINE →
                      (if f.offlineEpoch = s.epoch then f.offlineSpent else 0) + fig.total ≤ s.params.offlineAllowance
                    let headroom := (fig.total : Int) ≤ f.limit - f.posted - f.unposted - f.held
                    (99999999 < fig.total → gives .AMOUNT_RANGE)
                    ∧ (fig.total ≤ 99999999 →
                        (age → gives .AGE)
                        ∧ (¬ age → ¬ room → gives .JOURNAL_FULL)
                        ∧ (¬ age → room → 0 < fig.total → ¬ cap → gives .CHILD_CAP)
                        ∧ (¬ age → room → 0 < fig.total → cap → ¬ offline → gives .OFFLINE_CAP)
                        ∧ (¬ age → room → 0 < fig.total → cap → offline → ¬ headroom → gives .LIMIT)
                        ∧ (¬ age → room → (fig.total = 0 ∨ (cap ∧ offline ∧ headroom)) →
                            s.authorise v u raw = .ok ⟨e.slot, p, k, f.id, fig, decide (p.presence = .ASHORE)⟩))))))

/-- R65, R80, R82 and R83: a terminal TAP that is taken: a confirming hold makes it TRY_AGAIN and stays; any other earlier hold is released first; a
refusal sends its frame and changes nothing else; an approval writes the hold on the head, reserves its amounts on folio and person, and sends
APPROVE with the figures, each frame on the reserved slot. -/
def Obligations.PurchaseTapDecided : Prop :=
  ∀ (s : State) (e : Entry) (rest : List Entry) (u : RawUid) (tag : Nat) (raw : List RawLine) (hd : Head),
    e.event = .purchaseTap u tag raw → s.takeable .VENUE_TERMINAL e rest → s.intakeWaits = false →
    s.head? e.head = some hd → 0 < (s.line e.head.line).reserved →
    let framed := fun (d : PurchaseDecision) =>
      { s.line e.head.line with
        queue := (s.line e.head.line).queue ++ [⟨e.head.address, .purchase tag d⟩],
        reserved := (s.line e.head.line).reserved - 1 }
    let sent := fun (d : PurchaseDecision) =>
      { s with purchaseIn := ⟨rest, s.purchaseIn.reserved⟩, lines := s.lines.set e.head.line (framed d) : State }
    let verdict := s.authorise (s.venueOf hd.bound) u raw
    (∀ h, hd.hold = some h → h.confirming = true → Gives .purchaseTap s (sent (.REFUSE .TRY_AGAIN)))
    ∧ (∀ h, hd.hold = some h → h.confirming = false →
        exec .purchaseTap s = exec .purchaseTap (s.releaseHold e.head h))
    ∧ (∀ r, hd.hold = none → verdict = .error r → Gives .purchaseTap s (sent (.REFUSE r)))
    ∧ (∀ a, hd.hold = none → verdict = .ok a →
        let h : Hold :=
          { tag := tag, slot := a.slot, personId := a.person.ident.id, folio := a.folio, folioId := a.folioId, venue := hd.bound,
            gross := a.figures.gross, covered := a.figures.covered, gratuity := a.figures.gratuity, total := a.figures.total,
            units := a.figures.units, child := if a.person.ident.childCap.isSome then a.figures.total else 0,
            offline := if s.upstream = .OFFLINE then some (a.figures.total, s.epoch) else none, day := s.folioDay,
            time := s.clock.time, conflict := a.conflict, confirming := false,
            timer := ⟨s.elapsed, 1000 * s.params.holdTimeout⟩ }
        ∃ t : State, Gives .purchaseTap s t
          ∧ Keeps [.purchaseIn, .lines, .heads, .folios, .persons, .latches] s t
          ∧ t.purchaseIn = ⟨rest, s.purchaseIn.reserved⟩
          ∧ t.lines = s.lines.set e.head.line
              (framed (.APPROVE a.figures.gross a.figures.covered a.figures.gratuity a.figures.total))
          ∧ t.head? e.head = some { hd with hold := some h } ∧ (∀ other, other ≠ e.head → t.head? other = s.head? other)
          ∧ (∀ k, k ≠ a.folio → t.folios.get k = s.folios.get k)
          ∧ (∀ f, s.folios.get a.folio = some f → ∃ f', t.folios.get a.folio = some f'
              ∧ f'.held = f.held + a.figures.total ∧ f'.posted = f.posted ∧ f'.unposted = f.unposted ∧ f'.limit = f.limit
              ∧ (s.upstream = .ONLINE → f'.offlineSpent = f.offlineSpent ∧ f'.offlineEpoch = f.offlineEpoch)
              ∧ (s.upstream = .OFFLINE → f'.offlineEpoch = s.epoch
                  ∧ f'.offlineSpent = (if f.offlineEpoch = s.epoch then f.offlineSpent else 0) + a.figures.total))
          ∧ (∀ k, k ≠ a.slot → t.persons.get k = s.persons.get k)
          ∧ (∀ p, s.persons.get a.slot = some p → t.persons.get a.slot = some
              { p with unitsReserved := p.unitsReserved + a.figures.units,
                       childReserved := p.childReserved + if a.person.ident.childCap.isSome then a.figures.total else 0 })
          ∧ (a.conflict = true →
              t.latch .PRESENCE_CONFLICT = (s.latch .PRESENCE_CONFLICT).raised (.person a.slot) s.clock.time)
          ∧ (a.conflict = false → t.latches = s.latches))

/-- R85 and R88: a release gives back the folio's held total, the person's reserved units and child amount, and the offline amount when
its epoch is both the present one and the folio's, and takes the hold off its head, with no other change; when a hold's timer runs out a
hold that is not confirming is released so, and a confirming one stays. A timer's command is the moment the timer runs out (the model's
choice, log entry 3), and a command whose trigger is absent changes nothing (the model's choice, log entry 8). -/
def Obligations.HoldsReleased : Prop :=
  (∀ (s : State) (id : HeadId) (h : Hold) (hd : Head), s.head? id = some hd →
     let t := s.releaseHold id h
     Keeps [.folios, .persons, .heads] s t
     ∧ t.head? id = some { hd with hold := none } ∧ (∀ other, other ≠ id → t.head? other = s.head? other)
     ∧ (∀ k, k ≠ h.folio → t.folios.get k = s.folios.get k)
     ∧ (∀ f, s.folios.get h.folio = some f →
         (∀ n, h.offline = some (n, s.epoch) → f.offlineEpoch = s.epoch →
           t.folios.get h.folio = some { f with held := f.held - h.total, offlineSpent := f.offlineSpent - n })
         ∧ ((∀ n, h.offline = some (n, s.epoch) → f.offlineEpoch ≠ s.epoch) →
             t.folios.get h.folio = some { f with held := f.held - h.total }))
     ∧ (∀ k, k ≠ h.slot → t.persons.get k = s.persons.get k)
     ∧ (∀ p, s.persons.get h.slot = some p → t.persons.get h.slot = some
         { p with unitsReserved := p.unitsReserved - h.units, childReserved := p.childReserved - h.child }))
  ∧ (∀ (s : State) (line address : Nat),
       let id : HeadId := ⟨line, address⟩
       (s.holdAt id = none → Gives (.holdExpiry line address) s s)
       ∧ (∀ h, s.holdAt id = some h →
           let late := s.passTime (h.timer.duration - s.since h.timer.start)
           (h.confirming = false → Gives (.holdExpiry line address) s (late.releaseHold id h))
           ∧ (h.confirming = true → Gives (.holdExpiry line address) s late)))

/-- R87: a VOID that is taken releases the terminal's open hold of its tag when it is not confirming, and otherwise has no effect; it takes no
decision frame. -/
def Obligations.VoidReleasesItsHold : Prop :=
  ∀ (s : State) (e : Entry) (rest : List Entry) (tag : Nat) (hd : Head), e.event = .void tag →
    s.takeable .VENUE_TERMINAL e rest → s.intakeWaits = false → s.head? e.head = some hd →
    let emptied : State := { s with purchaseIn := ⟨rest, s.purchaseIn.reserved⟩ }
    (∀ h, hd.hold = some h → h.tag = tag → h.confirming = false → Gives .void s (emptied.releaseHold e.head h))
    ∧ (∀ h, hd.hold = some h → h.tag = tag → h.confirming = true → Gives .void s emptied)
    ∧ ((∀ h, hd.hold = some h → h.tag ≠ tag) → Gives .void s emptied)

/-- R90 to R92: a CONFIRM that is taken: LATE without its hold; dropped while its hold is confirming; deferred, or waited at when sixteen wait,
while its folio is under reconcile; otherwise applied, with the next charge number in its entry and its CONFIRMED frame. -/
def Obligations.ConfirmByCase : Prop :=
  ∀ (s : State) (e : Entry) (rest : List Entry) (tag : Nat) (hd : Head), e.event = .confirm tag → e.held = true →
    s.takeable .VENUE_TERMINAL e rest → s.intakeWaits = false → s.head? e.head = some hd → 0 < (s.line e.head.line).reserved →
    let ln := s.line e.head.line
    let emptied : State := { s with purchaseIn := ⟨rest, s.purchaseIn.reserved⟩ }
    let framed := fun (d : PurchaseDecision) =>
      { ln with queue := ln.queue ++ [⟨e.head.address, .purchase tag d⟩], reserved := ln.reserved - 1 }
    let givenBack := { ln with reserved := ln.reserved - 1 }
    ((∀ h, hd.hold = some h → h.tag ≠ tag) →
      Gives .confirm s { emptied with lines := s.lines.set e.head.line (framed .LATE) })
    ∧ (∀ h, hd.hold = some h → h.tag = tag →
        let scanning := ∃ sc, s.scanner = some sc ∧ sc.slot = h.folio ∧ sc.id = h.folioId
        (h.confirming = true → Gives .confirm s { emptied with lines := s.lines.set e.head.line givenBack })
        ∧ (h.confirming = false → scanning → s.deferred.length < 16 →
            Gives .confirm s
              { emptied with
                lines := s.lines.set e.head.line givenBack,
                heads := s.heads.set e.head.key { hd with hold := some { h with confirming := true } },
                deferred := s.deferred ++ [⟨e.head, tag, none⟩] })
        ∧ (h.confirming = false → scanning → 16 ≤ s.deferred.length → Gives .confirm s { s with intakeWaits := true })
        ∧ (h.confirming = false → ¬ scanning →
            ∃ t : State, Gives .confirm s t
              ∧ Keeps [.purchaseIn, .lines, .heads, .folios, .persons, .journal, .latches] s t
              ∧ t.purchaseIn = ⟨rest, s.purchaseIn.reserved⟩
              ∧ t.lines = s.lines.set e.head.line (framed (.CONFIRMED s.nextCharge))
              ∧ t.head? e.head = some { hd with hold := none } ∧ t.journal = (emptied.applyConfirm h).journal
              ∧ t.folios = (emptied.applyConfirm h).folios ∧ t.persons = (emptied.applyConfirm h).persons
              ∧ t.latches = (emptied.applyConfirm h).latches))

/-- R91 and R97: applying a CONFIRM appends the entry of the hold under the next number, moves its total from held to unposted, moves its units and
child amount into today's counters when the folio day is still the hold's and only gives them back when it is not, and evaluates the journal
level. That the entry holds the child amount, as R91 says and R94's table does not, is the model's reading (log entry 29). -/
def Obligations.ConfirmApplied : Prop :=
  ∀ (s : State) (h : Hold) (f : Folio) (p : Person), s.folios.get h.folio = some f → s.persons.get h.slot = some p →
    let t := s.applyConfirm h
    let today := fun (c : DayCounter) => if c.day = s.folioDay then c.value else 0
    Keeps [.journal, .folios, .persons, .latches] s t
    ∧ t.journal = s.journal ++
        [⟨s.nextCharge, s.clock.time, h.folio, h.folioId, h.slot, h.personId, h.venue, h.gross, h.covered, h.gratuity, h.total,
          h.units, h.child, h.offline.isSome, h.conflict, decide (s.folioDay ≠ h.day)⟩]
    ∧ t.nextCharge = s.nextCharge + 1
    ∧ t.folios = s.folios.set h.folio { f with held := f.held - h.total, unposted := f.unposted + h.total }
    ∧ (s.folioDay = h.day → t.persons = s.persons.set h.slot
        { p with unitsReserved := p.unitsReserved - h.units, childReserved := p.childReserved - h.child,
                 unitsUsed := ⟨today p.unitsUsed + h.units, s.folioDay⟩,
                 childSpent := ⟨today p.childSpent + h.child, s.folioDay⟩ })
    ∧ (s.folioDay ≠ h.day → t.persons = s.persons.set h.slot
        { p with unitsReserved := p.unitsReserved - h.units, childReserved := p.childReserved - h.child })
    ∧ (s.params.highWater ≤ s.journal.length + 1 →
        t.latch .JOURNAL_HIGH = (s.latch .JOURNAL_HIGH).raised (.entries (s.journal.length + 1)) s.clock.time)
    ∧ (s.journal.length + 1 < s.params.highWater → t.latches = s.latches)

/-! ## Lanes (Chapter 6) -/

/-- R105, R107 and R108: LANE PUT on a CLOSED lane sets direction and mode and clears the counters; LANE OPEN, LANE HOLD and LANE RELEASE by
their tables; LANE CLOSE commits an AWAIT_NEXT crossing BY_CLOSE, abandons one in another stage without a notice, and leaves the lane CLOSED with
no hold reasons. Each OK reply of the last four carries the state and the hold reasons after the request. -/
def Obligations.LaneRequestsByTable : Prop :=
  (∀ (s : State) (tag : Byte) (n direction mode : Nat),
     let la := s.lane n
     let into := fun (x : Lane) => { s with lanes := s.lanes.set n x : State }
     (s.ready (.lanePut tag n direction mode) = true →
       let c := Instr.lanePut tag n direction mode
       ((8 ≤ n ∨ 1 < direction ∨ 1 < mode) → Refused c s .OUT_OF_RANGE)
       ∧ (n < 8 → direction ≤ 1 → mode ≤ 1 → la.state ≠ .CLOSED → Refused c s .WRONG_STATE)
       ∧ (n < 8 → direction ≤ 1 → mode ≤ 1 → la.state = .CLOSED →
           Answers c s (into { la with direction := if direction = 0 then .INBOUND else .OUTBOUND,
                                       mode := if mode = 0 then .ON_PASS else .ON_NEXT,
                                       committed := 0, refused := 0, abandoned := 0, tailgates := 0 }) .OK []))
     ∧ (s.ready (.laneOpen tag n) = true →
         let c := Instr.laneOpen tag n
         (8 ≤ n → Refused c s .OUT_OF_RANGE)
         ∧ (n < 8 → la.state = .CLOSED → (∀ h, la.head = some h → s.online h = false) → Refused c s .WRONG_STATE)
         ∧ (∀ h, n < 8 → la.state = .CLOSED → la.head = some h → s.online h = true →
             Answers c s (into { la with state := .OPEN }) .OK (u8 1 ++ encFlags la.holdHost la.holdBank))
         ∧ (n < 8 → la.state ≠ .CLOSED → Answers c s s .OK (u8 la.state.ctorIdx ++ encFlags la.holdHost la.holdBank)))
     ∧ (s.ready (.laneHold tag n) = true →
         let c := Instr.laneHold tag n
         (8 ≤ n → Refused c s .OUT_OF_RANGE)
         ∧ (n < 8 → la.state = .CLOSED → Refused c s .WRONG_STATE)
         ∧ (n < 8 → la.state ≠ .CLOSED →
             Answers c s (into { la with holdHost := true, state := .HELD }) .OK (u8 2 ++ encFlags true la.holdBank)))
     ∧ (s.ready (.laneRelease tag n) = true →
         let c := Instr.laneRelease tag n
         (8 ≤ n → Refused c s .OUT_OF_RANGE)
         ∧ (n < 8 → la.state = .CLOSED → Refused c s .WRONG_STATE)
         ∧ (n < 8 → la.state = .OPEN → Answers c s s .OK (u8 1 ++ encFlags la.holdHost la.holdBank))
         ∧ (n < 8 → la.state = .HELD → la.holdBank = true →
             Answers c s (into { la with holdHost := false, state := .HELD }) .OK (u8 2 ++ encFlags false true))
         ∧ (n < 8 → la.state = .HELD → la.holdBank = false →
             Answers c s (into { la with holdHost := false, state := .OPEN }) .OK (u8 1 ++ encFlags false false))))
  ∧ (∀ (s : State) (tag : Byte) (n : Nat), s.ready (.laneClose tag n) = true →
       let c := Instr.laneClose tag n
       let la := s.lane n
       let closed := fun (x : Lane) => { x with state := .CLOSED, holdHost := false, holdBank := false, pending := none }
       (8 ≤ n → Refused c s .OUT_OF_RANGE)
       ∧ (n < 8 → la.state = .CLOSED → Answers c s s .OK (u8 0 ++ encFlags la.holdHost la.holdBank))
       ∧ (n < 8 → la.state ≠ .CLOSED →
           (la.pending = none → Answers c s { s with lanes := s.lanes.set n (closed la) } .OK [0x00#8, 0x00#8])
           ∧ (∀ pc, la.pending = some pc → pc.stage ≠ .AWAIT_NEXT →
               Answers c s
                 { s with lanes := s.lanes.set n { closed la with abandoned := min (la.abandoned + 1) 4294967295 } } .OK
                 [0x00#8, 0x00#8])
           ∧ (∀ pc, la.pending = some pc → pc.stage = .AWAIT_NEXT →
               let committed := s.commitCrossing n pc .BY_CLOSE
               Answers c s { committed with lanes := committed.lanes.set n (closed (committed.lane n)) } .OK
                 [0x00#8, 0x00#8])))

/-- R122, R27, R28, R128 and R137: a commit sets the person's presence by the lane's direction and the last crossing time, hands the change to the census,
the Missing List and the person's cabins, whose aboard counts follow with what a count fallen to 0 brings (privacy lapse and indicator work),
appends the record to the FILLING bank, ends the crossing, counts it, and swaps the banks when a swap is due. -/
def Obligations.CommitRecordsCrossing : Prop :=
  ∀ (s : State) (n : Nat) (pc : Pending) (cause : Cause) (p : Person), s.persons.get pc.slot = some p →
    let t := s.commitCrossing n pc cause
    let la := s.lane n
    let after : Presence := match la.direction with | .INBOUND => .ABOARD | .OUTBOUND => .ASHORE
    let b := s.fillingNumber
    let ended := { la with pending := none, committed := min (la.committed + 1) 4294967295 }
    let bankless := fun (x : Lane) =>
      { x with holdBank := false, state := if x.state = .HELD ∧ x.holdHost = false then .OPEN else x.state }
    Keeps [.persons, .census, .sweeper, .cabins, .lines, .lanes, .bank0, .bank1, .nextCrossing, .latches] s t
    ∧ t.persons = s.persons.set pc.slot { p with presence := after, lastCrossing := some s.clock.time }
    ∧ t.census = s.census.handed (some ⟨p.ident.category, p.presence, p.ident.excused⟩)
        (some ⟨p.ident.category, after, p.ident.excused⟩)
    ∧ t.sweeper = s.sweeper.listed pc.slot (isMissing p.ident.category p.presence p.ident.excused)
        (isMissing p.ident.category after p.ident.excused)
    ∧ (s.cabins.wf = true →
        let moved := s.cabinsChanged (Cabin.recounted p.presence after) p.ident.cabins
        t.cabins = moved.cabins ∧ t.lines = moved.lines)
    ∧ (t.bank b).records = (s.bank b).records ++
        [⟨s.nextCrossing, s.clock.time, pc.slot, p.ident.id, some n, la.direction, p.presence, after, pc.mismatch, pc.mismatch,
          cause⟩]
    ∧ t.nextCrossing = (if s.nextCrossing = 4294967295 then 1 else s.nextCrossing + 1)
    ∧ (t.lane n).pending = none ∧ (t.lane n).committed = min (la.committed + 1) 4294967295
    ∧ (∀ m, m ≠ n → (t.lane m).pending = (s.lane m).pending ∧ (t.lane m).committed = (s.lane m).committed)
    ∧ (let due := s.params.bankThreshold < (s.bank b).records.length + 1 ∧ (s.bank (1 - b)).state = .EMPTY
       (due → (t.bank b).state = .READABLE ∧ t.bank (1 - b) = ⟨.FILLING, []⟩ ∧ (∀ m, (t.lane m).holdBank = false)
          ∧ (∀ m, t.lane m = bankless (if m = n then ended else s.lane m))
          ∧ t.latch .BANK_READY = (s.latch .BANK_READY).raised (.bank b) s.clock.time)
       ∧ (¬ due → (t.bank b).state = (s.bank b).state ∧ t.bank (1 - b) = s.bank (1 - b) ∧ t.latches = s.latches
          ∧ ∀ m, t.lane m = if m = n then ended else s.lane m))

/-- R113 to R115: the refusals of a lane TAP by the steps of its order, each raising the lane's refused counter and answered on the reserved
slot; a tap of the person whose crossing stands on the lane repeats its answer; a waiting AWAIT_NEXT crossing of another is committed first; a tap
that finds room creates a pending crossing by match or mismatch; one that does not adds BANK to every open lane and is refused LANE_HELD.
That the bytes of a UID field beyond its length are ignored is the model's choice (log entry 28). -/
def Obligations.LaneTapDecided : Prop :=
  (∀ (s : State) (e : Entry) (rest : List Entry) (u : RawUid) (tag : Nat) (hd : Head), e.event = .laneTap u tag →
     s.takeable .GANGWAY_LANE e rest → s.head? e.head = some hd → 0 < (s.line e.head.line).reserved →
     let n := hd.bound
     let la := s.lane n
     let ln := s.line e.head.line
     let refused := fun (r : LaneRefusal) =>
       { s with
         laneIn := ⟨rest, s.laneIn.reserved⟩,
         lanes := s.lanes.set n { la with refused := min (la.refused + 1) 4294967295 },
         lines := s.lines.set e.head.line
           { ln with queue := ln.queue ++ [⟨e.head.address, .lane tag (.REFUSE r)⟩], reserved := ln.reserved - 1 } : State }
     (s.clock.state = .UNSET → Gives .laneTap s (refused .CLOCK_UNSET))
     ∧ (s.clock.state = .SET → la.state = .CLOSED → Gives .laneTap s (refused .LANE_CLOSED))
     ∧ (s.clock.state = .SET → la.state = .HELD → Gives .laneTap s (refused .LANE_HELD))
     ∧ (s.clock.state = .SET → la.state = .OPEN →
         (s.lookupRaw u = none → Gives .laneTap s (refused .UNKNOWN_CARD))
         ∧ (∀ card, s.lookupRaw u = some card →
             (card.state = .SUSPENDED → Gives .laneTap s (refused .SUSPENDED))
             ∧ (card.state = .REVOKED → Gives .laneTap s (refused .REVOKED))
             ∧ (∀ p, card.state = .ACTIVE → s.persons.get card.slot = some p →
                 (p.ident.gangwayHold = true →
                   Gives .laneTap s ((refused .HOLD).raise .PRESENCE_CONFLICT (.person card.slot)))
                 ∧ (p.ident.gangwayHold = false → (∀ pc, la.pending = some pc → pc.slot ≠ card.slot) →
                     (s.crossingNames card.slot = true → Gives .laneTap s (refused .IN_PROGRESS))
                     ∧ (∀ pc, s.crossingNames card.slot = false → la.pending = some pc → pc.stage ≠ .AWAIT_NEXT →
                         Gives .laneTap s (refused .LANE_BUSY)))))))
  ∧ (∀ (s : State) (e : Entry) (rest : List Entry) (u : RawUid) (tag : Nat) (hd : Head) (card : CardEntry) (p : Person),
       e.event = .laneTap u tag → s.takeable .GANGWAY_LANE e rest → s.head? e.head = some hd →
       0 < (s.line e.head.line).reserved → s.clock.state = .SET → (s.lane hd.bound).state = .OPEN →
       s.lookupRaw u = some card → card.state = .ACTIVE → s.persons.get card.slot = some p → p.ident.gangwayHold = false →
       let n := hd.bound
       let la := s.lane n
       let ln := s.line e.head.line
       let framed := fun (d : LaneDecision) => s.lines.set e.head.line
         { ln with queue := ln.queue ++ [⟨e.head.address, .lane tag d⟩], reserved := ln.reserved - 1 }
       let emptied : State := { s with laneIn := ⟨rest, s.laneIn.reserved⟩ }
       let room := s.filling.records.length + s.pendings.length < s.roomLimit
       let isMatch := match la.direction with
         | .INBOUND => p.presence ≠ .ABOARD
         | .OUTBOUND => p.presence = .ABOARD
       (∀ pc, la.pending = some pc → pc.slot = card.slot →
         (pc.stage = .AWAIT_OFFICER → Gives .laneTap s { emptied with lines := framed .AWAIT_OFFICER })
         ∧ (pc.stage ≠ .AWAIT_OFFICER → Gives .laneTap s { emptied with lines := framed (.PASS la.direction) }))
       ∧ (∀ pc, la.pending = some pc → pc.slot ≠ card.slot → s.crossingNames card.slot = false → pc.stage = .AWAIT_NEXT →
           s.persons.get pc.slot ≠ none → exec .laneTap s = exec .laneTap (s.commitCrossing n pc .BY_NEXT))
       ∧ (la.pending = none → s.crossingNames card.slot = false → room →
           (isMatch →
             Gives .laneTap s
               { emptied with
                 lanes := s.lanes.set n
                   { la with pending := some ⟨card.slot, tag, s.clock.time,
                       if la.mode = .ON_PASS then .AWAIT_PASS else .AWAIT_NEXT, false,
                       ⟨s.elapsed, 1000 * s.params.pendingTimeout⟩⟩ },
                 lines := framed (.PASS la.direction) })
           ∧ (¬ isMatch →
               Gives .laneTap s
                 { emptied with
                   lanes := s.lanes.set n
                     { la with pending := some ⟨card.slot, tag, s.clock.time, .AWAIT_OFFICER, true,
                         ⟨s.elapsed, 1000 * s.params.officerWait⟩⟩ },
                   lines := framed .AWAIT_OFFICER }))
       ∧ (la.pending = none → s.crossingNames card.slot = false → ¬ room →
           ∃ t : State, Gives .laneTap s t ∧ Keeps [.laneIn, .lanes, .lines, .latches] s t
             ∧ t.laneIn = ⟨rest, s.laneIn.reserved⟩ ∧ t.lines = framed (.REFUSE .LANE_HELD)
             ∧ t.latch .BANK_HOLD = (s.latch .BANK_HOLD).raised (.lane n) s.clock.time
             ∧ t.lane n = { la with state := .HELD, holdBank := true, refused := min (la.refused + 1) 4294967295 }
             ∧ (∀ m, m ≠ n → (s.lane m).state = .CLOSED → t.lane m = s.lane m)
             ∧ (∀ m, m ≠ n → (s.lane m).state ≠ .CLOSED →
                 t.lane m = { s.lane m with state := .HELD, holdBank := true })))

/-- R119 and R116: a PASSED that is taken commits an AWAIT_PASS crossing BY_PASS and counts a tailgate, with its notice, in every other case; an
OFFICER_ACCEPT moves an AWAIT_OFFICER crossing to its waiting stage under a new pending timer and does nothing else. -/
def Obligations.PassedAndOfficerAccept : Prop :=
  ∀ (s : State) (e : Entry) (rest : List Entry) (hd : Head), s.takeable .GANGWAY_LANE e rest → s.head? e.head = some hd →
    let n := hd.bound
    let la := s.lane n
    let emptied : State := { s with laneIn := ⟨rest, s.laneIn.reserved⟩ }
    (e.event = .passed →
      (∀ pc, la.pending = some pc → pc.stage = .AWAIT_PASS → Gives .passed s (emptied.commitCrossing n pc .BY_PASS))
      ∧ ((∀ pc, la.pending = some pc → pc.stage ≠ .AWAIT_PASS) →
          Gives .passed s
            (({ emptied with lanes := s.lanes.set n { la with tailgates := min (la.tailgates + 1) 4294967295 } } : State).raise
              .TAILGATE (.lane n))))
    ∧ (e.event = .officerAccept →
        (∀ pc, la.pending = some pc → pc.stage = .AWAIT_OFFICER →
          Gives .officerAccept s
            { emptied with
              lanes := s.lanes.set n
                { la with
                  pending :=
                    some { pc with
                      stage := if la.mode = .ON_PASS then .AWAIT_PASS else .AWAIT_NEXT
                      timer := ⟨s.elapsed, 1000 * s.params.pendingTimeout⟩ } } })
        ∧ ((∀ pc, la.pending = some pc → pc.stage ≠ .AWAIT_OFFICER) → Gives .officerAccept s emptied))

/-- R117: an OFFICER_REJECT that is taken abandons the lane's pending crossing in any stage, with no notice, and has no effect when there is
none. -/
def Obligations.OfficerRejectAbandons : Prop :=
  ∀ (s : State) (e : Entry) (rest : List Entry) (hd : Head), s.takeable .GANGWAY_LANE e rest → s.head? e.head = some hd →
    e.event = .officerReject →
    let la := s.lane hd.bound
    let emptied : State := { s with laneIn := ⟨rest, s.laneIn.reserved⟩ }
    (la.pending ≠ none →
      Gives .officerReject s
        { emptied with
          lanes := s.lanes.set hd.bound { la with pending := none, abandoned := min (la.abandoned + 1) 4294967295 } })
    ∧ (la.pending = none → Gives .officerReject s emptied)

/-- R118: the pending timer of a lane abandons an AWAIT_PASS crossing and commits an AWAIT_NEXT one BY_TIMEOUT; the officer timer abandons
an AWAIT_OFFICER crossing; neither raises a notice of its own; a lane without such a crossing is left as it is. A timer's command is the
moment the timer runs out (the model's choice, log entry 3), and a command whose trigger is absent changes nothing (the model's choice,
log entry 8). -/
def Obligations.CrossingTimersExpire : Prop :=
  ∀ (s : State) (n : Nat),
    let la := s.lane n
    let late := fun (pc : Pending) => s.passTime (pc.timer.duration - s.since pc.timer.start)
    let abandoned := fun (pc : Pending) =>
      { late pc with
        lanes := s.lanes.set n { la with pending := none, abandoned := min (la.abandoned + 1) 4294967295 } : State }
    (∀ pc, la.pending = some pc →
      (pc.stage = .AWAIT_PASS → Gives (.pendingTimeout n) s (abandoned pc) ∧ Gives (.officerWaitExpiry n) s s)
      ∧ (pc.stage = .AWAIT_NEXT →
          Gives (.pendingTimeout n) s ((late pc).commitCrossing n pc .BY_TIMEOUT) ∧ Gives (.officerWaitExpiry n) s s)
      ∧ (pc.stage = .AWAIT_OFFICER → Gives (.officerWaitExpiry n) s (abandoned pc) ∧ Gives (.pendingTimeout n) s s))
    ∧ (la.pending = none → Gives (.pendingTimeout n) s s ∧ Gives (.officerWaitExpiry n) s s)

/-! ## Banks, census and sweeper (Chapter 7) -/

/-- R128, R129 and R131: a swap makes the FILLING bank READABLE with its records and the other FILLING and empty, takes BANK off every lane, and
raises BANK_READY; BANK FLUSH makes one whatever the threshold; BANK RELEASE empties the READABLE bank it names, swaps when a swap is then due,
and takes BANK off every lane. -/
def Obligations.BankFlushAndRelease : Prop :=
  ∀ (s : State) (tag : Byte) (number : Nat),
    let b := s.fillingNumber
    let bankless := fun (la : Lane) =>
      { la with holdBank := false, state := if la.state = .HELD ∧ la.holdHost = false then .OPEN else la.state }
    (let t := s.swapBanks
     Keeps [.bank0, .bank1, .lanes, .latches] s t ∧ t.bank b = ⟨.READABLE, (s.bank b).records⟩
     ∧ t.bank (1 - b) = ⟨.FILLING, []⟩ ∧ (∀ n, t.lane n = bankless (s.lane n))
     ∧ t.latch .BANK_READY = (s.latch .BANK_READY).raised (.bank b) s.clock.time)
    ∧ (s.ready (.bankFlush tag) = true →
        let c := Instr.bankFlush tag
        ((s.bank b).records = [] → Refused c s .WRONG_STATE)
        ∧ ((s.bank b).records ≠ [] → (s.bank (1 - b)).state = .READABLE → Refused c s .BUSY)
        ∧ ((s.bank b).records ≠ [] → (s.bank (1 - b)).state ≠ .READABLE →
            Answers c s s.swapBanks .OK (encBank s.swapBanks.bank0 ++ encBank s.swapBanks.bank1)))
    ∧ (s.ready (.bankRelease tag number) = true →
        let c := Instr.bankRelease tag number
        (1 < number → Refused c s .OUT_OF_RANGE)
        ∧ (number ≤ 1 → (s.bank number).state ≠ .READABLE → Refused c s .WRONG_STATE)
        ∧ (number ≤ 1 → (s.bank number).state = .READABLE → (s.bank (1 - number)).state = .FILLING →
            let emptied := s.setBank number ⟨.EMPTY, []⟩
            (s.params.bankThreshold < (s.bank (1 - number)).records.length →
              Answers c s emptied.swapBanks .OK (encBank emptied.swapBanks.bank0 ++ encBank emptied.swapBanks.bank1))
            ∧ ((s.bank (1 - number)).records.length ≤ s.params.bankThreshold →
                Answers c s { emptied with lanes := s.lanes.map (fun _ la => bankless la) } .OK
                  (encBank emptied.bank0 ++ encBank emptied.bank1))))

/-- R135, R27, R28, R128 and R137: PRESENCE SET by its checks in order; an accepted one sets presence and last crossing time, hands the change
to the census, the Missing List and the person's cabins, whose aboard counts follow with what a count fallen to 0 brings (privacy lapse and
indicator work), appends a MANUAL record under the number its reply carries, and swaps the banks when a swap is then due. -/
def Obligations.PresenceSetCommits : Prop :=
  ∀ (s : State) (tag : Byte) (slot presence : Nat), s.ready (.presenceSet tag slot presence) = true →
    let c := Instr.presenceSet tag slot presence
    let after : Presence := if presence = 1 then .ABOARD else .ASHORE
    let room := s.filling.records.length + s.pendings.length < s.roomLimit
    let b := s.fillingNumber
    let bankless := fun (x : Lane) =>
      { x with holdBank := false, state := if x.state = .HELD ∧ x.holdHost = false then .OPEN else x.state }
    ((8192 ≤ slot ∨ presence = 0 ∨ 2 < presence) → Refused c s .OUT_OF_RANGE)
    ∧ (slot < 8192 → 1 ≤ presence → presence ≤ 2 →
        (s.persons.get slot = none → Refused c s .NOT_FOUND)
        ∧ (s.persons.get slot ≠ none → s.crossingNames slot = true → Refused c s .IN_USE)
        ∧ (s.persons.get slot ≠ none → s.crossingNames slot = false → ¬ room → Refused c s .FULL)
        ∧ (∀ p, s.persons.get slot = some p → s.crossingNames slot = false → room →
            ∃ t : State, Answers c s t .OK (u32 s.nextCrossing)
              ∧ Keeps [.persons, .census, .sweeper, .cabins, .lines, .lanes, .bank0, .bank1, .nextCrossing, .latches] s t
              ∧ t.persons = s.persons.set slot { p with presence := after, lastCrossing := some s.clock.time }
              ∧ t.census = s.census.handed (some ⟨p.ident.category, p.presence, p.ident.excused⟩)
                  (some ⟨p.ident.category, after, p.ident.excused⟩)
              ∧ t.sweeper = s.sweeper.listed slot (isMissing p.ident.category p.presence p.ident.excused)
                  (isMissing p.ident.category after p.ident.excused)
              ∧ (s.cabins.wf = true →
                  let moved := s.cabinsChanged (Cabin.recounted p.presence after) p.ident.cabins
                  t.cabins = moved.cabins ∧ t.lines = moved.lines)
              ∧ (t.bank b).records = (s.bank b).records ++
                  [⟨s.nextCrossing, s.clock.time, slot, p.ident.id, none, if presence = 1 then .INBOUND else .OUTBOUND, p.presence,
                    after, false, false, .MANUAL⟩]
              ∧ t.nextCrossing = (if s.nextCrossing = 4294967295 then 1 else s.nextCrossing + 1)
              ∧ (∀ n, (t.lane n).pending = (s.lane n).pending ∧ (t.lane n).committed = (s.lane n).committed)
              ∧ (let due := s.params.bankThreshold < (s.bank b).records.length + 1 ∧ (s.bank (1 - b)).state = .EMPTY
                 (due → (t.bank b).state = .READABLE ∧ t.bank (1 - b) = ⟨.FILLING, []⟩ ∧ (∀ n, t.lane n = bankless (s.lane n))
                    ∧ t.latch .BANK_READY = (s.latch .BANK_READY).raised (.bank b) s.clock.time)
                 ∧ (¬ due → (t.bank b).state = (s.bank b).state ∧ t.bank (1 - b) = s.bank (1 - b) ∧ t.lanes = s.lanes
                    ∧ t.latches = s.latches))))

/-- R138 and R139: ALLABOARD START is refused BUSY during a sweep, and otherwise empties the Missing List and starts the sweeper; one step
appends the slot at the cursor when its person is missing, under the overflow rule, and moves the cursor on; the step that reaches 8,192
makes the sweeper DONE and raises ALL_ABOARD_DONE with its counts; a sweeper that is not SWEEPING stays as it is. That a step of a sweeper
which is not SWEEPING changes nothing is the model's choice (log entry 8). -/
def Obligations.SweepExaminesEverySlot : Prop :=
  (∀ (s : State) (tag : Byte), s.ready (.allaboardStart tag) = true →
     (s.sweeper.state = .SWEEPING → Refused (.allaboardStart tag) s .BUSY)
     ∧ (s.sweeper.state ≠ .SWEEPING →
         Answers (.allaboardStart tag) s { s with sweeper := ⟨.SWEEPING, 0, [], false⟩ } .ACCEPTED []))
  ∧ (∀ s : State,
       (s.sweeper.state ≠ .SWEEPING → Gives .sweepStep s s)
       ∧ (s.sweeper.state = .SWEEPING →
           let w := s.sweeper
           let missing := ∃ p, s.persons.get w.cursor = some p ∧ p.ident.category ≠ .VISITOR ∧ p.presence = .ASHORE
             ∧ p.ident.excused = false
           let examined := fun (list : List Nat) (overflow : Bool) =>
             (w.cursor + 1 < 8192 → Gives .sweepStep s { s with sweeper := ⟨.SWEEPING, w.cursor + 1, list, overflow⟩ })
             ∧ (8192 ≤ w.cursor + 1 →
                 Gives .sweepStep s
                   (({ s with sweeper := ⟨.DONE, w.cursor + 1, list, overflow⟩ } : State).raise .ALL_ABOARD_DONE
                     (.allAboard s.census.missing s.census.visitorsAboard list.length overflow)))
           (missing → w.missing.length < 256 → examined (w.missing ++ [w.cursor]) w.overflow)
           ∧ (missing → 256 ≤ w.missing.length → examined w.missing true)
           ∧ (¬ missing → examined w.missing w.overflow)))

/-! ## Reader lines (Chapter 8) -/

/-- R143 and R144: LINE START makes a DOWN line RUNNING with the values of R142 and sets its heads PROBING; LINE STOP makes a RUNNING line DOWN
with nothing queued, reserved, pushed or in flight and its counters kept and sets its heads IDLE with what each had in hand ended, those that were
ONLINE leaving it one after the other; each that was FAULTED raises HEAD_STATE (R176, R179), and a push to one that was ONLINE ends FAILED (R177); on a
line already there neither changes anything. R164: a head that leaves ONLINE (`leaveOnline`) loses its queued frames but for the one in
flight, its intake entries are marked departed and give back what they reserve (R146), a push to it ends FAILED with the first segment not
answered (R177), its last grant is cleared (R35), its hold is released or, when it is confirming, carried by its deferred entry (R89), and its
lane, OPEN or HELD, is CLOSED with its pending crossing abandoned and PENDING_LOST raised (R123); a head in another state loses nothing. That
the heads of a line are taken by rising address is the model's choice (log entry 10), that the frame in flight stays its queue's oldest log entry
11, and the HEAD_STATE subject without a reason log entry 19. -/
def Obligations.LineStartAndStop : Prop :=
  (∀ (s : State) (tag : Byte) (l : Nat),
    (s.ready (.lineStart tag l) = true →
      let c := Instr.lineStart tag l
      (16 ≤ l → Refused c s .OUT_OF_RANGE)
      ∧ (l < 16 → (s.line l).state = .RUNNING → Answers c s s .OK [])
      ∧ (l < 16 → (s.line l).state = .DOWN → ∃ t : State, Answers c s t .OK [] ∧ Keeps [.lines, .heads] s t
          ∧ t.line l = ⟨.RUNNING, [], 0, 1, none, ⟨0, 0, 0, 0, 0, 0, 0, 0⟩, none⟩ ∧ (∀ m, m ≠ l → t.line m = s.line m)
          ∧ ∀ k, t.heads.get k = (s.heads.get k).map (fun hd =>
              if k / 256 = l then { hd with state := .PROBING, missed := 0, lastSeq := none, lastIdentEnd := none } else hd)))
    ∧ (s.ready (.lineStop tag l) = true →
        let c := Instr.lineStop tag l
        (16 ≤ l → Refused c s .OUT_OF_RANGE)
        ∧ (l < 16 → (s.line l).state = .DOWN → Answers c s s .OK [])
        ∧ (l < 16 → (s.line l).state = .RUNNING → ∃ t : State, Answers c s t .OK []
            ∧ Keeps [.lines, .heads, .doorIn, .purchaseIn, .laneIn, .folios, .persons, .deferred, .lanes, .latches] s t
            ∧ ((t.line l).state = .DOWN ∧ (t.line l).queue = [] ∧ (t.line l).reserved = 0 ∧ (t.line l).turn = none
                ∧ (t.line l).push = none ∧ (t.line l).counters = (s.line l).counters)
            ∧ (∀ m, m ≠ l → t.line m = s.line m) ∧ (∀ h, h.line ≠ l → t.head? h = s.head? h)
            ∧ (∀ h hd, h.line = l → s.head? h = some hd → ∃ hd', t.head? h = some hd' ∧ hd'.state = .IDLE
                ∧ hd'.cls = hd.cls ∧ hd'.bound = hd.bound ∧ hd'.tuneTimer = none ∧ hd'.retryTimer = none ∧ hd'.tuneWait = none
                ∧ hd'.nextDue = none ∧ (hd.state = .ONLINE → hd'.lastGrant = none ∧ hd'.hold = none)
                ∧ hd'.missed = hd.missed ∧ hd'.lastSeq = hd.lastSeq ∧ hd'.quality = hd.quality ∧ hd'.faultReason = hd.faultReason
                ∧ (∀ p, (s.line l).push = some p → hd.state = .ONLINE → p.dest = h.address → hd'.settings = .FAILED p.answered)
                ∧ ((∀ p, (s.line l).push = some p → ¬ (hd.state = .ONLINE ∧ p.dest = h.address)) → hd'.settings = hd.settings)
                ∧ (hd.state = .ONLINE → hd.cls = .GANGWAY_LANE → (t.lane hd.bound).state = .CLOSED))
            ∧ (let gone := (s.headsOf l).foldl State.leaveOnline s
               t.folios = gone.folios ∧ t.persons = gone.persons ∧ t.deferred = gone.deferred ∧ t.lanes = gone.lanes
               ∧ t.latch .PENDING_LOST = gone.latch .PENDING_LOST)
            ∧ (s.heads.wf = true → t.latch .HEAD_STATE =
                ((s.headsOf l).filter (fun h => (s.head? h).any (fun hd => decide (hd.state = .FAULTED)))).foldl
                  (fun x h => x.raised (.headState h (some .IDLE) none 0) s.clock.time) (s.latch .HEAD_STATE))
            ∧ (∀ n, n ≠ .HEAD_STATE → n ≠ .PENDING_LOST → t.latch n = s.latch n)
            ∧ (∀ i, (t.intake i).reserved = (if (s.line l).turn.bind (·.holds) = some i then (s.intake i).reserved - 1
                  else (s.intake i).reserved)
                ∧ (t.intake i).entries = (s.intake i).entries.map (fun e =>
                    if e.head.line = l ∧ s.online e.head = true then { e with departed := true, held := false } else e)))))
  ∧ (∀ (s : State) (h : HeadId) (hd : Head), s.head? h = some hd →
      let g := s.leaveOnline h
      let ln := s.line h.line
      let la := s.lane hd.bound
      let closed := { la with state := .CLOSED, holdHost := false, holdBank := false, pending := none }
      let held := fun (i : HeadClass) => ((s.intake i).entries.filter (fun e => decide (e.head = h) && e.held)).length
      (hd.state ≠ .ONLINE → g = s)
      ∧ (hd.state = .ONLINE →
          Keeps [.lines, .heads, .doorIn, .purchaseIn, .laneIn, .folios, .persons, .deferred, .lanes, .latches] s g
          ∧ g.head? h = some { hd with lastGrant := none, hold := none, due := false,
                                       settings := match ln.push with
                                         | some p => if p.dest = h.address then .FAILED p.answered else hd.settings
                                         | none => hd.settings }
          ∧ (∀ o, o ≠ h → g.head? o = s.head? o)
          ∧ g.line h.line = { ln with queue := ln.queueWithout (fun f => decide (f.dest = h.address)),
                                      reserved := ln.reserved - (held .CABIN_DOOR + held .VENUE_TERMINAL + held .GANGWAY_LANE),
                                      push := ln.push.filter (fun p => decide (p.dest ≠ h.address)) }
          ∧ (∀ m, m ≠ h.line → g.line m = s.line m)
          ∧ (∀ i, (g.intake i).reserved = (s.intake i).reserved
              ∧ (g.intake i).entries = (s.intake i).entries.map (fun e =>
                  if e.head = h then { e with departed := true, held := false } else e))
          ∧ (hd.hold = none → g.folios = s.folios ∧ g.persons = s.persons ∧ g.deferred = s.deferred)
          ∧ (∀ x, hd.hold = some x → x.confirming = false →
              g.folios = (s.releaseHold h x).folios ∧ g.persons = (s.releaseHold h x).persons ∧ g.deferred = s.deferred)
          ∧ (∀ x, hd.hold = some x → x.confirming = true → g.folios = s.folios ∧ g.persons = s.persons
              ∧ g.deferred = s.deferred.map (fun d => if d.head = h ∧ d.carried = none then { d with carried := some x } else d))
          ∧ ((hd.cls ≠ .GANGWAY_LANE ∨ la.state = .CLOSED) → g.lanes = s.lanes ∧ g.latches = s.latches)
          ∧ (hd.cls = .GANGWAY_LANE → la.state ≠ .CLOSED →
              (la.pending = none → g.lanes = s.lanes.set hd.bound closed ∧ g.latches = s.latches)
              ∧ (la.pending ≠ none →
                  g.lanes = s.lanes.set hd.bound { closed with abandoned := min (la.abandoned + 1) 4294967295 }
                  ∧ g.latch .PENDING_LOST = (s.latch .PENDING_LOST).raised (.lane hd.bound) s.clock.time
                  ∧ ∀ n, n ≠ .PENDING_LOST → g.latch n = s.latch n))))

/-- R147, R148 and R154: a DOWN line, and one with a turn in flight, starts no turn; a free RUNNING line sends its oldest frame, or else polls
the first head from the cursor upward that may be polled, an event poll taking its two reservations, and moves the cursor past it; with
neither it waits. That the ends which the polls of TUNING and PROBING heads wait from are those of every turn, one already in flight when the head
entered its state among them, is the model's choice (log entry 26). -/
def Obligations.TurnStartsByCase : Prop :=
  ∀ (s : State) (l : Nat),
    let ln := s.line l
    let counted := { ln.counters with turns := min (ln.counters.turns + 1) 4294967295 }
    (∀ h hd, s.head? h = some hd →
      ((hd.state = .IDLE ∨ hd.state = .FAULTED) → s.pollOf h = none)
      ∧ (hd.state = .ONLINE →
          (((s.intake hd.cls).entries.length + (s.intake hd.cls).reserved < intakeCapacity hd.cls
              ∧ 0 < (s.line h.line).free) → s.pollOf h = some (.eventPoll hd.lastSeq))
          ∧ ((intakeCapacity hd.cls ≤ (s.intake hd.cls).entries.length + (s.intake hd.cls).reserved
              ∨ (s.line h.line).free = 0) → s.pollOf h = none))
      ∧ (hd.state = .TUNING → (s.pollOf h = some .tuningPoll ↔ ∀ t, hd.lastTurnEnd = some t → 100 ≤ s.since t))
      ∧ (hd.state = .PROBING → (s.pollOf h = some .ident ↔ ∀ t, hd.lastIdentEnd = some t → 2000 ≤ s.since t)))
    ∧ ((ln.state = .DOWN ∨ ln.turn ≠ none) → Gives (.turnStart l) s s)
    ∧ (ln.state = .RUNNING → ln.turn = none →
        (∀ f rest, ln.queue = f :: rest →
          Gives (.turnStart l) s
            { s with lines := s.lines.set l { ln with turn := some ⟨.queued f, f.dest, false, none, false⟩, counters := counted } })
        ∧ (ln.queue = [] → (∀ a, 1 ≤ a → a ≤ 200 → s.pollOf ⟨l, a⟩ = none) → Gives (.turnStart l) s s)
        ∧ (∀ a f, ln.queue = [] → 1 ≤ ln.cursor → ln.cursor ≤ 200 → 1 ≤ a → a ≤ 200 → s.pollOf ⟨l, a⟩ = some f →
            (∀ b, 1 ≤ b → b ≤ 200 → (b + 200 - ln.cursor) % 200 < (a + 200 - ln.cursor) % 200 → s.pollOf ⟨l, b⟩ = none) →
            let next := if a = 200 then 1 else a + 1
            (∀ hd last, s.head? ⟨l, a⟩ = some hd → f = .eventPoll last →
              Gives (.turnStart l) s
                { s.setIntake hd.cls ⟨(s.intake hd.cls).entries, (s.intake hd.cls).reserved + 1⟩ with
                  lines := s.lines.set l { ln with reserved := ln.reserved + 1, cursor := next,
                                                   turn := some ⟨f, a, false, some hd.cls, false⟩, counters := counted } })
            ∧ ((f = .tuningPoll ∨ f = .ident) →
                Gives (.turnStart l) s
                  { s with
                    lines :=
                      s.lines.set l { ln with cursor := next, turn := some ⟨f, a, false, none, false⟩, counters := counted } })))

/-- R150, R151, R152, R193, R29 and R166: with no answer in time, or one whose CRC-8 is wrong, or whose address is not the head's, whose kind
the frame does not allow or whose length does not fit its kind or its event, each counted, a first attempt is followed by the retry and a second ends the turn failed: it is counted, the poll's reservations are given back, the head's missed
turns rise while it is ONLINE or TUNING, a queued frame leaves the queue with its owner told (an INDICATOR's cabin is owed it again, whatever has
become of its door head), and at the limit the head is FAULTED NO_ANSWER; of a turn whose head has been dropped only the rest remains. That an
answer of fewer than three bytes before its CRC-8, or whose length byte is not the number of payload bytes that came, is a bad one, and that one of no
bytes is a CRC error, is the model's choice (log entry 30). -/
def Obligations.TurnFailsAfterRetry : Prop :=
  ∀ (s : State) (l a : Nat) (t : Turn), (s.line l).turn = some t → t.target = a → 1 ≤ a → a ≤ 200 →
    let h : HeadId := ⟨l, a⟩
    let ln := s.line l
    let c := ln.counters
    (∀ body check, crc8 body ≠ check →
      exec (.answerReceived l (body ++ [check])) s = exec (.answerTimeout l)
        { s with lines := s.lines.set l { ln with counters := { c with crcErrors := min (c.crcErrors + 1) 4294967295 } } })
    ∧ (∀ kind p, p.length < 256 → (∀ ans, headAnswerOf kind.toNat p = some ans → t.frame.allows ans = false) →
        exec (.answerReceived l (answerFrame a kind p)) s = exec (.answerTimeout l)
          { s with lines := s.lines.set l { ln with counters := { c with badAnswers := min (c.badAnswers + 1) 4294967295 } } })
    ∧ (∀ (address kind length : Byte) p, (address.toNat ≠ a ∨ length.toNat ≠ p.length) →
        exec (.answerReceived l (withCrc8 ([address, kind, length] ++ p))) s = exec (.answerTimeout l)
          { s with lines := s.lines.set l { ln with counters := { c with badAnswers := min (c.badAnswers + 1) 4294967295 } } })
    ∧ (∀ body : List Byte, body.length < 3 →
        exec (.answerReceived l (withCrc8 body)) s = exec (.answerTimeout l)
          { s with lines := s.lines.set l { ln with counters := { c with badAnswers := min (c.badAnswers + 1) 4294967295 } } })
    ∧ exec (.answerReceived l []) s = exec (.answerTimeout l)
        { s with lines := s.lines.set l { ln with counters := { c with crcErrors := min (c.crcErrors + 1) 4294967295 } } }
    ∧ (∀ (seq lost event : Byte) p, p.length < 253 → eventFits t.holds event.toNat p = false →
        exec (.answerReceived l (answerFrame a 0x82#8 ([seq, lost, event] ++ p))) s = exec (.answerTimeout l)
          { s with lines := s.lines.set l { ln with counters := { c with badAnswers := min (c.badAnswers + 1) 4294967295 } } })
    ∧ (t.retry = false →
        Gives (.answerTimeout l) s
          { s with lines := s.lines.set l { ln with turn := some { t with retry := true },
                                                    counters := { c with retries := min (c.retries + 1) 4294967295 } } })
    ∧ (∀ hd, t.retry = true → t.dropped = false → s.head? h = some hd →
        let served := hd.state = .ONLINE ∨ hd.state = .TUNING
        ∃ u : State, Gives (.answerTimeout l) s u ∧ (u.line l).turn = none
          ∧ Keeps [.cabins, .lines, .heads, .doorIn, .purchaseIn, .laneIn, .folios, .persons, .deferred, .lanes, .latches] s u
          ∧ (∀ m, m ≠ l → u.line m = s.line m) ∧ (∀ o, o ≠ h → u.head? o = s.head? o)
          ∧ (u.line l).counters = { c with failed := min (c.failed + 1) 4294967295 }
          ∧ (∀ i, t.holds = some i → (u.intake i).reserved = (s.intake i).reserved - 1)
          ∧ ((∀ f n p, t.frame = .queued f → f.content ≠ .indicator n p) → u.cabins = s.cabins)
          ∧ (∀ f n p, t.frame = .queued f → f.content = .indicator n p →
              (s.cabinSlot n = none → u.cabins = s.cabins)
              ∧ (∀ k cb, s.cabinSlot n = some k → s.cabins.get k = some cb → u.cabins = s.cabins.set k { cb with owed := true }))
          ∧ ((served → hd.missed + 1 < s.params.missedTurnLimit) → ∃ hd', u.head? h = some hd'
              ∧ Keeps [.cabins, .lines, .heads, .doorIn, .purchaseIn, .laneIn] s u
              ∧ hd'.state = hd.state ∧ hd'.missed = (if served then hd.missed + 1 else hd.missed)
              ∧ hd'.hold = hd.hold ∧ hd'.lastGrant = hd.lastGrant
              ∧ (∀ i, t.holds = some i → (u.line l).reserved = ln.reserved - 1)
              ∧ ((∀ f, t.frame ≠ .queued f) → (u.line l).queue = ln.queue)
              ∧ (∀ f, t.frame = .queued f → f.content.kind ≠ 0x06 → f.content.kind ≠ 0x07 → (u.line l).queue = ln.queue.drop 1)
              ∧ (∀ f i m mp b p, t.frame = .queued f → f.content = .segment i m mp b → ln.push = some p → p.dest = a →
                  hd'.settings = .FAILED p.answered ∧ (u.line l).push = none
                  ∧ ∀ g ∈ (u.line l).queue, isSegmentFor a g = false)
              ∧ (∀ f kind, t.frame = .queued f → f.content = .tune kind → hd.state = .TUNING →
                  hd'.frameWaits = true ∨ ⟨a, .tune hd.tuneKind⟩ ∈ (u.line l).queue))
          ∧ (served → s.params.missedTurnLimit ≤ hd.missed + 1 → ∃ hd', u.head? h = some hd' ∧ hd'.state = .FAULTED
              ∧ hd'.faultReason = some .NO_ANSWER ∧ hd'.missed = hd.missed + 1
              ∧ hd'.retryTimer = some ⟨s.elapsed, 1000 * s.params.faultRetry⟩
              ∧ u.latch .HEAD_STATE =
                  (s.latch .HEAD_STATE).raised (.headState h (some .FAULTED) (some .NO_ANSWER) 0) s.clock.time))
    ∧ (t.retry = true → t.dropped = true →
        let rest := match t.frame with | .queued _ => ln.queue.drop 1 | _ => ln.queue
        let turnOver := fun (u : State) (reserved : Nat) =>
          { u with lines := s.lines.set l { ln with turn := none, queue := rest, reserved := reserved,
                                                    counters := { c with failed := min (c.failed + 1) 4294967295 } } : State }
        let ended := match t.holds with
          | some i => turnOver (s.setIntake i ⟨(s.intake i).entries, (s.intake i).reserved - 1⟩) (ln.reserved - 1)
          | none => turnOver s ln.reserved
        (∀ f n p k cb, t.frame = .queued f → f.content = .indicator n p → s.cabinSlot n = some k → s.cabins.get k = some cb →
          Gives (.answerTimeout l) s { ended with cabins := s.cabins.set k { cb with owed := true } })
        ∧ ((∀ f n p, t.frame = .queued f → f.content = .indicator n p → s.cabinSlot n = none) →
            Gives (.answerTimeout l) s ended))

/-- R154 to R157: a good answer to an event poll ends the turn and makes the missed turns 0. NONE gives both reservations back; a repeated
sequence is counted a duplicate and dropped; another is accepted with its lost count and becomes the newest entry of its intake on the poll's
reservation, keeping the outbound one for a TAP or CONFIRM; a foreign kind is counted and dropped; HEAD_FAULT makes the head FAULTED. The answer of
a head that has left ONLINE, or has been dropped (R166), is good all the same and only gives the reservations back. A decision frame's TAKEN does
nothing further; its STALE clears the last grant of the tag (R35), releases the hold of the tag that is not confirming (R86) or abandons the
lane's crossing of the tag with PENDING_LOST (R111), but for a head that has left ONLINE (R159); the ACK of an INDICATOR or TUNE frame does
nothing further. A tag or sequence beyond its range is kept as sent, and TAKEN and STALE act with their frame's tag (log entry 17); an OPENED
without a tag may have one byte, and any presence byte but 00h carries a tag (log entry 13). -/
def Obligations.EventAnswerTaken : Prop :=
  (∀ (s : State) (l a : Nat) (t : Turn) (hd : Head) (last : Option Nat),
    (s.line l).turn = some t → t.frame = .eventPoll last → t.target = a → t.holds = some hd.cls → t.dropped = false →
    s.head? ⟨l, a⟩ = some hd → hd.state = .ONLINE →
    let h : HeadId := ⟨l, a⟩
    let ln := s.line l
    let c := ln.counters
    let q := s.intake hd.cls
    let heard := { hd with missed := 0, lastTurnEnd := some s.elapsed }
    let both := fun (hd' : Head) (counters : LineCounters) =>
      { s.setIntake hd.cls ⟨q.entries, q.reserved - 1⟩ with
        lines := s.lines.set l { ln with turn := none, reserved := ln.reserved - 1, counters := counters },
        heads := s.heads.set h.key hd' : State }
    Gives (.answerReceived l (answerFrame a 0x81#8 [])) s (both heard c)
    ∧ (∀ (seq lost kind : Byte) (p : List Byte), p.length < 253 → eventFits (some hd.cls) kind.toNat p = true →
        let got := Instr.answerReceived l (answerFrame a 0x82#8 ([seq, lost, kind] ++ p))
        (hd.lastSeq = some seq.toNat → Gives got s (both heard { c with duplicates := min (c.duplicates + 1) 4294967295 }))
        ∧ (hd.lastSeq ≠ some seq.toNat →
            let accepted := { heard with lastSeq := some seq.toNat }
            let counted := { c with lost := min (c.lost + lost.toNat) 4294967295 }
            (∀ e, eventOf hd.cls kind.toNat p = some e → 0 < q.reserved →
              Gives got s
                { s.setIntake hd.cls ⟨q.entries ++ [⟨h, e, s.elapsed, e.takesDecision, false⟩], q.reserved - 1⟩ with
                  lines := s.lines.set l
                    { ln with
                      turn := none
                      reserved := if e.takesDecision then ln.reserved else ln.reserved - 1
                      counters := counted },
                  heads := s.heads.set h.key accepted })
            ∧ (eventOf hd.cls kind.toNat p = none → kind ≠ 0x0F#8 →
                Gives got s (both accepted { counted with foreign := min (c.foreign + 1) 4294967295 }))
            ∧ (kind = 0x0F#8 → ∃ (u : State) (x hd' : Head), Gives got s u ∧ u.head? h = some hd' ∧ hd'.state = .FAULTED
                ∧ ((both accepted counted).leaveOnline h).head? h = some x
                ∧ u = ({ (both accepted counted).leaveOnline h with heads := ((both accepted counted).leaveOnline h).heads.set h.key hd' } :
                    State).raise .HEAD_STATE (.headState h (some .FAULTED) (some .HEAD_REPORTED) (numberOf p))
                ∧ hd' = { x with state := .FAULTED, faultReason := some .HEAD_REPORTED, tuneTimer := none, frameWaits := false,
                                 retryTimer := some ⟨s.elapsed, 1000 * s.params.faultRetry⟩ }
                ∧ Keeps [.lines, .heads, .doorIn, .purchaseIn, .laneIn, .folios, .persons, .deferred, .lanes, .latches] s u
                ∧ (∀ m, m ≠ l → u.line m = s.line m) ∧ (∀ o, o ≠ h → u.head? o = s.head? o)
                ∧ hd'.hold = none ∧ hd'.lastGrant = none
                ∧ u.latch .HEAD_STATE = (s.latch .HEAD_STATE).raised
                    (.headState h (some .FAULTED) (some .HEAD_REPORTED) (numberOf p)) s.clock.time))))
  ∧ (∀ (s : State) (l a : Nat) (t : Turn) (cls : HeadClass) (last : Option Nat),
       (s.line l).turn = some t → t.frame = .eventPoll last → t.target = a → 1 ≤ a → a ≤ 200 → t.holds = some cls →
       let h : HeadId := ⟨l, a⟩
       let ln := s.line l
       let ended := fun (heads : Table Head) =>
         { s.setIntake cls ⟨(s.intake cls).entries, (s.intake cls).reserved - 1⟩ with
           lines := s.lines.set l { ln with turn := none, reserved := ln.reserved - 1 }, heads := heads : State }
       ∀ got : Instr,
         (got = .answerReceived l (answerFrame a 0x81#8 [])
           ∨ ∃ (seq lost kind : Byte) (p : List Byte), p.length < 253 ∧ eventFits (some cls) kind.toNat p = true
               ∧ got = .answerReceived l (answerFrame a 0x82#8 ([seq, lost, kind] ++ p))) →
         (t.dropped = true → Gives got s (ended s.heads))
         ∧ (∀ hd, t.dropped = false → s.head? h = some hd → hd.state ≠ .ONLINE →
             Gives got s (ended (s.heads.set h.key { hd with missed := 0, lastTurnEnd := some s.elapsed }))))
  ∧ (∀ (s : State) (l a : Nat) (f : OutFrame) (retry dropped : Bool) (answered : Byte),
       (s.line l).turn = some ⟨.queued f, a, retry, none, dropped⟩ → 1 ≤ a → a ≤ 200 →
       let h : HeadId := ⟨l, a⟩
       let ln := s.line l
       let turnOver : State := { s with lines := s.lines.set l { ln with turn := none, queue := ln.queue.drop 1 } }
       let with' := fun (x : Head) => { turnOver with heads := s.heads.set h.key x }
       let taken := Instr.answerReceived l (answerFrame a 0x86#8 [answered])
       let stale := Instr.answerReceived l (answerFrame a 0x87#8 [answered])
       let ack := Instr.answerReceived l (answerFrame a 0x88#8 [])
       (dropped = true → (f.content.kind = 0x04 → Gives taken s turnOver ∧ Gives stale s turnOver) ∧ (f.content.kind ≠ 0x04 → Gives ack s turnOver))
       ∧ (∀ hd, dropped = false → s.head? h = some hd →
           let heard := { hd with missed := 0, lastTurnEnd := some s.elapsed }
           let ended := with' heard
           (f.content.kind = 0x04 → Gives taken s ended)
           ∧ (f.content.kind = 0x04 → hd.state ≠ .ONLINE → Gives stale s ended)
           ∧ (∀ n p, f.content = .indicator n p → Gives ack s ended) ∧ (∀ k, f.content = .tune k → Gives ack s ended)
           ∧ (hd.state = .ONLINE →
               (∀ tag k, f.content = .door tag (.GRANT k) →
                 (∀ g, hd.lastGrant = some g → g.tag = tag → Gives stale s (with' { heard with lastGrant := none }))
                 ∧ ((∀ g, hd.lastGrant = some g → g.tag ≠ tag) → Gives stale s ended))
               ∧ (∀ tag r, f.content = .door tag (.DENY r) → Gives stale s ended)
               ∧ (∀ tag g v y z, f.content = .purchase tag (.APPROVE g v y z) →
                   (∀ x, hd.hold = some x → x.tag = tag → x.confirming = false → Gives stale s (ended.releaseHold h x))
                   ∧ ((∀ x, hd.hold = some x → x.tag ≠ tag ∨ x.confirming = true) → Gives stale s ended))
               ∧ (∀ tag d, f.content = .purchase tag d → (∀ g v y z, d ≠ .APPROVE g v y z) → Gives stale s ended)
               ∧ (∀ tag d, f.content = .lane tag d →
                   let la := s.lane hd.bound
                   ((∀ r, d ≠ .REFUSE r) → ∀ pc, la.pending = some pc → pc.tag = tag →
                     Gives stale s
                       (({ ended with
                           lanes := s.lanes.set hd.bound
                             { la with pending := none, abandoned := min (la.abandoned + 1) 4294967295 } } : State).raise
                         .PENDING_LOST (.lane hd.bound)))
                   ∧ (((∃ r, d = .REFUSE r) ∨ ∀ pc, la.pending = some pc → pc.tag ≠ tag) → Gives stale s ended)))))

/-- R177, R160, R150 and R159: SETTINGS PUSH by its checks in order, leaving a waiting push and PENDING for one head; the segments of the page
are enqueued together, in page order, once that many free unreserved slots exist; the turn of a group frame ends when it has been sent,
and its last segment ends the push; the ACK of a single head's segment counts it, and that of the last one ends the push APPLIED. That an
enqueue or an end without its push or turn changes nothing is the model's choice (log entry 8). -/
def Obligations.SettingsPushTravels : Prop :=
  ∀ (s : State) (l : Nat),
    let ln := s.line l
    (∀ (tag : Byte) (dest : Nat) (page : List Byte) (map : Option (List Byte)), s.ready (.settingsPush tag l dest page map) = true →
      let c := Instr.settingsPush tag l dest page map
      let h : HeadId := ⟨l, dest⟩
      let range := l < 16 ∧ ((1 ≤ dest ∧ dest ≤ 200) ∨ (224 ≤ dest ∧ dest ≤ 239) ∨ dest = 255) ∧ 1 ≤ page.length ∧ page.length ≤ 96
        ∧ (200 < dest → map ≠ none)
      let found := dest ≤ 200 → s.head? h ≠ none
      let serving := ln.state = .RUNNING ∧ (dest ≤ 200 → s.online h = true)
      (¬ range → Refused c s .OUT_OF_RANGE)
      ∧ (range → ¬ found → Refused c s .NOT_FOUND)
      ∧ (range → found → ¬ serving → Refused c s .WRONG_STATE)
      ∧ (range → found → serving → ln.push ≠ none → Refused c s .BUSY)
      ∧ (range → found → serving → ln.push = none →
          let lines := s.lines.set l { ln with push := some ⟨dest, page, map, false, 0⟩ }
          (200 < dest → Answers c s { s with lines := lines } .ACCEPTED [])
          ∧ (∀ hd, dest ≤ 200 → s.head? h = some hd →
              Answers c s { s with lines := lines, heads := s.heads.set h.key { hd with settings := .PENDING } } .ACCEPTED [])))
    ∧ (ln.push = none → Gives (.settingsPushEnqueue l) s s)
    ∧ (∀ p, ln.push = some p →
        let n := (p.page.length + 31) / 32
        let frames := (List.range n).map (fun i =>
          (⟨p.dest, .segment i (decide (i + 1 < n)) (if p.dest ≤ 200 then none else p.map) ((p.page.drop (32 * i)).take 32)⟩ : OutFrame))
        (p.queued = false → n ≤ ln.free →
          Gives (.settingsPushEnqueue l) s
            { s with lines := s.lines.set l { ln with queue := ln.queue ++ frames, push := some { p with queued := true } } })
        ∧ ((p.queued = true ∨ ln.free < n) → Gives (.settingsPushEnqueue l) s s))
    ∧ (∀ f retry holds dropped, ln.turn = some ⟨.queued f, f.dest, retry, holds, dropped⟩ →
        (200 < f.dest →
          (∀ i mp b, f.content = .segment i false mp b →
            Gives (.groupFrameSent l) s
              { s with lines := s.lines.set l { ln with turn := none, queue := ln.queue.drop 1, push := none } })
          ∧ (∀ i mp b, f.content = .segment i true mp b →
              Gives (.groupFrameSent l) s { s with lines := s.lines.set l { ln with turn := none, queue := ln.queue.drop 1 } }))
        ∧ (f.dest ≤ 200 → Gives (.groupFrameSent l) s s)
        ∧ (∀ p i more mp b hd, f.dest ≤ 200 → holds = none → dropped = false → f.content = .segment i more mp b →
            ln.push = some p → p.dest = f.dest → s.head? ⟨l, f.dest⟩ = some hd →
            let heard := { hd with missed := 0, lastTurnEnd := some s.elapsed }
            let after := fun (push : Option Push) (x : Head) =>
              { s with lines := s.lines.set l { ln with turn := none, queue := ln.queue.drop 1, push := push },
                       heads := s.heads.set (HeadId.key ⟨l, f.dest⟩) x : State }
            let got := Instr.answerReceived l (answerFrame f.dest 0x88#8 [])
            (more = true → Gives got s (after (some { p with answered := p.answered + 1 }) heard))
            ∧ (more = false → Gives got s (after none { heard with settings := .APPLIED }))))
    ∧ (ln.turn = none → Gives (.groupFrameSent l) s s)

/-! ## Heads (Chapter 9) -/

/-- R165 and R166: HEAD PUT by its checks in order: it creates a head with the values of R163, replaces neighbourhood and group alone, or moves
the head to a new class or bound object with both bindings changed, a TUNING head losing the TUNE frame that is still queued; HEAD DROP empties a
place, its binding and its queued frames but for the one whose turn is in flight, whose answer is to be discarded. An ONLINE head leaves ONLINE
first (LineStartAndStop says how); one that enters PROBING has no missed turns and no last sequence (R151, R155). A head that leaves FAULTED raises
HEAD_STATE. That this subject carries no reason, and FFh for the state of a
removed head, is the model's reading (log entry 19); so is what becomes of a TUNE frame in other states (log entry 23), and that the frame in flight stays in its queue (log entry 11). -/
def Obligations.HeadPutAndDrop : Prop :=
  ∀ (s : State) (tag : Byte) (l a : Nat), s.cabins.wf = true →
    let h : HeadId := ⟨l, a⟩
    let gone := s.leaveOnline h
    let bindings := fun (cls : HeadClass) (bound : Nat) (t : State) =>
      (cls = .CABIN_DOOR → ∃ cb, t.cabin? bound = some cb ∧ cb.doorHead = some h)
      ∧ (cls = .GANGWAY_LANE → (t.lane bound).head = some h)
    let unbound := fun (cls : HeadClass) (bound : Nat) (t : State) =>
      (cls = .CABIN_DOOR → ∀ cb, t.cabin? bound = some cb → cb.doorHead = none ∧ cb.deadbolt = .UNKNOWN ∧ cb.owed = false)
      ∧ (cls = .GANGWAY_LANE → (t.lane bound).head = none)
    (∀ f : HeadFields, s.ready (.headPut tag l a f) = true →
      let c := Instr.headPut tag l a f
      (headClassOf h f = none → Refused c s .OUT_OF_RANGE)
      ∧ (∀ cls, headClassOf h f = some cls →
          let state := if (s.line l).state = .RUNNING then HeadState.PROBING else .IDLE
          let missing := (cls = .CABIN_DOOR ∧ s.cabin? f.bound = none) ∨ (cls = .VENUE_TERMINAL ∧ s.venues.get f.bound = none)
          let inUse := (cls = .CABIN_DOOR ∧ ∃ cb d, s.cabin? f.bound = some cb ∧ cb.doorHead = some d ∧ d ≠ h)
            ∨ (cls = .GANGWAY_LANE ∧ ∃ d, (s.lane f.bound).head = some d ∧ d ≠ h)
          let busy := f.neighbourhood ≠ 0 ∧ (∃ hd, s.head? h = some hd ∧ hd.state = .TUNING)
            ∧ ∃ x ∈ s.heads.cells, x.1 ≠ h.key ∧ x.2.state = .TUNING ∧ x.2.neighbourhood = f.neighbourhood
          l < 16 ∧ 1 ≤ a ∧ a ≤ 200 ∧ cls.ctorIdx = f.cls
          ∧ (missing → Refused c s .NOT_FOUND)
          ∧ (¬ missing → inUse → Refused c s .IN_USE)
          ∧ (¬ missing → ¬ inUse → busy → Refused c s .BUSY)
          ∧ (¬ missing → ¬ inUse → ¬ busy →
              (s.head? h = none → ∃ t : State, Answers c s t .OK [] ∧ Keeps [.heads, .cabins, .lanes] s t
                ∧ bindings cls f.bound t ∧ (∀ o, o ≠ h → t.head? o = s.head? o)
                ∧ t.head? h = some ⟨cls, f.bound, f.neighbourhood, f.group, state, none, .LONG, none, .UNTUNED, none, none, none, 0,
                    none, false, .NONE, none, none, none, none, false, none, none, false⟩)
              ∧ (∀ hd, s.head? h = some hd → hd.cls = cls → hd.bound = f.bound →
                  Answers c s
                    { s with heads := s.heads.set h.key { hd with neighbourhood := f.neighbourhood, group := f.group } } .OK [])
              ∧ (∀ hd, s.head? h = some hd → (hd.cls ≠ cls ∨ hd.bound ≠ f.bound) → ∃ (t : State) (x hd' : Head),
                  Answers c s t .OK [] ∧ t.head? h = some hd' ∧ (∀ o, o ≠ h → t.head? o = s.head? o)
                  ∧ gone.head? h = some x ∧ Keeps [.cabins, .lines, .heads, .lanes, .latches] gone t
                  ∧ Keeps [.cabins, .lines, .heads, .doorIn, .purchaseIn, .laneIn, .folios, .persons, .deferred, .lanes, .latches] s t
                  ∧ (∀ m, m ≠ l → t.line m = s.line m)
                  ∧ hd' = { x with cls := cls, bound := f.bound, neighbourhood := f.neighbourhood, group := f.group, state := state,
                                   faultReason := none, field := none, quality := .UNTUNED, lastTune := none, nextDue := none,
                                   tuneWait := none, notified := false, tuneTimer := none, retryTimer := none, frameWaits := false,
                                   due := false, missed := if state = .PROBING then 0 else x.missed,
                                   lastSeq := if state = .PROBING then none else x.lastSeq,
                                   lastIdentEnd := if state = .PROBING then none else x.lastIdentEnd }
                  ∧ bindings cls f.bound t ∧ unbound hd.cls hd.bound t
                  ∧ (hd.state = .ONLINE → hd'.hold = none ∧ hd'.lastGrant = none)
                  ∧ (hd.state = .TUNING → t.line l =
                      { s.line l with queue := (s.line l).queueWithout (fun g => decide (g.dest = a ∧ g.content.kind = 0x06)) })
                  ∧ (hd.state ≠ .TUNING → t.line l = gone.line l)
                  ∧ ((hd.state = .IDLE ∨ hd.state = .PROBING ∨ hd.state = .FAULTED) → t.line l = s.line l)
                  ∧ t.latch .PENDING_LOST = gone.latch .PENDING_LOST
                  ∧ (hd.state = .FAULTED → t.latch .HEAD_STATE =
                      (s.latch .HEAD_STATE).raised (.headState h (some state) none 0) s.clock.time)
                  ∧ (hd.state ≠ .FAULTED → t.latch .HEAD_STATE = s.latch .HEAD_STATE)))))
    ∧ (s.ready (.headDrop tag l a) = true →
        let c := Instr.headDrop tag l a
        ((16 ≤ l ∨ a = 0 ∨ 200 < a) → Refused c s .OUT_OF_RANGE)
        ∧ (l < 16 → 1 ≤ a → a ≤ 200 → s.head? h = none → Refused c s .NOT_FOUND)
        ∧ (∀ hd, s.head? h = some hd → ∃ t : State, Answers c s t .OK [] ∧ t.head? h = none
            ∧ (∀ o, o ≠ h → t.head? o = s.head? o) ∧ unbound hd.cls hd.bound t
            ∧ Keeps [.cabins, .lines, .heads, .doorIn, .purchaseIn, .laneIn, .folios, .persons, .deferred, .lanes, .latches] s t
            ∧ Keeps [.cabins, .lines, .heads, .lanes, .latches] gone t
            ∧ t.line l = { gone.line l with
                turn := (s.line l).turn.map (fun x => if x.target = a then { x with dropped := true } else x),
                queue := (s.line l).queueWithout (fun f => decide (f.dest = a)) }
            ∧ (∀ m, m ≠ l → t.line m = s.line m) ∧ t.latch .PENDING_LOST = gone.latch .PENDING_LOST
            ∧ (hd.state = .FAULTED → t.latch .HEAD_STATE =
                (s.latch .HEAD_STATE).raised (.headState h none none 0) s.clock.time)
            ∧ (hd.state ≠ .FAULTED → t.latch .HEAD_STATE = s.latch .HEAD_STATE)))

/-- R175, R173 and R168: HEAD TUNE by its checks in order; the scheduler starts the waiting head that has waited longest of those that may
start, LONG from PROBING and SHORT from ONLINE, and finds one whenever one may; a start makes the head TUNING under its timer with its TUNE frame queued or waiting, and a
waiting frame takes the next slot; no start breaks the tuning limits. That a start or an enqueue without its head changes nothing is the
model's choice (log entry 8), that a start command makes one start log entry 7, and when a due time is reached log entry 21. -/
def Obligations.TuneStartsByRule : Prop :=
  ∀ (s : State) (l a : Nat),
    let h : HeadId := ⟨l, a⟩
    let idle := fun (o : HeadId) (x : Head) =>
      (∀ i, ∀ e ∈ (s.intake i).entries, e.head ≠ o)
      ∧ (∀ t, (s.line o.line).turn = some t → t.target = o.address → t.holds = none)
      ∧ (∀ f ∈ (s.line o.line).queue, f.dest = o.address → f.content.kind ≠ 0x04 ∧ f.content.kind ≠ 0x07)
      ∧ x.hold = none ∧ x.lastGrant = none ∧ (x.cls = .GANGWAY_LANE → (s.lane x.bound).state = .CLOSED)
    (∀ (tag : Byte) (kind : Nat), s.ready (.headTune tag l a kind) = true →
      let c := Instr.headTune tag l a kind
      ((16 ≤ l ∨ a = 0 ∨ 200 < a ∨ 1 < kind) → Refused c s .OUT_OF_RANGE)
      ∧ (l < 16 → 1 ≤ a → a ≤ 200 → kind ≤ 1 →
          (s.head? h = none → Refused c s .NOT_FOUND)
          ∧ (∀ hd, s.head? h = some hd →
              let wrong := hd.state ≠ .ONLINE ∨ (hd.cls = .GANGWAY_LANE ∧ (s.lane hd.bound).state ≠ .CLOSED)
              (wrong → Refused c s .WRONG_STATE)
              ∧ (¬ wrong → (¬ idle h hd ∨ s.limitsAllow h hd = false) → Refused c s .BUSY)
              ∧ (¬ wrong → idle h hd → s.limitsAllow h hd = true →
                  Answers c s (s.startTune h (if kind = 0 then .LONG else .SHORT)) .OK []))))
    ∧ (∀ (hd : Head) (kind : TuneKind), s.head? h = some hd →
        (s.limitsAllow h hd = true ↔
          (hd.neighbourhood ≠ 0 → ∀ x ∈ s.heads.cells, x.1 ≠ h.key → x.2.state = .TUNING → x.2.neighbourhood ≠ hd.neighbourhood)
          ∧ (s.heads.cells.filter (fun x => decide (x.2.state = .TUNING) && decide (x.1 / 256 = l))).length < s.params.tuningPerLine)
        ∧ ∃ hd', (s.startTune h kind).head? h = some hd' ∧ hd'.state = .TUNING ∧ hd'.tuneKind = kind ∧ hd'.tuneWait = none
            ∧ hd'.tuneTimer = some ⟨s.elapsed, if kind = .LONG then 3000 else 500⟩
            ∧ ((hd'.frameWaits = false ∧ ⟨a, .tune kind⟩ ∈ ((s.startTune h kind).line l).queue)
                ∨ (hd'.frameWaits = true ∧ ((s.startTune h kind).line l).free = 0))
            ∧ (∃ x, (s.leaveOnline h).head? h = some x ∧ hd' =
                { x with state := .TUNING, tuneKind := kind, tuneWait := none, tuneTimer := hd'.tuneTimer, lastTurnEnd := none,
                         due := false, frameWaits := hd'.frameWaits })
            ∧ Keeps [.lines, .heads] (s.leaveOnline h) (s.startTune h kind)
            ∧ Keeps [.lines, .heads, .doorIn, .purchaseIn, .laneIn, .folios, .persons, .deferred, .lanes, .latches] s
                (s.startTune h kind)
            ∧ ∀ o, o ≠ h → (s.startTune h kind).head? o = s.head? o)
    ∧ (s.nextStart = none → Gives .tuneStart s s)
    ∧ (∀ hd, s.heads.wf = true → s.nextStart = some h → s.head? h = some hd →
        Gives .tuneStart s (s.startTune h (if hd.state = .PROBING then .LONG else .SHORT))
        ∧ s.limitsAllow h hd = true ∧ (hd.state = .ONLINE → idle h hd)
        ∧ ∃ t, s.waitsSince hd = some t ∧ ∀ o x u, s.head? o = some x → s.waitsSince x = some u → s.limitsAllow o x = true →
            (x.state = .ONLINE → idle o x) →
            s.since u ≤ s.since t ∧ (s.since u = s.since t → h.key ≤ o.key))
    ∧ (∀ o x u, s.head? o = some x → s.waitsSince x = some u → s.limitsAllow o x = true → (x.state = .ONLINE → idle o x) →
        s.nextStart ≠ none)
    ∧ (∀ (hd : Head) (t : Nat), s.waitsSince hd = some t ↔
        (hd.state = .ONLINE ∧ hd.nextDue = some t ∧ (hd.due = true ∨ s.since t < 2147483648))
        ∨ (hd.state = .PROBING ∧ hd.tuneWait = some t))
    ∧ (s.head? h = none → Gives (.tuneFrameEnqueue l a) s s)
    ∧ (∀ hd, s.head? h = some hd →
        ((hd.state ≠ .TUNING ∨ hd.frameWaits = false) → Gives (.tuneFrameEnqueue l a) s s)
        ∧ (hd.state = .TUNING → hd.frameWaits = true → 0 < (s.line l).free →
            Gives (.tuneFrameEnqueue l a) s
              { s with
                lines := s.lines.set l { s.line l with queue := (s.line l).queue ++ [⟨a, .tune hd.tuneKind⟩] },
                heads := s.heads.set h.key { hd with frameWaits := false } })
        ∧ (hd.state = .TUNING → hd.frameWaits = true → (s.line l).free = 0 → s.heads.wf = true →
            Gives (.tuneFrameEnqueue l a) s s))

/-- R167, R168, R169, R170, R171 and R173: a TUNING answer ends its turn and does nothing further; an IDENT answer of the head's class sets the
tune wait once and attempts starts, one after the other, each of the first waiting head that may start (TuneStartsByRule), until none may or
each head has had its turn, so that the first of them is TUNING and every other head is as before or has started; another class makes the
head alone FAULTED, with no retry timer; an IDENT answer of a head no longer PROBING and a TUNE_DONE of one no longer TUNING are dropped; TUNE_DONE is decided by the corrected field strength, rounded half up and limited to 0..1000: below
300 or without one the head is FAULTED, otherwise it is ONLINE, WEAK below 600, with its times set, and a door head's cabin has its indicator
frame sent or owed (R164, R28). That the attempt at an IDENT answer
passes over every waiting head is the model's reading (log entry 24), so are the WEAK and the other HEAD_STATE subjects (log entry 19), and a class
byte that is none of 01h to 03h counts as another class (log entry 17). -/
def Obligations.IdentAndTuneDone : Prop :=
  ∀ (s : State) (l a : Nat) (t : Turn) (hd : Head), (s.line l).turn = some t → t.target = a → t.dropped = false → t.holds = none →
    s.head? ⟨l, a⟩ = some hd → s.heads.wf = true →
    let h : HeadId := ⟨l, a⟩
    (t.frame = .tuningPoll →
      Gives (.answerReceived l (answerFrame a 0x83#8 [])) s
        { s with lines := s.lines.set l { s.line l with turn := none },
                 heads := s.heads.set h.key { hd with missed := 0, lastTurnEnd := some s.elapsed } })
    ∧ (t.frame = .ident → hd.state ≠ .PROBING → ∀ code : Byte,
      Gives (.answerReceived l (answerFrame a 0x85#8 [code])) s
        { s with lines := s.lines.set l { s.line l with turn := none },
                 heads := s.heads.set h.key { hd with missed := 0, lastTurnEnd := some s.elapsed, lastIdentEnd := some s.elapsed } })
    ∧ (t.frame = .tuningPoll → hd.state ≠ .TUNING → ∀ low high field : Nat,
      Gives (.answerReceived l (answerFrame a 0x84#8 (u16 low ++ u16 high ++ u16 field))) s
        { s with lines := s.lines.set l { s.line l with turn := none },
                 heads := s.heads.set h.key { hd with missed := 0, lastTurnEnd := some s.elapsed } })
    ∧ (t.frame = .ident → hd.state = .PROBING → ∀ code : Byte,
      let waiting : State :=
        { s with lines := s.lines.set l { s.line l with turn := none },
                 heads := s.heads.set h.key { hd with missed := 0, lastTurnEnd := some s.elapsed, lastIdentEnd := some s.elapsed,
                                                      tuneWait := some (hd.tuneWait.getD s.elapsed) } }
      let start := fun (v : State) =>
        match v.nextStart with
        | none => v
        | some o =>
          match v.head? o with
          | none => v
          | some y => v.startTune o (if y.state = .PROBING then .LONG else .SHORT)
      ∃ (u : State) (hd' : Head), Gives (.answerReceived l (answerFrame a 0x85#8 [code])) s u ∧ u.head? h = some hd'
        ∧ (u.line l).turn = none
        ∧ Keeps [.lines, .heads, .doorIn, .purchaseIn, .laneIn, .folios, .persons, .deferred, .lanes, .latches] s u
        ∧ hd'.missed = 0
        ∧ (code.toNat = hd.cls.ctorIdx + 1 →
            (hd'.state = .PROBING ∧ hd'.tuneWait = some (hd.tuneWait.getD s.elapsed))
            ∨ (hd'.state = .TUNING ∧ hd'.tuneKind = .LONG ∧ hd'.tuneTimer = some ⟨s.elapsed, 3000⟩))
        ∧ (code.toNat = hd.cls.ctorIdx + 1 → u = Nat.repeat start waiting.heads.size waiting
            ∧ (∀ o y, waiting.nextStart = some o → waiting.head? o = some y → ∃ y', u.head? o = some y' ∧ y'.state = .TUNING
                ∧ y'.tuneTimer = some ⟨s.elapsed, if y.state = .PROBING then 3000 else 500⟩)
            ∧ (∀ o y, o ≠ h → s.head? o = some y → u.head? o = some y
                ∨ ∃ y', u.head? o = some y' ∧ y'.state = .TUNING ∧ y'.cls = y.cls ∧ y'.bound = y.bound
                    ∧ (y.state = .PROBING ∨ y.state = .ONLINE)))
        ∧ (code.toNat ≠ hd.cls.ctorIdx + 1 → hd'.state = .FAULTED ∧ hd'.faultReason = some .CLASS_MISMATCH
            ∧ hd'.retryTimer = none ∧ hd'.tuneWait = none ∧ (∀ o, o ≠ h → u.head? o = s.head? o)
            ∧ u.latch .HEAD_STATE =
                (s.latch .HEAD_STATE).raised (.headState h (some .FAULTED) (some .CLASS_MISMATCH) 0) s.clock.time))
    ∧ (t.frame = .tuningPoll → hd.state = .TUNING → ∀ low high field : Nat, low ≤ 4095 → high ≤ 4095 → field ≤ 4095 →
        let value := corrected low high field s.params.refLow s.params.refHigh
        let freed : State := { s with lines := s.lines.set l { s.line l with turn := none } }
        let interval := s.params.shortTune
        ∃ (u : State) (hd' : Head),
          Gives (.answerReceived l (answerFrame a 0x84#8 (u16 low ++ u16 high ++ u16 field))) s u ∧ u.head? h = some hd'
          ∧ Keeps [.cabins, .lines, .heads, .latches] s u ∧ (∀ o, o ≠ h → u.head? o = s.head? o)
          ∧ hd'.field = value ∧ hd'.missed = 0 ∧ hd'.tuneTimer = none
          ∧ ((hd.cls ≠ .CABIN_DOOR ∨ (∀ v, value = some v → v < 300) ∨ s.cabinSlot hd.bound = none) →
              u.lines = freed.lines ∧ u.cabins = s.cabins)
          ∧ (∀ v k cb, value = some v → 300 ≤ v → hd.cls = .CABIN_DOOR → s.cabinSlot hd.bound = some k → s.cabins.get k = some cb →
              (cb.doorHead = none → u.lines = freed.lines ∧ u.cabins = s.cabins.set k { cb with owed := false })
              ∧ (∀ d, cb.doorHead = some d →
                  let ln := freed.line d.line
                  (u.online d = true → 0 < ln.free →
                    u.lines = freed.lines.set d.line { ln with queue := ln.queue ++ [⟨d.address, .indicator cb.number cb.privacy⟩] }
                    ∧ u.cabins = s.cabins.set k { cb with owed := false })
                  ∧ ((u.online d = false ∨ ln.free = 0) →
                      u.lines = freed.lines ∧ u.cabins = s.cabins.set k { cb with owed := true })))
          ∧ (high ≤ low → value = none)
          ∧ (low < high → ∃ q : Int,
              let d : Int := high - low
              let n : Int := ((field : Int) - low) * ((s.params.refHigh : Int) - s.params.refLow)
              2 * d * q ≤ 2 * n + d ∧ 2 * n + d < 2 * d * (q + 1)
              ∧ value = some (max 0 (min 1000 ((s.params.refLow : Int) + q))).toNat)
          ∧ ((∀ v, value = some v → v < 300) →
              hd' = { hd with missed := 0, lastTurnEnd := some s.elapsed, field := value, quality := .UNTUNED, nextDue := none,
                              tuneTimer := none, frameWaits := false, state := .FAULTED, faultReason := some .FIELD_FAILED,
                              retryTimer := some ⟨s.elapsed, 1000 * s.params.faultRetry⟩ }
              ∧ u.latch .HEAD_STATE =
                  (s.latch .HEAD_STATE).raised (.headState h (some .FAULTED) (some .FIELD_FAILED) 0) s.clock.time)
          ∧ (∀ v, value = some v → 300 ≤ v →
              hd' = { hd with missed := 0, lastTurnEnd := some s.elapsed, field := value, quality := hd'.quality, nextDue := hd'.nextDue,
                              tuneTimer := none, frameWaits := false, state := .ONLINE, lastTune := some s.elapsed,
                              notified := false, due := false }
              ∧ (v < 600 → hd'.quality = .WEAK ∧ hd'.nextDue = some ((s.elapsed + interval * 30000) % 4294967296))
              ∧ (600 ≤ v → hd'.quality = .GOOD ∧ hd'.nextDue = some ((s.elapsed + interval * 60000) % 4294967296))
              ∧ (v < 600 → hd.quality ≠ .WEAK → u.latch .HEAD_STATE =
                  (s.latch .HEAD_STATE).raised (.headState h (some .ONLINE) none 0) s.clock.time)
              ∧ ((600 ≤ v ∨ hd.quality = .WEAK) → u.latch .HEAD_STATE = s.latch .HEAD_STATE)))

/-- R169, R172, R173 and R174: when a TUNING head's timer runs out it is FAULTED TUNE_TIMEOUT with its missed turns kept; a FAULTED head's
retry timer takes it to PROBING with a HEAD_STATE notice; an ONLINE head joins the due heads at its next due time; once more than twice
its span has passed since its last tune it raises TUNE_OVERDUE once. Without such a head each changes nothing. A timer's command is the
moment the timer runs out (the model's choice, log entry 3), the moment of a due time goes by the count's difference (the model's choice, log
entry 21), the HEAD_STATE subject without a reason is the model's reading (log entry 19), the frame in flight stays in its queue (log entry 11), and a
command whose trigger is absent changes nothing (the model's choice, log entry 8). -/
def Obligations.HeadTimersRunOut : Prop :=
  ∀ (s : State) (l a : Nat),
    let h : HeadId := ⟨l, a⟩
    (s.head? h = none → Gives (.tuneTimeout l a) s s ∧ Gives (.faultRetryExpiry l a) s s ∧ Gives (.headDueForTune l a) s s
      ∧ Gives (.tuneOverdue l a) s s)
    ∧ (∀ hd, s.head? h = some hd →
        ((hd.state ≠ .TUNING ∨ hd.tuneTimer = none) → Gives (.tuneTimeout l a) s s)
        ∧ (∀ tm, hd.state = .TUNING → hd.tuneTimer = some tm →
            let late := s.passTime (tm.duration - s.since tm.start)
            ∃ (t : State) (hd' : Head), Gives (.tuneTimeout l a) s t ∧ Keeps [.elapsed, .clock, .lines, .heads, .latches] s t
              ∧ t.elapsed = late.elapsed ∧ t.clock = late.clock ∧ t.head? h = some hd' ∧ (∀ o, o ≠ h → t.head? o = s.head? o)
              ∧ hd'.state = .FAULTED ∧ hd'.faultReason = some .TUNE_TIMEOUT ∧ hd'.tuneTimer = none ∧ hd'.missed = hd.missed
              ∧ hd'.retryTimer = some ⟨late.elapsed, 1000 * s.params.faultRetry⟩
              ∧ t.line l = { s.line l with queue := (s.line l).queueWithout (fun f => decide (f.dest = a ∧ f.content.kind = 0x06)) }
              ∧ (∀ m, m ≠ l → t.line m = s.line m)
              ∧ t.latch .HEAD_STATE =
                  (s.latch .HEAD_STATE).raised (.headState h (some .FAULTED) (some .TUNE_TIMEOUT) 0) late.clock.time)
        ∧ ((hd.state ≠ .FAULTED ∨ hd.retryTimer = none) → Gives (.faultRetryExpiry l a) s s)
        ∧ (∀ tm, hd.state = .FAULTED → hd.retryTimer = some tm →
            Gives (.faultRetryExpiry l a) s
              (({ s.passTime (tm.duration - s.since tm.start) with
                  heads := s.heads.set h.key { hd with state := .PROBING, missed := 0, lastSeq := none, lastIdentEnd := none,
                                                       retryTimer := none } } : State).raise
                .HEAD_STATE (.headState h (some .PROBING) none 0)))
        ∧ ((hd.state ≠ .ONLINE ∨ hd.nextDue = none) → Gives (.headDueForTune l a) s s ∧ Gives (.tuneOverdue l a) s s)
        ∧ (∀ due, hd.state = .ONLINE → hd.nextDue = some due →
            Gives (.headDueForTune l a) s
              { s.passTime (s.msUntil due) with heads := s.heads.set h.key { hd with due := true } }
            ∧ (hd.notified = true → Gives (.tuneOverdue l a) s s)
            ∧ (∀ last, hd.notified = false → hd.lastTune = some last →
                let late := s.passTime (s.msUntilOverdue last due)
                let span := (due + (4294967296 - last % 4294967296)) % 4294967296
                Gives (.tuneOverdue l a) s
                  (({ late with heads := s.heads.set h.key { hd with notified := true } } : State).raise .TUNE_OVERDUE (.head h))
                ∧ (2 * span + 1 < 4294967296 → 2 * span < late.since last))))

/-! ## The requests that only read -/

/-- R9, R20, R41, R61, R98, R109, R130, R136, R140, R152, R178, R185 and R188: each GET, FIND and READ is refused for what it cannot name and
otherwise answers OK; none of them changes anything. What the bodies hold follows these rules in R192's encoding; where R192 leaves a width or
an order open the model's choice stands (log entry 13; the order of LINE GET's heads, log entry 10). That the bytes of a UID field
beyond its length are ignored is the model's choice (log entry 28). -/
def Obligations.ReadsChangeNothing : Prop :=
  ∀ (s : State) (tag : Byte),
    (s.ready (.statusGet tag) = true →
      Answers (.statusGet tag) s s .OK
        (u8 s.clock.state.ctorIdx ++ u32 s.clock.time ++ u32 s.elapsed ++ u8 s.upstream.ctorIdx ++ u32 s.epoch
          ++ u16 s.link.unanswered ++ u16 s.link.outgoing.length
          ++ u32 s.link.overruns ++ u32 s.link.badFrames ++ u32 s.link.truncated
          ++ u16 s.mask ++ (NoticeClass.all.map (fun c => encLatch (s.latch c) ++ flag (s.latch c).owed)).flatten
          ++ u16 s.doorIn.entries.length ++ u16 s.doorIn.reserved ++ u16 s.purchaseIn.entries.length ++ u16 s.purchaseIn.reserved
          ++ u16 s.laneIn.entries.length ++ u16 s.laneIn.reserved ++ flag s.intakeWaits
          ++ ((List.range 16).map (fun l => u8 (s.line l).state.ctorIdx)).flatten
          ++ u16 s.journal.length ++ u16 s.openHolds.length ++ u16 s.deferred.length
          ++ flag s.scanner.isSome ++ u8 s.sweeper.state.ctorIdx))
    ∧ (s.ready (.censusGet tag) = true →
        Answers (.censusGet tag) s s .OK
          (encCensus s.census ++ u16 s.persons.size ++ encSweeper s.sweeper ++ encBank s.bank0 ++ encBank s.bank1
            ++ u16 s.pendings.length ++ u32 s.nextCrossing))
    ∧ (∀ i, s.ready (.paramGet tag i) = true →
        (i = none → Answers (.paramGet tag i) s s .OK (u8 24 ++ ((List.range 24).map s.encParamRow).flatten))
        ∧ (∀ n, i = some n → n < 24 → Answers (.paramGet tag i) s s .OK (u8 1 ++ s.encParamRow n))
        ∧ (∀ n, i = some n → 24 ≤ n → Refused (.paramGet tag i) s .OUT_OF_RANGE))
    ∧ (∀ selector value, s.ready (.personGet tag selector value) = true →
        let c := Instr.personGet tag selector value
        let slot := value % 65536
        ((1 < selector ∨ (selector = 0 ∧ 8192 ≤ slot)) → Refused c s .OUT_OF_RANGE)
        ∧ (selector = 0 → slot < 8192 →
            (s.persons.get slot = none → Refused c s .NOT_FOUND)
            ∧ (∀ p, s.persons.get slot = some p → Answers c s s .OK (s.personBody slot p)))
        ∧ (selector = 1 →
            ((∀ x ∈ s.persons.cells, x.2.ident.id ≠ value) → Refused c s .NOT_FOUND)
            ∧ (∀ k p, s.persons.findKey (fun p => p.ident.id = value) = some k → s.persons.get k = some p →
                Answers c s s .OK (s.personBody k p))))
    ∧ (∀ u, s.ready (.cardFind tag u) = true →
        (uidOf u = none → Refused (.cardFind tag u) s .OUT_OF_RANGE)
        ∧ (∀ uid, uidOf u = some uid → s.cardKeyOf uid = none → Refused (.cardFind tag u) s .NOT_FOUND)
        ∧ (∀ uid k e, uidOf u = some uid → s.cardKeyOf uid = some k → s.cards.get k = some e →
            Answers (.cardFind tag u) s s .OK (s.cardBody k e)))
    ∧ (∀ n, s.ready (.cabinGet tag n) = true →
        ((n = 0 ∨ 9999 < n) → Refused (.cabinGet tag n) s .OUT_OF_RANGE)
        ∧ (1 ≤ n → n ≤ 9999 → s.cabinSlot n = none → Refused (.cabinGet tag n) s .NOT_FOUND)
        ∧ (∀ k cb, 1 ≤ n → n ≤ 9999 → s.cabinSlot n = some k → s.cabins.get k = some cb →
            Answers (.cabinGet tag n) s s .OK (s.cabinBody k cb)))
    ∧ (∀ selector value, s.ready (.folioGet tag selector value) = true →
        let c := Instr.folioGet tag selector value
        let slot := value % 65536
        ((1 < selector ∨ (selector = 0 ∧ 4096 ≤ slot)) → Refused c s .OUT_OF_RANGE)
        ∧ (selector = 0 → slot < 4096 →
            (s.folios.get slot = none → Refused c s .NOT_FOUND)
            ∧ (∀ f, s.folios.get slot = some f → Answers c s s .OK (s.folioBody slot f)))
        ∧ (selector = 1 →
            ((∀ x ∈ s.folios.cells, x.2.id ≠ value) → Refused c s .NOT_FOUND)
            ∧ (∀ k f, s.folios.findKey (fun f => f.id = value) = some k → s.folios.get k = some f →
                Answers c s s .OK (s.folioBody k f))))
    ∧ (∀ start count, s.ready (.chargesRead tag start count) = true →
        let c := Instr.chargesRead tag start count
        ((count = 0 ∨ 16 < count) → Refused c s .OUT_OF_RANGE)
        ∧ (1 ≤ count → count ≤ 16 →
            Answers c s s .OK
              (opt encPair s.journalEnds ++ u32 s.retiredThrough ++ u64 s.nextCharge ++ u16 s.openHolds.length
                ++ listOf encJournal (s.chargesFrom start count))))
    ∧ (∀ n, s.ready (.laneGet tag n) = true →
        (8 ≤ n → Refused (.laneGet tag n) s .OUT_OF_RANGE)
        ∧ (n < 8 → Answers (.laneGet tag n) s s .OK (s.laneBody (s.lane n))))
    ∧ (∀ start count, s.ready (.crossingsRead tag start count) = true →
        let c := Instr.crossingsRead tag start count
        let bad := 511 < start ∨ count = 0 ∨ 32 < count
        (bad → Refused c s .OUT_OF_RANGE)
        ∧ (¬ bad → s.bank0.state ≠ .READABLE → s.bank1.state ≠ .READABLE → Refused c s .WRONG_STATE)
        ∧ (∀ n, ¬ bad → n ≤ 1 → (s.bank n).state = .READABLE → (s.bank (1 - n)).state ≠ .READABLE →
            Answers c s s .OK
              (u8 n ++ u16 (s.bank n).records.length ++ listOf encCrossing (((s.bank n).records.drop start).take count))))
    ∧ (∀ start count, s.ready (.missingRead tag start count) = true →
        let c := Instr.missingRead tag start count
        let bad := 255 < start ∨ count = 0 ∨ 64 < count
        (bad → Refused c s .OUT_OF_RANGE)
        ∧ (¬ bad →
            Answers c s s .OK
              (encSweeper s.sweeper ++ u16 s.census.missing ++ u16 s.census.visitorsAboard
                ++ listOf s.encMissing ((s.sweeper.missing.drop start).take count))))
    ∧ (∀ l, s.ready (.lineGet tag l) = true →
        (16 ≤ l → Refused (.lineGet tag l) s .OUT_OF_RANGE)
        ∧ (l < 16 → Answers (.lineGet tag l) s s .OK (s.lineBody l)))
    ∧ (∀ l a, s.ready (.headGet tag l a) = true →
        let c := Instr.headGet tag l a
        ((16 ≤ l ∨ a = 0 ∨ 200 < a) → Refused c s .OUT_OF_RANGE)
        ∧ (l < 16 → 1 ≤ a → a ≤ 200 → s.head? ⟨l, a⟩ = none → Refused c s .NOT_FOUND)
        ∧ (∀ hd, s.head? ⟨l, a⟩ = some hd → Answers c s s .OK (s.headBody ⟨l, a⟩ hd)))

/-! ## Decoding -/

/-- R192: what a request frame's kind code and body decode to is a request of that kind with that tag, and every field of it fits the bytes
that carry it. -/
def Obligations.DecodedRequestsFit : Prop :=
  ∀ (kind : Nat) (tag : Byte) (body : List Byte) (c : Instr),
    decodeRequest kind tag body = .request c → requestOf c = some (kind, tag) ∧ c.wf = true

/-! ## Laws that every step keeps -/

/-- Every step keeps every table in its canonical form, so that equal tables stay equal data. -/
def Obligations.StepKeepsTablesCanonical : Prop := ∀ s t : State, s.tablesCanonical → step s = .next t → t.tablesCanonical

/-- Every step keeps at most four unanswered requests and four notices (R180, R182), the ranges of both clocks (R157, R183), the frames of
each outbound queue plus its reservations at most 16 (Law 7, R145), and the entries of each intake queue plus its reservations at most 32, 16 and
16 (Law 7, R154). -/
def Obligations.StepKeepsCapacities : Prop :=
  (∀ s t : State, s.linkLaw → step s = .next t → t.linkLaw)
  ∧ (∀ s t : State, s.clockLaw → step s = .next t → t.clockLaw)
  ∧ (∀ s t : State, s.queueLaw → step s = .next t → t.queueLaw)
  ∧ (∀ s t : State, s.intakeLaw → step s = .next t → t.intakeLaw)

/-- Every step keeps exactly one bank FILLING and an EMPTY bank without records (Law 6, R125), a lane HELD exactly while it has a hold reason,
and a CLOSED lane without a pending crossing (R103, Law 8); the records of the FILLING bank plus the pending crossings at most 512 (Law 6, R126),
and no person named by two pending crossings (Law 8, R104). -/
def Obligations.StepKeepsBankAndLaneLaws : Prop :=
  (∀ s t : State, s.bankLaw → step s = .next t → t.bankLaw) ∧ (∀ s t : State, s.laneLaw → step s = .next t → t.laneLaw)
  ∧ (∀ s t : State, s.lanes.wf = true → s.bankLaw → s.roomLaw → step s = .next t → t.roomLaw)
  ∧ (∀ s t : State, s.lanes.wf = true → s.crossingLaw → step s = .next t → t.crossingLaw)

/-- Law 2: every step keeps the census equal to the Roster: each category's counters, the missing count and the visitors aboard (R133, R134). -/
def Obligations.StepKeepsCensusLaw : Prop :=
  ∀ s t : State, s.persons.wf = true → s.censusLaw → step s = .next t → t.censusLaw

/-- Law 10: every step keeps at most one TUNING head in each neighbourhood other than 0 (R168). -/
def Obligations.StepKeepsTuningLaw : Prop :=
  ∀ s t : State, s.heads.wf = true → s.tuningLaw → step s = .next t → t.tuningLaw

/-- The state after power-on reset meets all these laws. -/
def Obligations.ResetMeetsLaws : Prop :=
  State.reset.tablesCanonical ∧ State.reset.linkLaw ∧ State.reset.clockLaw ∧ State.reset.queueLaw ∧ State.reset.intakeLaw ∧ State.reset.bankLaw
    ∧ State.reset.laneLaw ∧ State.reset.roomLaw ∧ State.reset.crossingLaw ∧ State.reset.censusLaw ∧ State.reset.tuningLaw
end

