-- ==== Sys2Proof/Laws/Table.lean ====
section
/-! SUPPORT. What reading a table gives after each change of it, and that every change keeps the canonical form. -/

namespace Sys2Proof.Machine

variable {α : Type}

/-! ## Reading after a change -/

theorem Table.lookupCells_insertCells (l : List (Nat × α)) (k j : Nat) (v : α) :
    Table.lookupCells (Table.insertCells l k v) j = if j = k then some v else Table.lookupCells l j := by
  induction l with
  | nil => simp [Table.insertCells, Table.lookupCells, eq_comm]
  | cons c rest ih =>
    obtain ⟨k', v'⟩ := c
    simp only [Table.insertCells]
    split
    · simp [Table.lookupCells, eq_comm]
    · split
      · subst k'
        by_cases h : j = k
        · simp [Table.lookupCells, h]
        · simp [Table.lookupCells, h, Ne.symm h]
      · rename_i h1 h2
        simp only [Table.lookupCells, ih]
        by_cases h : k' = j
        · subst h; simp [h2]
        · simp [h]

@[simp] theorem Table.get_set (t : Table α) (k j : Nat) (v : α) :
    (t.set k v).get j = if j = k then some v else t.get j := Table.lookupCells_insertCells t.cells k j v

theorem Table.get_modify (t : Table α) (k j : Nat) (f : α → α) :
    (t.modify k f).get j = if j = k then (t.get k).map f else t.get j := by
  unfold Table.modify
  cases h : t.get k with
  | none => by_cases hj : j = k <;> simp [hj, h]
  | some v => simp

theorem Table.modify_of_get (t : Table α) (k : Nat) (f : α → α) {v : α} (h : t.get k = some v) : t.modify k f = t.set k (f v) := by
  simp [Table.modify, h]

theorem Table.modify_of_none (t : Table α) (k : Nat) (f : α → α) (h : t.get k = none) : t.modify k f = t := by
  simp [Table.modify, h]

theorem Table.lookupCells_map (l : List (Nat × α)) (f : Nat → α → α) (j : Nat) :
    Table.lookupCells (l.map (fun c => (c.1, f c.1 c.2))) j = (Table.lookupCells l j).map (f j) := by
  induction l with
  | nil => rfl
  | cons c rest ih =>
    simp only [List.map_cons, Table.lookupCells, ih]
    split
    · rename_i h; simp [h]
    · rfl

@[simp] theorem Table.get_map (t : Table α) (f : Nat → α → α) (j : Nat) : (t.map f).get j = (t.get j).map (f j) :=
  Table.lookupCells_map t.cells f j

theorem Table.lookupCells_erase (l : List (Nat × α)) (k j : Nat) :
    Table.lookupCells (l.filter (fun c => c.1 ≠ k)) j = if j = k then none else Table.lookupCells l j := by
  induction l with
  | nil => simp [Table.lookupCells]
  | cons c rest ih =>
    by_cases hc : c.1 = k
    · simp only [List.filter_cons, hc, ne_eq, not_true, decide_false, Bool.false_eq_true, ↓reduceIte, ih, Table.lookupCells]
      split
      · rfl
      · rename_i h; simp [Ne.symm h]
    · simp only [List.filter_cons, ne_eq, hc, not_false_iff, decide_true, ↓reduceIte, Table.lookupCells, ih]
      split
      · rename_i h; simp [← h, hc]
      · rfl

@[simp] theorem Table.get_erase (t : Table α) (k j : Nat) : (t.erase k).get j = if j = k then none else t.get j :=
  Table.lookupCells_erase t.cells k j

@[simp] theorem Table.get_empty (j : Nat) : (Table.empty : Table α).get j = none := rfl

/-- A second write of a place replaces the first. -/
theorem Table.insertCells_insertCells (l : List (Nat × α)) (k : Nat) (v w : α) :
    Table.insertCells (Table.insertCells l k v) k w = Table.insertCells l k w := by
  induction l with
  | nil => simp [Table.insertCells]
  | cons c rest ih =>
    obtain ⟨k', v'⟩ := c
    simp only [Table.insertCells]
    split
    · simp [Table.insertCells]
    · split
      · simp [Table.insertCells]
      · rename_i h1 h2; simp [Table.insertCells, h1, h2, ih]

@[simp] theorem Table.set_set (t : Table α) (k : Nat) (v w : α) : (t.set k v).set k w = t.set k w := by
  simp [Table.set, Table.insertCells_insertCells]

theorem Table.modify_modify (t : Table α) (k : Nat) (f g : α → α) : (t.modify k f).modify k g = t.modify k (fun v => g (f v)) := by
  cases h : t.get k with
  | none => simp [Table.modify, h]
  | some v =>
    rw [Table.modify_of_get t k f h, Table.modify_of_get t k _ h,
      Table.modify_of_get (t.set k (f v)) k g (v := f v) (by simp), Table.set_set]

/-! ## The canonical form -/

theorem Table.risingFrom_le {low low' : Nat} {l : List (Nat × α)} (hl : low' ≤ low) (h : Table.risingFrom low l = true) :
    Table.risingFrom low' l = true := by
  cases l with
  | nil => rfl
  | cons c rest =>
    simp only [Table.risingFrom, Bool.and_eq_true, decide_eq_true_eq] at h ⊢
    exact ⟨Nat.le_trans hl h.1, h.2⟩

theorem Table.risingFrom_insertCells {low k : Nat} {l : List (Nat × α)} (v : α) (hk : low ≤ k) (h : Table.risingFrom low l = true) :
    Table.risingFrom low (Table.insertCells l k v) = true := by
  induction l generalizing low with
  | nil => simp [Table.insertCells, Table.risingFrom, hk]
  | cons c rest ih =>
    obtain ⟨k', v'⟩ := c
    simp only [Table.risingFrom, Bool.and_eq_true, decide_eq_true_eq] at h
    simp only [Table.insertCells]
    split
    · simp only [Table.risingFrom, Bool.and_eq_true, decide_eq_true_eq]
      exact ⟨hk, by omega, h.2⟩
    · split
      · subst k'; simp [Table.risingFrom, hk, h.2]
      · simp only [Table.risingFrom, Bool.and_eq_true, decide_eq_true_eq]
        exact ⟨h.1, ih (by omega) h.2⟩

theorem Table.risingFrom_filter {low : Nat} {l : List (Nat × α)} (p : Nat × α → Bool) (h : Table.risingFrom low l = true) :
    Table.risingFrom low (l.filter p) = true := by
  induction l generalizing low with
  | nil => rfl
  | cons c rest ih =>
    obtain ⟨k', v'⟩ := c
    simp only [Table.risingFrom, Bool.and_eq_true, decide_eq_true_eq] at h
    simp only [List.filter_cons]
    split
    · simp only [Table.risingFrom, Bool.and_eq_true, decide_eq_true_eq]; exact ⟨h.1, ih h.2⟩
    · exact Table.risingFrom_le (by omega) (ih h.2)

theorem Table.risingFrom_map {low : Nat} {l : List (Nat × α)} (f : Nat → α → α) :
    Table.risingFrom low (l.map (fun c => (c.1, f c.1 c.2))) = Table.risingFrom low l := by
  induction l generalizing low with
  | nil => rfl
  | cons c rest ih => simp [Table.risingFrom, ih]

/-- Filling a place keeps the form. -/
theorem Table.wf_set {t : Table α} (k : Nat) (v : α) (h : t.wf = true) : (t.set k v).wf = true :=
  Table.risingFrom_insertCells v (Nat.zero_le k) h

/-- Emptying a place keeps the form. -/
theorem Table.wf_erase {t : Table α} (k : Nat) (h : t.wf = true) : (t.erase k).wf = true := Table.risingFrom_filter _ h

/-- Changing a record keeps the form. -/
theorem Table.wf_modify {t : Table α} (k : Nat) (f : α → α) (h : t.wf = true) : (t.modify k f).wf = true := by
  unfold Table.modify
  split
  · exact Table.wf_set k _ h
  · exact h

/-- Changing every record keeps the form. -/
theorem Table.wf_map {t : Table α} (f : Nat → α → α) (h : t.wf = true) : (t.map f).wf = true := by
  unfold Table.wf Table.map
  rw [Table.risingFrom_map]
  exact h

/-- Keeping some records keeps the form. -/
theorem Table.wf_keep {t : Table α} (p : Nat → α → Bool) (h : t.wf = true) : (t.keep p).wf = true := Table.risingFrom_filter _ h

theorem Table.wf_empty : (Table.empty : Table α).wf = true := rfl

/-- A place below the lowest key holds nothing. -/
theorem Table.lookupCells_below {low k : Nat} {l : List (Nat × α)} (h : Table.risingFrom low l = true) (hk : k < low) :
    Table.lookupCells l k = none := by
  induction l generalizing low with
  | nil => rfl
  | cons c rest ih =>
    obtain ⟨k', v'⟩ := c
    simp only [Table.risingFrom, Bool.and_eq_true, decide_eq_true_eq] at h
    simp only [Table.lookupCells]
    rw [if_neg (by omega)]
    exact ih h.2 (by omega)

/-- In the canonical form the cells are exactly what reading gives. -/
theorem Table.lookupCells_iff_mem {low k : Nat} {v : α} {l : List (Nat × α)} (h : Table.risingFrom low l = true) :
    Table.lookupCells l k = some v ↔ (k, v) ∈ l := by
  induction l generalizing low with
  | nil => simp [Table.lookupCells]
  | cons c rest ih =>
    obtain ⟨k', v'⟩ := c
    simp only [Table.risingFrom, Bool.and_eq_true, decide_eq_true_eq] at h
    simp only [Table.lookupCells, List.mem_cons, Prod.mk.injEq]
    split
    · rename_i hk
      subst hk
      constructor
      · intro he; exact .inl ⟨rfl, (Option.some.inj he).symm⟩
      · rintro (⟨-, rfl⟩ | hm)
        · rfl
        · have := (ih h.2).mpr hm
          rw [Table.lookupCells_below h.2 (by omega)] at this
          cases this
    · rename_i hk
      rw [ih h.2]
      constructor
      · exact .inr
      · rintro (⟨rfl, -⟩ | hm)
        · exact absurd rfl hk
        · exact hm

/-- In the canonical form a place holds the record its cell shows. -/
theorem Table.get_iff_mem {t : Table α} {k : Nat} {v : α} (h : t.wf = true) : t.get k = some v ↔ (k, v) ∈ t.cells :=
  Table.lookupCells_iff_mem h

/-- In the canonical form writing what a place holds changes nothing. -/
theorem Table.set_of_get {t : Table α} {k : Nat} {v : α} (h : t.wf = true) (hv : t.get k = some v) : t.set k v = t := by
  obtain ⟨l⟩ := t
  have key : ∀ (l : List (Nat × α)) (low : Nat), Table.risingFrom low l = true → Table.lookupCells l k = some v →
      Table.insertCells l k v = l := by
    intro l
    induction l with
    | nil => intro low _ hv; cases hv
    | cons c rest ih =>
      obtain ⟨k', v'⟩ := c
      intro low h hv
      simp only [Table.risingFrom, Bool.and_eq_true, decide_eq_true_eq] at h
      simp only [Table.insertCells]
      split
      · rename_i hlt
        simp only [Table.lookupCells] at hv
        rw [if_neg (by omega), Table.lookupCells_below h.2 (by omega)] at hv
        cases hv
      · split
        · rename_i he
          simp only [Table.lookupCells, he, ↓reduceIte] at hv
          rw [Option.some.inj hv, he]
        · rename_i hne
          simp only [Table.lookupCells, hne, ↓reduceIte] at hv
          rw [ih _ h.2 hv]
  exact congrArg Table.mk (key l 0 h hv)

/-! ## The table that is full -/

theorem Table.lookupCells_map_const (l : List Nat) (v : α) (k : Nat) :
    Table.lookupCells (l.map (fun j => (j, v))) k = if k ∈ l then some v else none := by
  induction l with
  | nil => rfl
  | cons j rest ih =>
    by_cases h : j = k
    · simp [Table.lookupCells, h]
    · simp [Table.lookupCells, h, Ne.symm h, ih]

@[simp] theorem Table.get_full (n : Nat) (v : α) (k : Nat) : (Table.full n v).get k = if k < n then some v else none := by
  simp [Table.full, Table.get, Table.lookupCells_map_const]

end Sys2Proof.Machine
end

