-- ==== Sys2Proof/Laws/State.lean ====
section
/-! SUPPORT. What each update of the state leaves in each of its fields, and what the accessors of heads, lines, lanes, latches and intakes
read after it. -/

namespace Sys2Proof.Machine

open Sys2Proof

/-! ## One lemma per field per update -/

@[simp] theorem State.setHead_pending (s : State) (h : HeadId) (hd : Head) : (s.setHead h hd).pending = s.pending := rfl
@[simp] theorem State.setHead_link (s : State) (h : HeadId) (hd : Head) : (s.setHead h hd).link = s.link := rfl
@[simp] theorem State.setHead_clock (s : State) (h : HeadId) (hd : Head) : (s.setHead h hd).clock = s.clock := rfl
@[simp] theorem State.setHead_elapsed (s : State) (h : HeadId) (hd : Head) : (s.setHead h hd).elapsed = s.elapsed := rfl
@[simp] theorem State.setHead_params (s : State) (h : HeadId) (hd : Head) : (s.setHead h hd).params = s.params := rfl
@[simp] theorem State.setHead_latches (s : State) (h : HeadId) (hd : Head) : (s.setHead h hd).latches = s.latches := rfl
@[simp] theorem State.setHead_persons (s : State) (h : HeadId) (hd : Head) : (s.setHead h hd).persons = s.persons := rfl
@[simp] theorem State.setHead_cards (s : State) (h : HeadId) (hd : Head) : (s.setHead h hd).cards = s.cards := rfl
@[simp] theorem State.setHead_cabins (s : State) (h : HeadId) (hd : Head) : (s.setHead h hd).cabins = s.cabins := rfl
@[simp] theorem State.setHead_folios (s : State) (h : HeadId) (hd : Head) : (s.setHead h hd).folios = s.folios := rfl
@[simp] theorem State.setHead_venues (s : State) (h : HeadId) (hd : Head) : (s.setHead h hd).venues = s.venues := rfl
@[simp] theorem State.setHead_upstream (s : State) (h : HeadId) (hd : Head) : (s.setHead h hd).upstream = s.upstream := rfl
@[simp] theorem State.setHead_epoch (s : State) (h : HeadId) (hd : Head) : (s.setHead h hd).epoch = s.epoch := rfl
@[simp] theorem State.setHead_journal (s : State) (h : HeadId) (hd : Head) : (s.setHead h hd).journal = s.journal := rfl
@[simp] theorem State.setHead_retiredThrough (s : State) (h : HeadId) (hd : Head) : (s.setHead h hd).retiredThrough = s.retiredThrough := rfl
@[simp] theorem State.setHead_scanner (s : State) (h : HeadId) (hd : Head) : (s.setHead h hd).scanner = s.scanner := rfl
@[simp] theorem State.setHead_deferred (s : State) (h : HeadId) (hd : Head) : (s.setHead h hd).deferred = s.deferred := rfl
@[simp] theorem State.setHead_intakeWaits (s : State) (h : HeadId) (hd : Head) : (s.setHead h hd).intakeWaits = s.intakeWaits := rfl
@[simp] theorem State.setHead_lanes (s : State) (h : HeadId) (hd : Head) : (s.setHead h hd).lanes = s.lanes := rfl
@[simp] theorem State.setHead_bank0 (s : State) (h : HeadId) (hd : Head) : (s.setHead h hd).bank0 = s.bank0 := rfl
@[simp] theorem State.setHead_bank1 (s : State) (h : HeadId) (hd : Head) : (s.setHead h hd).bank1 = s.bank1 := rfl
@[simp] theorem State.setHead_nextCrossing (s : State) (h : HeadId) (hd : Head) : (s.setHead h hd).nextCrossing = s.nextCrossing := rfl
@[simp] theorem State.setHead_census (s : State) (h : HeadId) (hd : Head) : (s.setHead h hd).census = s.census := rfl
@[simp] theorem State.setHead_sweeper (s : State) (h : HeadId) (hd : Head) : (s.setHead h hd).sweeper = s.sweeper := rfl
@[simp] theorem State.setHead_lines (s : State) (h : HeadId) (hd : Head) : (s.setHead h hd).lines = s.lines := rfl
@[simp] theorem State.setHead_doorIn (s : State) (h : HeadId) (hd : Head) : (s.setHead h hd).doorIn = s.doorIn := rfl
@[simp] theorem State.setHead_purchaseIn (s : State) (h : HeadId) (hd : Head) : (s.setHead h hd).purchaseIn = s.purchaseIn := rfl
@[simp] theorem State.setHead_laneIn (s : State) (h : HeadId) (hd : Head) : (s.setHead h hd).laneIn = s.laneIn := rfl
@[simp] theorem State.setHead_heads (s : State) (h : HeadId) (hd : Head) : (s.setHead h hd).heads = s.heads.set h.key hd := rfl
@[simp] theorem State.setHead_draws (s : State) (h : HeadId) (hd : Head) : (s.setHead h hd).draws = s.draws := rfl

@[simp] theorem State.modifyHead_pending (s : State) (h : HeadId) (f : Head → Head) : (s.modifyHead h f).pending = s.pending := rfl
@[simp] theorem State.modifyHead_link (s : State) (h : HeadId) (f : Head → Head) : (s.modifyHead h f).link = s.link := rfl
@[simp] theorem State.modifyHead_clock (s : State) (h : HeadId) (f : Head → Head) : (s.modifyHead h f).clock = s.clock := rfl
@[simp] theorem State.modifyHead_elapsed (s : State) (h : HeadId) (f : Head → Head) : (s.modifyHead h f).elapsed = s.elapsed := rfl
@[simp] theorem State.modifyHead_params (s : State) (h : HeadId) (f : Head → Head) : (s.modifyHead h f).params = s.params := rfl
@[simp] theorem State.modifyHead_latches (s : State) (h : HeadId) (f : Head → Head) : (s.modifyHead h f).latches = s.latches := rfl
@[simp] theorem State.modifyHead_persons (s : State) (h : HeadId) (f : Head → Head) : (s.modifyHead h f).persons = s.persons := rfl
@[simp] theorem State.modifyHead_cards (s : State) (h : HeadId) (f : Head → Head) : (s.modifyHead h f).cards = s.cards := rfl
@[simp] theorem State.modifyHead_cabins (s : State) (h : HeadId) (f : Head → Head) : (s.modifyHead h f).cabins = s.cabins := rfl
@[simp] theorem State.modifyHead_folios (s : State) (h : HeadId) (f : Head → Head) : (s.modifyHead h f).folios = s.folios := rfl
@[simp] theorem State.modifyHead_venues (s : State) (h : HeadId) (f : Head → Head) : (s.modifyHead h f).venues = s.venues := rfl
@[simp] theorem State.modifyHead_upstream (s : State) (h : HeadId) (f : Head → Head) : (s.modifyHead h f).upstream = s.upstream := rfl
@[simp] theorem State.modifyHead_epoch (s : State) (h : HeadId) (f : Head → Head) : (s.modifyHead h f).epoch = s.epoch := rfl
@[simp] theorem State.modifyHead_journal (s : State) (h : HeadId) (f : Head → Head) : (s.modifyHead h f).journal = s.journal := rfl
@[simp] theorem State.modifyHead_retiredThrough (s : State) (h : HeadId) (f : Head → Head) : (s.modifyHead h f).retiredThrough = s.retiredThrough := rfl
@[simp] theorem State.modifyHead_scanner (s : State) (h : HeadId) (f : Head → Head) : (s.modifyHead h f).scanner = s.scanner := rfl
@[simp] theorem State.modifyHead_deferred (s : State) (h : HeadId) (f : Head → Head) : (s.modifyHead h f).deferred = s.deferred := rfl
@[simp] theorem State.modifyHead_intakeWaits (s : State) (h : HeadId) (f : Head → Head) : (s.modifyHead h f).intakeWaits = s.intakeWaits := rfl
@[simp] theorem State.modifyHead_lanes (s : State) (h : HeadId) (f : Head → Head) : (s.modifyHead h f).lanes = s.lanes := rfl
@[simp] theorem State.modifyHead_bank0 (s : State) (h : HeadId) (f : Head → Head) : (s.modifyHead h f).bank0 = s.bank0 := rfl
@[simp] theorem State.modifyHead_bank1 (s : State) (h : HeadId) (f : Head → Head) : (s.modifyHead h f).bank1 = s.bank1 := rfl
@[simp] theorem State.modifyHead_nextCrossing (s : State) (h : HeadId) (f : Head → Head) : (s.modifyHead h f).nextCrossing = s.nextCrossing := rfl
@[simp] theorem State.modifyHead_census (s : State) (h : HeadId) (f : Head → Head) : (s.modifyHead h f).census = s.census := rfl
@[simp] theorem State.modifyHead_sweeper (s : State) (h : HeadId) (f : Head → Head) : (s.modifyHead h f).sweeper = s.sweeper := rfl
@[simp] theorem State.modifyHead_lines (s : State) (h : HeadId) (f : Head → Head) : (s.modifyHead h f).lines = s.lines := rfl
@[simp] theorem State.modifyHead_doorIn (s : State) (h : HeadId) (f : Head → Head) : (s.modifyHead h f).doorIn = s.doorIn := rfl
@[simp] theorem State.modifyHead_purchaseIn (s : State) (h : HeadId) (f : Head → Head) : (s.modifyHead h f).purchaseIn = s.purchaseIn := rfl
@[simp] theorem State.modifyHead_laneIn (s : State) (h : HeadId) (f : Head → Head) : (s.modifyHead h f).laneIn = s.laneIn := rfl
@[simp] theorem State.modifyHead_heads (s : State) (h : HeadId) (f : Head → Head) : (s.modifyHead h f).heads = s.heads.modify h.key f := rfl
@[simp] theorem State.modifyHead_draws (s : State) (h : HeadId) (f : Head → Head) : (s.modifyHead h f).draws = s.draws := rfl

@[simp] theorem State.setLine_pending (s : State) (l : Nat) (ln : Line) : (s.setLine l ln).pending = s.pending := rfl
@[simp] theorem State.setLine_link (s : State) (l : Nat) (ln : Line) : (s.setLine l ln).link = s.link := rfl
@[simp] theorem State.setLine_clock (s : State) (l : Nat) (ln : Line) : (s.setLine l ln).clock = s.clock := rfl
@[simp] theorem State.setLine_elapsed (s : State) (l : Nat) (ln : Line) : (s.setLine l ln).elapsed = s.elapsed := rfl
@[simp] theorem State.setLine_params (s : State) (l : Nat) (ln : Line) : (s.setLine l ln).params = s.params := rfl
@[simp] theorem State.setLine_latches (s : State) (l : Nat) (ln : Line) : (s.setLine l ln).latches = s.latches := rfl
@[simp] theorem State.setLine_persons (s : State) (l : Nat) (ln : Line) : (s.setLine l ln).persons = s.persons := rfl
@[simp] theorem State.setLine_cards (s : State) (l : Nat) (ln : Line) : (s.setLine l ln).cards = s.cards := rfl
@[simp] theorem State.setLine_cabins (s : State) (l : Nat) (ln : Line) : (s.setLine l ln).cabins = s.cabins := rfl
@[simp] theorem State.setLine_folios (s : State) (l : Nat) (ln : Line) : (s.setLine l ln).folios = s.folios := rfl
@[simp] theorem State.setLine_venues (s : State) (l : Nat) (ln : Line) : (s.setLine l ln).venues = s.venues := rfl
@[simp] theorem State.setLine_upstream (s : State) (l : Nat) (ln : Line) : (s.setLine l ln).upstream = s.upstream := rfl
@[simp] theorem State.setLine_epoch (s : State) (l : Nat) (ln : Line) : (s.setLine l ln).epoch = s.epoch := rfl
@[simp] theorem State.setLine_journal (s : State) (l : Nat) (ln : Line) : (s.setLine l ln).journal = s.journal := rfl
@[simp] theorem State.setLine_retiredThrough (s : State) (l : Nat) (ln : Line) : (s.setLine l ln).retiredThrough = s.retiredThrough := rfl
@[simp] theorem State.setLine_scanner (s : State) (l : Nat) (ln : Line) : (s.setLine l ln).scanner = s.scanner := rfl
@[simp] theorem State.setLine_deferred (s : State) (l : Nat) (ln : Line) : (s.setLine l ln).deferred = s.deferred := rfl
@[simp] theorem State.setLine_intakeWaits (s : State) (l : Nat) (ln : Line) : (s.setLine l ln).intakeWaits = s.intakeWaits := rfl
@[simp] theorem State.setLine_lanes (s : State) (l : Nat) (ln : Line) : (s.setLine l ln).lanes = s.lanes := rfl
@[simp] theorem State.setLine_bank0 (s : State) (l : Nat) (ln : Line) : (s.setLine l ln).bank0 = s.bank0 := rfl
@[simp] theorem State.setLine_bank1 (s : State) (l : Nat) (ln : Line) : (s.setLine l ln).bank1 = s.bank1 := rfl
@[simp] theorem State.setLine_nextCrossing (s : State) (l : Nat) (ln : Line) : (s.setLine l ln).nextCrossing = s.nextCrossing := rfl
@[simp] theorem State.setLine_census (s : State) (l : Nat) (ln : Line) : (s.setLine l ln).census = s.census := rfl
@[simp] theorem State.setLine_sweeper (s : State) (l : Nat) (ln : Line) : (s.setLine l ln).sweeper = s.sweeper := rfl
@[simp] theorem State.setLine_lines (s : State) (l : Nat) (ln : Line) : (s.setLine l ln).lines = s.lines.set l ln := rfl
@[simp] theorem State.setLine_doorIn (s : State) (l : Nat) (ln : Line) : (s.setLine l ln).doorIn = s.doorIn := rfl
@[simp] theorem State.setLine_purchaseIn (s : State) (l : Nat) (ln : Line) : (s.setLine l ln).purchaseIn = s.purchaseIn := rfl
@[simp] theorem State.setLine_laneIn (s : State) (l : Nat) (ln : Line) : (s.setLine l ln).laneIn = s.laneIn := rfl
@[simp] theorem State.setLine_heads (s : State) (l : Nat) (ln : Line) : (s.setLine l ln).heads = s.heads := rfl
@[simp] theorem State.setLine_draws (s : State) (l : Nat) (ln : Line) : (s.setLine l ln).draws = s.draws := rfl

@[simp] theorem State.modifyLine_pending (s : State) (l : Nat) (f : Line → Line) : (s.modifyLine l f).pending = s.pending := rfl
@[simp] theorem State.modifyLine_link (s : State) (l : Nat) (f : Line → Line) : (s.modifyLine l f).link = s.link := rfl
@[simp] theorem State.modifyLine_clock (s : State) (l : Nat) (f : Line → Line) : (s.modifyLine l f).clock = s.clock := rfl
@[simp] theorem State.modifyLine_elapsed (s : State) (l : Nat) (f : Line → Line) : (s.modifyLine l f).elapsed = s.elapsed := rfl
@[simp] theorem State.modifyLine_params (s : State) (l : Nat) (f : Line → Line) : (s.modifyLine l f).params = s.params := rfl
@[simp] theorem State.modifyLine_latches (s : State) (l : Nat) (f : Line → Line) : (s.modifyLine l f).latches = s.latches := rfl
@[simp] theorem State.modifyLine_persons (s : State) (l : Nat) (f : Line → Line) : (s.modifyLine l f).persons = s.persons := rfl
@[simp] theorem State.modifyLine_cards (s : State) (l : Nat) (f : Line → Line) : (s.modifyLine l f).cards = s.cards := rfl
@[simp] theorem State.modifyLine_cabins (s : State) (l : Nat) (f : Line → Line) : (s.modifyLine l f).cabins = s.cabins := rfl
@[simp] theorem State.modifyLine_folios (s : State) (l : Nat) (f : Line → Line) : (s.modifyLine l f).folios = s.folios := rfl
@[simp] theorem State.modifyLine_venues (s : State) (l : Nat) (f : Line → Line) : (s.modifyLine l f).venues = s.venues := rfl
@[simp] theorem State.modifyLine_upstream (s : State) (l : Nat) (f : Line → Line) : (s.modifyLine l f).upstream = s.upstream := rfl
@[simp] theorem State.modifyLine_epoch (s : State) (l : Nat) (f : Line → Line) : (s.modifyLine l f).epoch = s.epoch := rfl
@[simp] theorem State.modifyLine_journal (s : State) (l : Nat) (f : Line → Line) : (s.modifyLine l f).journal = s.journal := rfl
@[simp] theorem State.modifyLine_retiredThrough (s : State) (l : Nat) (f : Line → Line) : (s.modifyLine l f).retiredThrough = s.retiredThrough := rfl
@[simp] theorem State.modifyLine_scanner (s : State) (l : Nat) (f : Line → Line) : (s.modifyLine l f).scanner = s.scanner := rfl
@[simp] theorem State.modifyLine_deferred (s : State) (l : Nat) (f : Line → Line) : (s.modifyLine l f).deferred = s.deferred := rfl
@[simp] theorem State.modifyLine_intakeWaits (s : State) (l : Nat) (f : Line → Line) : (s.modifyLine l f).intakeWaits = s.intakeWaits := rfl
@[simp] theorem State.modifyLine_lanes (s : State) (l : Nat) (f : Line → Line) : (s.modifyLine l f).lanes = s.lanes := rfl
@[simp] theorem State.modifyLine_bank0 (s : State) (l : Nat) (f : Line → Line) : (s.modifyLine l f).bank0 = s.bank0 := rfl
@[simp] theorem State.modifyLine_bank1 (s : State) (l : Nat) (f : Line → Line) : (s.modifyLine l f).bank1 = s.bank1 := rfl
@[simp] theorem State.modifyLine_nextCrossing (s : State) (l : Nat) (f : Line → Line) : (s.modifyLine l f).nextCrossing = s.nextCrossing := rfl
@[simp] theorem State.modifyLine_census (s : State) (l : Nat) (f : Line → Line) : (s.modifyLine l f).census = s.census := rfl
@[simp] theorem State.modifyLine_sweeper (s : State) (l : Nat) (f : Line → Line) : (s.modifyLine l f).sweeper = s.sweeper := rfl
@[simp] theorem State.modifyLine_lines (s : State) (l : Nat) (f : Line → Line) : (s.modifyLine l f).lines = s.lines.set l (f (s.line l)) := rfl
@[simp] theorem State.modifyLine_doorIn (s : State) (l : Nat) (f : Line → Line) : (s.modifyLine l f).doorIn = s.doorIn := rfl
@[simp] theorem State.modifyLine_purchaseIn (s : State) (l : Nat) (f : Line → Line) : (s.modifyLine l f).purchaseIn = s.purchaseIn := rfl
@[simp] theorem State.modifyLine_laneIn (s : State) (l : Nat) (f : Line → Line) : (s.modifyLine l f).laneIn = s.laneIn := rfl
@[simp] theorem State.modifyLine_heads (s : State) (l : Nat) (f : Line → Line) : (s.modifyLine l f).heads = s.heads := rfl
@[simp] theorem State.modifyLine_draws (s : State) (l : Nat) (f : Line → Line) : (s.modifyLine l f).draws = s.draws := rfl

@[simp] theorem State.setLane_pending (s : State) (n : Nat) (la : Lane) : (s.setLane n la).pending = s.pending := rfl
@[simp] theorem State.setLane_link (s : State) (n : Nat) (la : Lane) : (s.setLane n la).link = s.link := rfl
@[simp] theorem State.setLane_clock (s : State) (n : Nat) (la : Lane) : (s.setLane n la).clock = s.clock := rfl
@[simp] theorem State.setLane_elapsed (s : State) (n : Nat) (la : Lane) : (s.setLane n la).elapsed = s.elapsed := rfl
@[simp] theorem State.setLane_params (s : State) (n : Nat) (la : Lane) : (s.setLane n la).params = s.params := rfl
@[simp] theorem State.setLane_latches (s : State) (n : Nat) (la : Lane) : (s.setLane n la).latches = s.latches := rfl
@[simp] theorem State.setLane_persons (s : State) (n : Nat) (la : Lane) : (s.setLane n la).persons = s.persons := rfl
@[simp] theorem State.setLane_cards (s : State) (n : Nat) (la : Lane) : (s.setLane n la).cards = s.cards := rfl
@[simp] theorem State.setLane_cabins (s : State) (n : Nat) (la : Lane) : (s.setLane n la).cabins = s.cabins := rfl
@[simp] theorem State.setLane_folios (s : State) (n : Nat) (la : Lane) : (s.setLane n la).folios = s.folios := rfl
@[simp] theorem State.setLane_venues (s : State) (n : Nat) (la : Lane) : (s.setLane n la).venues = s.venues := rfl
@[simp] theorem State.setLane_upstream (s : State) (n : Nat) (la : Lane) : (s.setLane n la).upstream = s.upstream := rfl
@[simp] theorem State.setLane_epoch (s : State) (n : Nat) (la : Lane) : (s.setLane n la).epoch = s.epoch := rfl
@[simp] theorem State.setLane_journal (s : State) (n : Nat) (la : Lane) : (s.setLane n la).journal = s.journal := rfl
@[simp] theorem State.setLane_retiredThrough (s : State) (n : Nat) (la : Lane) : (s.setLane n la).retiredThrough = s.retiredThrough := rfl
@[simp] theorem State.setLane_scanner (s : State) (n : Nat) (la : Lane) : (s.setLane n la).scanner = s.scanner := rfl
@[simp] theorem State.setLane_deferred (s : State) (n : Nat) (la : Lane) : (s.setLane n la).deferred = s.deferred := rfl
@[simp] theorem State.setLane_intakeWaits (s : State) (n : Nat) (la : Lane) : (s.setLane n la).intakeWaits = s.intakeWaits := rfl
@[simp] theorem State.setLane_lanes (s : State) (n : Nat) (la : Lane) : (s.setLane n la).lanes = s.lanes.set n la := rfl
@[simp] theorem State.setLane_bank0 (s : State) (n : Nat) (la : Lane) : (s.setLane n la).bank0 = s.bank0 := rfl
@[simp] theorem State.setLane_bank1 (s : State) (n : Nat) (la : Lane) : (s.setLane n la).bank1 = s.bank1 := rfl
@[simp] theorem State.setLane_nextCrossing (s : State) (n : Nat) (la : Lane) : (s.setLane n la).nextCrossing = s.nextCrossing := rfl
@[simp] theorem State.setLane_census (s : State) (n : Nat) (la : Lane) : (s.setLane n la).census = s.census := rfl
@[simp] theorem State.setLane_sweeper (s : State) (n : Nat) (la : Lane) : (s.setLane n la).sweeper = s.sweeper := rfl
@[simp] theorem State.setLane_lines (s : State) (n : Nat) (la : Lane) : (s.setLane n la).lines = s.lines := rfl
@[simp] theorem State.setLane_doorIn (s : State) (n : Nat) (la : Lane) : (s.setLane n la).doorIn = s.doorIn := rfl
@[simp] theorem State.setLane_purchaseIn (s : State) (n : Nat) (la : Lane) : (s.setLane n la).purchaseIn = s.purchaseIn := rfl
@[simp] theorem State.setLane_laneIn (s : State) (n : Nat) (la : Lane) : (s.setLane n la).laneIn = s.laneIn := rfl
@[simp] theorem State.setLane_heads (s : State) (n : Nat) (la : Lane) : (s.setLane n la).heads = s.heads := rfl
@[simp] theorem State.setLane_draws (s : State) (n : Nat) (la : Lane) : (s.setLane n la).draws = s.draws := rfl

@[simp] theorem State.modifyCabin_pending (s : State) (k : Nat) (f : Cabin → Cabin) : (s.modifyCabin k f).pending = s.pending := rfl
@[simp] theorem State.modifyCabin_link (s : State) (k : Nat) (f : Cabin → Cabin) : (s.modifyCabin k f).link = s.link := rfl
@[simp] theorem State.modifyCabin_clock (s : State) (k : Nat) (f : Cabin → Cabin) : (s.modifyCabin k f).clock = s.clock := rfl
@[simp] theorem State.modifyCabin_elapsed (s : State) (k : Nat) (f : Cabin → Cabin) : (s.modifyCabin k f).elapsed = s.elapsed := rfl
@[simp] theorem State.modifyCabin_params (s : State) (k : Nat) (f : Cabin → Cabin) : (s.modifyCabin k f).params = s.params := rfl
@[simp] theorem State.modifyCabin_latches (s : State) (k : Nat) (f : Cabin → Cabin) : (s.modifyCabin k f).latches = s.latches := rfl
@[simp] theorem State.modifyCabin_persons (s : State) (k : Nat) (f : Cabin → Cabin) : (s.modifyCabin k f).persons = s.persons := rfl
@[simp] theorem State.modifyCabin_cards (s : State) (k : Nat) (f : Cabin → Cabin) : (s.modifyCabin k f).cards = s.cards := rfl
@[simp] theorem State.modifyCabin_cabins (s : State) (k : Nat) (f : Cabin → Cabin) : (s.modifyCabin k f).cabins = s.cabins.modify k f := rfl
@[simp] theorem State.modifyCabin_folios (s : State) (k : Nat) (f : Cabin → Cabin) : (s.modifyCabin k f).folios = s.folios := rfl
@[simp] theorem State.modifyCabin_venues (s : State) (k : Nat) (f : Cabin → Cabin) : (s.modifyCabin k f).venues = s.venues := rfl
@[simp] theorem State.modifyCabin_upstream (s : State) (k : Nat) (f : Cabin → Cabin) : (s.modifyCabin k f).upstream = s.upstream := rfl
@[simp] theorem State.modifyCabin_epoch (s : State) (k : Nat) (f : Cabin → Cabin) : (s.modifyCabin k f).epoch = s.epoch := rfl
@[simp] theorem State.modifyCabin_journal (s : State) (k : Nat) (f : Cabin → Cabin) : (s.modifyCabin k f).journal = s.journal := rfl
@[simp] theorem State.modifyCabin_retiredThrough (s : State) (k : Nat) (f : Cabin → Cabin) : (s.modifyCabin k f).retiredThrough = s.retiredThrough := rfl
@[simp] theorem State.modifyCabin_scanner (s : State) (k : Nat) (f : Cabin → Cabin) : (s.modifyCabin k f).scanner = s.scanner := rfl
@[simp] theorem State.modifyCabin_deferred (s : State) (k : Nat) (f : Cabin → Cabin) : (s.modifyCabin k f).deferred = s.deferred := rfl
@[simp] theorem State.modifyCabin_intakeWaits (s : State) (k : Nat) (f : Cabin → Cabin) : (s.modifyCabin k f).intakeWaits = s.intakeWaits := rfl
@[simp] theorem State.modifyCabin_lanes (s : State) (k : Nat) (f : Cabin → Cabin) : (s.modifyCabin k f).lanes = s.lanes := rfl
@[simp] theorem State.modifyCabin_bank0 (s : State) (k : Nat) (f : Cabin → Cabin) : (s.modifyCabin k f).bank0 = s.bank0 := rfl
@[simp] theorem State.modifyCabin_bank1 (s : State) (k : Nat) (f : Cabin → Cabin) : (s.modifyCabin k f).bank1 = s.bank1 := rfl
@[simp] theorem State.modifyCabin_nextCrossing (s : State) (k : Nat) (f : Cabin → Cabin) : (s.modifyCabin k f).nextCrossing = s.nextCrossing := rfl
@[simp] theorem State.modifyCabin_census (s : State) (k : Nat) (f : Cabin → Cabin) : (s.modifyCabin k f).census = s.census := rfl
@[simp] theorem State.modifyCabin_sweeper (s : State) (k : Nat) (f : Cabin → Cabin) : (s.modifyCabin k f).sweeper = s.sweeper := rfl
@[simp] theorem State.modifyCabin_lines (s : State) (k : Nat) (f : Cabin → Cabin) : (s.modifyCabin k f).lines = s.lines := rfl
@[simp] theorem State.modifyCabin_doorIn (s : State) (k : Nat) (f : Cabin → Cabin) : (s.modifyCabin k f).doorIn = s.doorIn := rfl
@[simp] theorem State.modifyCabin_purchaseIn (s : State) (k : Nat) (f : Cabin → Cabin) : (s.modifyCabin k f).purchaseIn = s.purchaseIn := rfl
@[simp] theorem State.modifyCabin_laneIn (s : State) (k : Nat) (f : Cabin → Cabin) : (s.modifyCabin k f).laneIn = s.laneIn := rfl
@[simp] theorem State.modifyCabin_heads (s : State) (k : Nat) (f : Cabin → Cabin) : (s.modifyCabin k f).heads = s.heads := rfl
@[simp] theorem State.modifyCabin_draws (s : State) (k : Nat) (f : Cabin → Cabin) : (s.modifyCabin k f).draws = s.draws := rfl

@[simp] theorem State.modifyPerson_pending (s : State) (k : Nat) (f : Person → Person) : (s.modifyPerson k f).pending = s.pending := rfl
@[simp] theorem State.modifyPerson_link (s : State) (k : Nat) (f : Person → Person) : (s.modifyPerson k f).link = s.link := rfl
@[simp] theorem State.modifyPerson_clock (s : State) (k : Nat) (f : Person → Person) : (s.modifyPerson k f).clock = s.clock := rfl
@[simp] theorem State.modifyPerson_elapsed (s : State) (k : Nat) (f : Person → Person) : (s.modifyPerson k f).elapsed = s.elapsed := rfl
@[simp] theorem State.modifyPerson_params (s : State) (k : Nat) (f : Person → Person) : (s.modifyPerson k f).params = s.params := rfl
@[simp] theorem State.modifyPerson_latches (s : State) (k : Nat) (f : Person → Person) : (s.modifyPerson k f).latches = s.latches := rfl
@[simp] theorem State.modifyPerson_persons (s : State) (k : Nat) (f : Person → Person) : (s.modifyPerson k f).persons = s.persons.modify k f := rfl
@[simp] theorem State.modifyPerson_cards (s : State) (k : Nat) (f : Person → Person) : (s.modifyPerson k f).cards = s.cards := rfl
@[simp] theorem State.modifyPerson_cabins (s : State) (k : Nat) (f : Person → Person) : (s.modifyPerson k f).cabins = s.cabins := rfl
@[simp] theorem State.modifyPerson_folios (s : State) (k : Nat) (f : Person → Person) : (s.modifyPerson k f).folios = s.folios := rfl
@[simp] theorem State.modifyPerson_venues (s : State) (k : Nat) (f : Person → Person) : (s.modifyPerson k f).venues = s.venues := rfl
@[simp] theorem State.modifyPerson_upstream (s : State) (k : Nat) (f : Person → Person) : (s.modifyPerson k f).upstream = s.upstream := rfl
@[simp] theorem State.modifyPerson_epoch (s : State) (k : Nat) (f : Person → Person) : (s.modifyPerson k f).epoch = s.epoch := rfl
@[simp] theorem State.modifyPerson_journal (s : State) (k : Nat) (f : Person → Person) : (s.modifyPerson k f).journal = s.journal := rfl
@[simp] theorem State.modifyPerson_retiredThrough (s : State) (k : Nat) (f : Person → Person) : (s.modifyPerson k f).retiredThrough = s.retiredThrough := rfl
@[simp] theorem State.modifyPerson_scanner (s : State) (k : Nat) (f : Person → Person) : (s.modifyPerson k f).scanner = s.scanner := rfl
@[simp] theorem State.modifyPerson_deferred (s : State) (k : Nat) (f : Person → Person) : (s.modifyPerson k f).deferred = s.deferred := rfl
@[simp] theorem State.modifyPerson_intakeWaits (s : State) (k : Nat) (f : Person → Person) : (s.modifyPerson k f).intakeWaits = s.intakeWaits := rfl
@[simp] theorem State.modifyPerson_lanes (s : State) (k : Nat) (f : Person → Person) : (s.modifyPerson k f).lanes = s.lanes := rfl
@[simp] theorem State.modifyPerson_bank0 (s : State) (k : Nat) (f : Person → Person) : (s.modifyPerson k f).bank0 = s.bank0 := rfl
@[simp] theorem State.modifyPerson_bank1 (s : State) (k : Nat) (f : Person → Person) : (s.modifyPerson k f).bank1 = s.bank1 := rfl
@[simp] theorem State.modifyPerson_nextCrossing (s : State) (k : Nat) (f : Person → Person) : (s.modifyPerson k f).nextCrossing = s.nextCrossing := rfl
@[simp] theorem State.modifyPerson_census (s : State) (k : Nat) (f : Person → Person) : (s.modifyPerson k f).census = s.census := rfl
@[simp] theorem State.modifyPerson_sweeper (s : State) (k : Nat) (f : Person → Person) : (s.modifyPerson k f).sweeper = s.sweeper := rfl
@[simp] theorem State.modifyPerson_lines (s : State) (k : Nat) (f : Person → Person) : (s.modifyPerson k f).lines = s.lines := rfl
@[simp] theorem State.modifyPerson_doorIn (s : State) (k : Nat) (f : Person → Person) : (s.modifyPerson k f).doorIn = s.doorIn := rfl
@[simp] theorem State.modifyPerson_purchaseIn (s : State) (k : Nat) (f : Person → Person) : (s.modifyPerson k f).purchaseIn = s.purchaseIn := rfl
@[simp] theorem State.modifyPerson_laneIn (s : State) (k : Nat) (f : Person → Person) : (s.modifyPerson k f).laneIn = s.laneIn := rfl
@[simp] theorem State.modifyPerson_heads (s : State) (k : Nat) (f : Person → Person) : (s.modifyPerson k f).heads = s.heads := rfl
@[simp] theorem State.modifyPerson_draws (s : State) (k : Nat) (f : Person → Person) : (s.modifyPerson k f).draws = s.draws := rfl

@[simp] theorem State.modifyFolio_pending (s : State) (k : Nat) (f : Folio → Folio) : (s.modifyFolio k f).pending = s.pending := rfl
@[simp] theorem State.modifyFolio_link (s : State) (k : Nat) (f : Folio → Folio) : (s.modifyFolio k f).link = s.link := rfl
@[simp] theorem State.modifyFolio_clock (s : State) (k : Nat) (f : Folio → Folio) : (s.modifyFolio k f).clock = s.clock := rfl
@[simp] theorem State.modifyFolio_elapsed (s : State) (k : Nat) (f : Folio → Folio) : (s.modifyFolio k f).elapsed = s.elapsed := rfl
@[simp] theorem State.modifyFolio_params (s : State) (k : Nat) (f : Folio → Folio) : (s.modifyFolio k f).params = s.params := rfl
@[simp] theorem State.modifyFolio_latches (s : State) (k : Nat) (f : Folio → Folio) : (s.modifyFolio k f).latches = s.latches := rfl
@[simp] theorem State.modifyFolio_persons (s : State) (k : Nat) (f : Folio → Folio) : (s.modifyFolio k f).persons = s.persons := rfl
@[simp] theorem State.modifyFolio_cards (s : State) (k : Nat) (f : Folio → Folio) : (s.modifyFolio k f).cards = s.cards := rfl
@[simp] theorem State.modifyFolio_cabins (s : State) (k : Nat) (f : Folio → Folio) : (s.modifyFolio k f).cabins = s.cabins := rfl
@[simp] theorem State.modifyFolio_folios (s : State) (k : Nat) (f : Folio → Folio) : (s.modifyFolio k f).folios = s.folios.modify k f := rfl
@[simp] theorem State.modifyFolio_venues (s : State) (k : Nat) (f : Folio → Folio) : (s.modifyFolio k f).venues = s.venues := rfl
@[simp] theorem State.modifyFolio_upstream (s : State) (k : Nat) (f : Folio → Folio) : (s.modifyFolio k f).upstream = s.upstream := rfl
@[simp] theorem State.modifyFolio_epoch (s : State) (k : Nat) (f : Folio → Folio) : (s.modifyFolio k f).epoch = s.epoch := rfl
@[simp] theorem State.modifyFolio_journal (s : State) (k : Nat) (f : Folio → Folio) : (s.modifyFolio k f).journal = s.journal := rfl
@[simp] theorem State.modifyFolio_retiredThrough (s : State) (k : Nat) (f : Folio → Folio) : (s.modifyFolio k f).retiredThrough = s.retiredThrough := rfl
@[simp] theorem State.modifyFolio_scanner (s : State) (k : Nat) (f : Folio → Folio) : (s.modifyFolio k f).scanner = s.scanner := rfl
@[simp] theorem State.modifyFolio_deferred (s : State) (k : Nat) (f : Folio → Folio) : (s.modifyFolio k f).deferred = s.deferred := rfl
@[simp] theorem State.modifyFolio_intakeWaits (s : State) (k : Nat) (f : Folio → Folio) : (s.modifyFolio k f).intakeWaits = s.intakeWaits := rfl
@[simp] theorem State.modifyFolio_lanes (s : State) (k : Nat) (f : Folio → Folio) : (s.modifyFolio k f).lanes = s.lanes := rfl
@[simp] theorem State.modifyFolio_bank0 (s : State) (k : Nat) (f : Folio → Folio) : (s.modifyFolio k f).bank0 = s.bank0 := rfl
@[simp] theorem State.modifyFolio_bank1 (s : State) (k : Nat) (f : Folio → Folio) : (s.modifyFolio k f).bank1 = s.bank1 := rfl
@[simp] theorem State.modifyFolio_nextCrossing (s : State) (k : Nat) (f : Folio → Folio) : (s.modifyFolio k f).nextCrossing = s.nextCrossing := rfl
@[simp] theorem State.modifyFolio_census (s : State) (k : Nat) (f : Folio → Folio) : (s.modifyFolio k f).census = s.census := rfl
@[simp] theorem State.modifyFolio_sweeper (s : State) (k : Nat) (f : Folio → Folio) : (s.modifyFolio k f).sweeper = s.sweeper := rfl
@[simp] theorem State.modifyFolio_lines (s : State) (k : Nat) (f : Folio → Folio) : (s.modifyFolio k f).lines = s.lines := rfl
@[simp] theorem State.modifyFolio_doorIn (s : State) (k : Nat) (f : Folio → Folio) : (s.modifyFolio k f).doorIn = s.doorIn := rfl
@[simp] theorem State.modifyFolio_purchaseIn (s : State) (k : Nat) (f : Folio → Folio) : (s.modifyFolio k f).purchaseIn = s.purchaseIn := rfl
@[simp] theorem State.modifyFolio_laneIn (s : State) (k : Nat) (f : Folio → Folio) : (s.modifyFolio k f).laneIn = s.laneIn := rfl
@[simp] theorem State.modifyFolio_heads (s : State) (k : Nat) (f : Folio → Folio) : (s.modifyFolio k f).heads = s.heads := rfl
@[simp] theorem State.modifyFolio_draws (s : State) (k : Nat) (f : Folio → Folio) : (s.modifyFolio k f).draws = s.draws := rfl

@[simp] theorem State.setLatch_pending (s : State) (c : NoticeClass) (l : Latch) : (s.setLatch c l).pending = s.pending := rfl
@[simp] theorem State.setLatch_link (s : State) (c : NoticeClass) (l : Latch) : (s.setLatch c l).link = s.link := rfl
@[simp] theorem State.setLatch_clock (s : State) (c : NoticeClass) (l : Latch) : (s.setLatch c l).clock = s.clock := rfl
@[simp] theorem State.setLatch_elapsed (s : State) (c : NoticeClass) (l : Latch) : (s.setLatch c l).elapsed = s.elapsed := rfl
@[simp] theorem State.setLatch_params (s : State) (c : NoticeClass) (l : Latch) : (s.setLatch c l).params = s.params := rfl
@[simp] theorem State.setLatch_latches (s : State) (c : NoticeClass) (l : Latch) : (s.setLatch c l).latches = s.latches.set c.code l := rfl
@[simp] theorem State.setLatch_persons (s : State) (c : NoticeClass) (l : Latch) : (s.setLatch c l).persons = s.persons := rfl
@[simp] theorem State.setLatch_cards (s : State) (c : NoticeClass) (l : Latch) : (s.setLatch c l).cards = s.cards := rfl
@[simp] theorem State.setLatch_cabins (s : State) (c : NoticeClass) (l : Latch) : (s.setLatch c l).cabins = s.cabins := rfl
@[simp] theorem State.setLatch_folios (s : State) (c : NoticeClass) (l : Latch) : (s.setLatch c l).folios = s.folios := rfl
@[simp] theorem State.setLatch_venues (s : State) (c : NoticeClass) (l : Latch) : (s.setLatch c l).venues = s.venues := rfl
@[simp] theorem State.setLatch_upstream (s : State) (c : NoticeClass) (l : Latch) : (s.setLatch c l).upstream = s.upstream := rfl
@[simp] theorem State.setLatch_epoch (s : State) (c : NoticeClass) (l : Latch) : (s.setLatch c l).epoch = s.epoch := rfl
@[simp] theorem State.setLatch_journal (s : State) (c : NoticeClass) (l : Latch) : (s.setLatch c l).journal = s.journal := rfl
@[simp] theorem State.setLatch_retiredThrough (s : State) (c : NoticeClass) (l : Latch) : (s.setLatch c l).retiredThrough = s.retiredThrough := rfl
@[simp] theorem State.setLatch_scanner (s : State) (c : NoticeClass) (l : Latch) : (s.setLatch c l).scanner = s.scanner := rfl
@[simp] theorem State.setLatch_deferred (s : State) (c : NoticeClass) (l : Latch) : (s.setLatch c l).deferred = s.deferred := rfl
@[simp] theorem State.setLatch_intakeWaits (s : State) (c : NoticeClass) (l : Latch) : (s.setLatch c l).intakeWaits = s.intakeWaits := rfl
@[simp] theorem State.setLatch_lanes (s : State) (c : NoticeClass) (l : Latch) : (s.setLatch c l).lanes = s.lanes := rfl
@[simp] theorem State.setLatch_bank0 (s : State) (c : NoticeClass) (l : Latch) : (s.setLatch c l).bank0 = s.bank0 := rfl
@[simp] theorem State.setLatch_bank1 (s : State) (c : NoticeClass) (l : Latch) : (s.setLatch c l).bank1 = s.bank1 := rfl
@[simp] theorem State.setLatch_nextCrossing (s : State) (c : NoticeClass) (l : Latch) : (s.setLatch c l).nextCrossing = s.nextCrossing := rfl
@[simp] theorem State.setLatch_census (s : State) (c : NoticeClass) (l : Latch) : (s.setLatch c l).census = s.census := rfl
@[simp] theorem State.setLatch_sweeper (s : State) (c : NoticeClass) (l : Latch) : (s.setLatch c l).sweeper = s.sweeper := rfl
@[simp] theorem State.setLatch_lines (s : State) (c : NoticeClass) (l : Latch) : (s.setLatch c l).lines = s.lines := rfl
@[simp] theorem State.setLatch_doorIn (s : State) (c : NoticeClass) (l : Latch) : (s.setLatch c l).doorIn = s.doorIn := rfl
@[simp] theorem State.setLatch_purchaseIn (s : State) (c : NoticeClass) (l : Latch) : (s.setLatch c l).purchaseIn = s.purchaseIn := rfl
@[simp] theorem State.setLatch_laneIn (s : State) (c : NoticeClass) (l : Latch) : (s.setLatch c l).laneIn = s.laneIn := rfl
@[simp] theorem State.setLatch_heads (s : State) (c : NoticeClass) (l : Latch) : (s.setLatch c l).heads = s.heads := rfl
@[simp] theorem State.setLatch_draws (s : State) (c : NoticeClass) (l : Latch) : (s.setLatch c l).draws = s.draws := rfl

@[simp] theorem State.raise_pending (s : State) (c : NoticeClass) (x : Subject) : (s.raise c x).pending = s.pending := rfl
@[simp] theorem State.raise_link (s : State) (c : NoticeClass) (x : Subject) : (s.raise c x).link = s.link := rfl
@[simp] theorem State.raise_clock (s : State) (c : NoticeClass) (x : Subject) : (s.raise c x).clock = s.clock := rfl
@[simp] theorem State.raise_elapsed (s : State) (c : NoticeClass) (x : Subject) : (s.raise c x).elapsed = s.elapsed := rfl
@[simp] theorem State.raise_params (s : State) (c : NoticeClass) (x : Subject) : (s.raise c x).params = s.params := rfl
@[simp] theorem State.raise_latches (s : State) (c : NoticeClass) (x : Subject) : (s.raise c x).latches = s.latches.set c.code ((s.latch c).raised x s.clock.time) := rfl
@[simp] theorem State.raise_persons (s : State) (c : NoticeClass) (x : Subject) : (s.raise c x).persons = s.persons := rfl
@[simp] theorem State.raise_cards (s : State) (c : NoticeClass) (x : Subject) : (s.raise c x).cards = s.cards := rfl
@[simp] theorem State.raise_cabins (s : State) (c : NoticeClass) (x : Subject) : (s.raise c x).cabins = s.cabins := rfl
@[simp] theorem State.raise_folios (s : State) (c : NoticeClass) (x : Subject) : (s.raise c x).folios = s.folios := rfl
@[simp] theorem State.raise_venues (s : State) (c : NoticeClass) (x : Subject) : (s.raise c x).venues = s.venues := rfl
@[simp] theorem State.raise_upstream (s : State) (c : NoticeClass) (x : Subject) : (s.raise c x).upstream = s.upstream := rfl
@[simp] theorem State.raise_epoch (s : State) (c : NoticeClass) (x : Subject) : (s.raise c x).epoch = s.epoch := rfl
@[simp] theorem State.raise_journal (s : State) (c : NoticeClass) (x : Subject) : (s.raise c x).journal = s.journal := rfl
@[simp] theorem State.raise_retiredThrough (s : State) (c : NoticeClass) (x : Subject) : (s.raise c x).retiredThrough = s.retiredThrough := rfl
@[simp] theorem State.raise_scanner (s : State) (c : NoticeClass) (x : Subject) : (s.raise c x).scanner = s.scanner := rfl
@[simp] theorem State.raise_deferred (s : State) (c : NoticeClass) (x : Subject) : (s.raise c x).deferred = s.deferred := rfl
@[simp] theorem State.raise_intakeWaits (s : State) (c : NoticeClass) (x : Subject) : (s.raise c x).intakeWaits = s.intakeWaits := rfl
@[simp] theorem State.raise_lanes (s : State) (c : NoticeClass) (x : Subject) : (s.raise c x).lanes = s.lanes := rfl
@[simp] theorem State.raise_bank0 (s : State) (c : NoticeClass) (x : Subject) : (s.raise c x).bank0 = s.bank0 := rfl
@[simp] theorem State.raise_bank1 (s : State) (c : NoticeClass) (x : Subject) : (s.raise c x).bank1 = s.bank1 := rfl
@[simp] theorem State.raise_nextCrossing (s : State) (c : NoticeClass) (x : Subject) : (s.raise c x).nextCrossing = s.nextCrossing := rfl
@[simp] theorem State.raise_census (s : State) (c : NoticeClass) (x : Subject) : (s.raise c x).census = s.census := rfl
@[simp] theorem State.raise_sweeper (s : State) (c : NoticeClass) (x : Subject) : (s.raise c x).sweeper = s.sweeper := rfl
@[simp] theorem State.raise_lines (s : State) (c : NoticeClass) (x : Subject) : (s.raise c x).lines = s.lines := rfl
@[simp] theorem State.raise_doorIn (s : State) (c : NoticeClass) (x : Subject) : (s.raise c x).doorIn = s.doorIn := rfl
@[simp] theorem State.raise_purchaseIn (s : State) (c : NoticeClass) (x : Subject) : (s.raise c x).purchaseIn = s.purchaseIn := rfl
@[simp] theorem State.raise_laneIn (s : State) (c : NoticeClass) (x : Subject) : (s.raise c x).laneIn = s.laneIn := rfl
@[simp] theorem State.raise_heads (s : State) (c : NoticeClass) (x : Subject) : (s.raise c x).heads = s.heads := rfl
@[simp] theorem State.raise_draws (s : State) (c : NoticeClass) (x : Subject) : (s.raise c x).draws = s.draws := rfl

@[simp] theorem State.passTime_pending (s : State) (ms : Nat) : (s.passTime ms).pending = s.pending := rfl
@[simp] theorem State.passTime_link (s : State) (ms : Nat) : (s.passTime ms).link = s.link := rfl
@[simp] theorem State.passTime_clock (s : State) (ms : Nat) : (s.passTime ms).clock = s.clock.pass ms := rfl
@[simp] theorem State.passTime_elapsed (s : State) (ms : Nat) : (s.passTime ms).elapsed = (s.elapsed + ms) % mod32 := rfl
@[simp] theorem State.passTime_params (s : State) (ms : Nat) : (s.passTime ms).params = s.params := rfl
@[simp] theorem State.passTime_latches (s : State) (ms : Nat) : (s.passTime ms).latches = s.latches := rfl
@[simp] theorem State.passTime_persons (s : State) (ms : Nat) : (s.passTime ms).persons = s.persons := rfl
@[simp] theorem State.passTime_cards (s : State) (ms : Nat) : (s.passTime ms).cards = s.cards := rfl
@[simp] theorem State.passTime_cabins (s : State) (ms : Nat) : (s.passTime ms).cabins = s.cabins := rfl
@[simp] theorem State.passTime_folios (s : State) (ms : Nat) : (s.passTime ms).folios = s.folios := rfl
@[simp] theorem State.passTime_venues (s : State) (ms : Nat) : (s.passTime ms).venues = s.venues := rfl
@[simp] theorem State.passTime_upstream (s : State) (ms : Nat) : (s.passTime ms).upstream = s.upstream := rfl
@[simp] theorem State.passTime_epoch (s : State) (ms : Nat) : (s.passTime ms).epoch = s.epoch := rfl
@[simp] theorem State.passTime_journal (s : State) (ms : Nat) : (s.passTime ms).journal = s.journal := rfl
@[simp] theorem State.passTime_retiredThrough (s : State) (ms : Nat) : (s.passTime ms).retiredThrough = s.retiredThrough := rfl
@[simp] theorem State.passTime_scanner (s : State) (ms : Nat) : (s.passTime ms).scanner = s.scanner := rfl
@[simp] theorem State.passTime_deferred (s : State) (ms : Nat) : (s.passTime ms).deferred = s.deferred := rfl
@[simp] theorem State.passTime_intakeWaits (s : State) (ms : Nat) : (s.passTime ms).intakeWaits = s.intakeWaits := rfl
@[simp] theorem State.passTime_lanes (s : State) (ms : Nat) : (s.passTime ms).lanes = s.lanes := rfl
@[simp] theorem State.passTime_bank0 (s : State) (ms : Nat) : (s.passTime ms).bank0 = s.bank0 := rfl
@[simp] theorem State.passTime_bank1 (s : State) (ms : Nat) : (s.passTime ms).bank1 = s.bank1 := rfl
@[simp] theorem State.passTime_nextCrossing (s : State) (ms : Nat) : (s.passTime ms).nextCrossing = s.nextCrossing := rfl
@[simp] theorem State.passTime_census (s : State) (ms : Nat) : (s.passTime ms).census = s.census := rfl
@[simp] theorem State.passTime_sweeper (s : State) (ms : Nat) : (s.passTime ms).sweeper = s.sweeper := rfl
@[simp] theorem State.passTime_lines (s : State) (ms : Nat) : (s.passTime ms).lines = s.lines := rfl
@[simp] theorem State.passTime_doorIn (s : State) (ms : Nat) : (s.passTime ms).doorIn = s.doorIn := rfl
@[simp] theorem State.passTime_purchaseIn (s : State) (ms : Nat) : (s.passTime ms).purchaseIn = s.purchaseIn := rfl
@[simp] theorem State.passTime_laneIn (s : State) (ms : Nat) : (s.passTime ms).laneIn = s.laneIn := rfl
@[simp] theorem State.passTime_heads (s : State) (ms : Nat) : (s.passTime ms).heads = s.heads := rfl
@[simp] theorem State.passTime_draws (s : State) (ms : Nat) : (s.passTime ms).draws = s.draws := rfl

@[simp] theorem State.setIntake_pending (s : State) (c : HeadClass) (q : Intake) : (s.setIntake c q).pending = s.pending := by cases c <;> rfl
@[simp] theorem State.setIntake_link (s : State) (c : HeadClass) (q : Intake) : (s.setIntake c q).link = s.link := by cases c <;> rfl
@[simp] theorem State.setIntake_clock (s : State) (c : HeadClass) (q : Intake) : (s.setIntake c q).clock = s.clock := by cases c <;> rfl
@[simp] theorem State.setIntake_elapsed (s : State) (c : HeadClass) (q : Intake) : (s.setIntake c q).elapsed = s.elapsed := by cases c <;> rfl
@[simp] theorem State.setIntake_params (s : State) (c : HeadClass) (q : Intake) : (s.setIntake c q).params = s.params := by cases c <;> rfl
@[simp] theorem State.setIntake_latches (s : State) (c : HeadClass) (q : Intake) : (s.setIntake c q).latches = s.latches := by cases c <;> rfl
@[simp] theorem State.setIntake_persons (s : State) (c : HeadClass) (q : Intake) : (s.setIntake c q).persons = s.persons := by cases c <;> rfl
@[simp] theorem State.setIntake_cards (s : State) (c : HeadClass) (q : Intake) : (s.setIntake c q).cards = s.cards := by cases c <;> rfl
@[simp] theorem State.setIntake_cabins (s : State) (c : HeadClass) (q : Intake) : (s.setIntake c q).cabins = s.cabins := by cases c <;> rfl
@[simp] theorem State.setIntake_folios (s : State) (c : HeadClass) (q : Intake) : (s.setIntake c q).folios = s.folios := by cases c <;> rfl
@[simp] theorem State.setIntake_venues (s : State) (c : HeadClass) (q : Intake) : (s.setIntake c q).venues = s.venues := by cases c <;> rfl
@[simp] theorem State.setIntake_upstream (s : State) (c : HeadClass) (q : Intake) : (s.setIntake c q).upstream = s.upstream := by cases c <;> rfl
@[simp] theorem State.setIntake_epoch (s : State) (c : HeadClass) (q : Intake) : (s.setIntake c q).epoch = s.epoch := by cases c <;> rfl
@[simp] theorem State.setIntake_journal (s : State) (c : HeadClass) (q : Intake) : (s.setIntake c q).journal = s.journal := by cases c <;> rfl
@[simp] theorem State.setIntake_retiredThrough (s : State) (c : HeadClass) (q : Intake) : (s.setIntake c q).retiredThrough = s.retiredThrough := by cases c <;> rfl
@[simp] theorem State.setIntake_scanner (s : State) (c : HeadClass) (q : Intake) : (s.setIntake c q).scanner = s.scanner := by cases c <;> rfl
@[simp] theorem State.setIntake_deferred (s : State) (c : HeadClass) (q : Intake) : (s.setIntake c q).deferred = s.deferred := by cases c <;> rfl
@[simp] theorem State.setIntake_intakeWaits (s : State) (c : HeadClass) (q : Intake) : (s.setIntake c q).intakeWaits = s.intakeWaits := by cases c <;> rfl
@[simp] theorem State.setIntake_lanes (s : State) (c : HeadClass) (q : Intake) : (s.setIntake c q).lanes = s.lanes := by cases c <;> rfl
@[simp] theorem State.setIntake_bank0 (s : State) (c : HeadClass) (q : Intake) : (s.setIntake c q).bank0 = s.bank0 := by cases c <;> rfl
@[simp] theorem State.setIntake_bank1 (s : State) (c : HeadClass) (q : Intake) : (s.setIntake c q).bank1 = s.bank1 := by cases c <;> rfl
@[simp] theorem State.setIntake_nextCrossing (s : State) (c : HeadClass) (q : Intake) : (s.setIntake c q).nextCrossing = s.nextCrossing := by cases c <;> rfl
@[simp] theorem State.setIntake_census (s : State) (c : HeadClass) (q : Intake) : (s.setIntake c q).census = s.census := by cases c <;> rfl
@[simp] theorem State.setIntake_sweeper (s : State) (c : HeadClass) (q : Intake) : (s.setIntake c q).sweeper = s.sweeper := by cases c <;> rfl
@[simp] theorem State.setIntake_lines (s : State) (c : HeadClass) (q : Intake) : (s.setIntake c q).lines = s.lines := by cases c <;> rfl
@[simp] theorem State.setIntake_heads (s : State) (c : HeadClass) (q : Intake) : (s.setIntake c q).heads = s.heads := by cases c <;> rfl
@[simp] theorem State.setIntake_draws (s : State) (c : HeadClass) (q : Intake) : (s.setIntake c q).draws = s.draws := by cases c <;> rfl

@[simp] theorem State.setBank_pending (s : State) (n : Nat) (b : Bank) : (s.setBank n b).pending = s.pending := by unfold State.setBank; split <;> rfl
@[simp] theorem State.setBank_link (s : State) (n : Nat) (b : Bank) : (s.setBank n b).link = s.link := by unfold State.setBank; split <;> rfl
@[simp] theorem State.setBank_clock (s : State) (n : Nat) (b : Bank) : (s.setBank n b).clock = s.clock := by unfold State.setBank; split <;> rfl
@[simp] theorem State.setBank_elapsed (s : State) (n : Nat) (b : Bank) : (s.setBank n b).elapsed = s.elapsed := by unfold State.setBank; split <;> rfl
@[simp] theorem State.setBank_params (s : State) (n : Nat) (b : Bank) : (s.setBank n b).params = s.params := by unfold State.setBank; split <;> rfl
@[simp] theorem State.setBank_latches (s : State) (n : Nat) (b : Bank) : (s.setBank n b).latches = s.latches := by unfold State.setBank; split <;> rfl
@[simp] theorem State.setBank_persons (s : State) (n : Nat) (b : Bank) : (s.setBank n b).persons = s.persons := by unfold State.setBank; split <;> rfl
@[simp] theorem State.setBank_cards (s : State) (n : Nat) (b : Bank) : (s.setBank n b).cards = s.cards := by unfold State.setBank; split <;> rfl
@[simp] theorem State.setBank_cabins (s : State) (n : Nat) (b : Bank) : (s.setBank n b).cabins = s.cabins := by unfold State.setBank; split <;> rfl
@[simp] theorem State.setBank_folios (s : State) (n : Nat) (b : Bank) : (s.setBank n b).folios = s.folios := by unfold State.setBank; split <;> rfl
@[simp] theorem State.setBank_venues (s : State) (n : Nat) (b : Bank) : (s.setBank n b).venues = s.venues := by unfold State.setBank; split <;> rfl
@[simp] theorem State.setBank_upstream (s : State) (n : Nat) (b : Bank) : (s.setBank n b).upstream = s.upstream := by unfold State.setBank; split <;> rfl
@[simp] theorem State.setBank_epoch (s : State) (n : Nat) (b : Bank) : (s.setBank n b).epoch = s.epoch := by unfold State.setBank; split <;> rfl
@[simp] theorem State.setBank_journal (s : State) (n : Nat) (b : Bank) : (s.setBank n b).journal = s.journal := by unfold State.setBank; split <;> rfl
@[simp] theorem State.setBank_retiredThrough (s : State) (n : Nat) (b : Bank) : (s.setBank n b).retiredThrough = s.retiredThrough := by unfold State.setBank; split <;> rfl
@[simp] theorem State.setBank_scanner (s : State) (n : Nat) (b : Bank) : (s.setBank n b).scanner = s.scanner := by unfold State.setBank; split <;> rfl
@[simp] theorem State.setBank_deferred (s : State) (n : Nat) (b : Bank) : (s.setBank n b).deferred = s.deferred := by unfold State.setBank; split <;> rfl
@[simp] theorem State.setBank_intakeWaits (s : State) (n : Nat) (b : Bank) : (s.setBank n b).intakeWaits = s.intakeWaits := by unfold State.setBank; split <;> rfl
@[simp] theorem State.setBank_lanes (s : State) (n : Nat) (b : Bank) : (s.setBank n b).lanes = s.lanes := by unfold State.setBank; split <;> rfl
@[simp] theorem State.setBank_bank0 (s : State) (n : Nat) (b : Bank) : (s.setBank n b).bank0 = if n = 0 then b else s.bank0 := by unfold State.setBank; split <;> rfl
@[simp] theorem State.setBank_bank1 (s : State) (n : Nat) (b : Bank) : (s.setBank n b).bank1 = if n = 0 then s.bank1 else b := by unfold State.setBank; split <;> rfl
@[simp] theorem State.setBank_nextCrossing (s : State) (n : Nat) (b : Bank) : (s.setBank n b).nextCrossing = s.nextCrossing := by unfold State.setBank; split <;> rfl
@[simp] theorem State.setBank_census (s : State) (n : Nat) (b : Bank) : (s.setBank n b).census = s.census := by unfold State.setBank; split <;> rfl
@[simp] theorem State.setBank_sweeper (s : State) (n : Nat) (b : Bank) : (s.setBank n b).sweeper = s.sweeper := by unfold State.setBank; split <;> rfl
@[simp] theorem State.setBank_lines (s : State) (n : Nat) (b : Bank) : (s.setBank n b).lines = s.lines := by unfold State.setBank; split <;> rfl
@[simp] theorem State.setBank_doorIn (s : State) (n : Nat) (b : Bank) : (s.setBank n b).doorIn = s.doorIn := by unfold State.setBank; split <;> rfl
@[simp] theorem State.setBank_purchaseIn (s : State) (n : Nat) (b : Bank) : (s.setBank n b).purchaseIn = s.purchaseIn := by unfold State.setBank; split <;> rfl
@[simp] theorem State.setBank_laneIn (s : State) (n : Nat) (b : Bank) : (s.setBank n b).laneIn = s.laneIn := by unfold State.setBank; split <;> rfl
@[simp] theorem State.setBank_heads (s : State) (n : Nat) (b : Bank) : (s.setBank n b).heads = s.heads := by unfold State.setBank; split <;> rfl
@[simp] theorem State.setBank_draws (s : State) (n : Nat) (b : Bank) : (s.setBank n b).draws = s.draws := by unfold State.setBank; split <;> rfl

/-! ## Accessors after an update -/

@[simp] theorem State.intake_setIntake (s : State) (c d : HeadClass) (q : Intake) :
    (s.setIntake c q).intake d = if d = c then q else s.intake d := by cases c <;> cases d <;> rfl

theorem State.line_def (s : State) (l : Nat) : s.line l = (s.lines.get l).getD Line.powerOn := rfl

theorem State.line_of_lines {s t : State} (h : t.lines = s.lines) (l : Nat) : t.line l = s.line l := by simp [State.line, h]

theorem State.line_set {s t : State} {m : Nat} {ln : Line} (h : t.lines = s.lines.set m ln) (l : Nat) :
    t.line l = if l = m then ln else s.line l := by
  simp only [State.line, h, Table.get_set]
  split <;> rfl

@[simp] theorem State.line_setLine (s : State) (m l : Nat) (ln : Line) : (s.setLine m ln).line l = if l = m then ln else s.line l :=
  State.line_set rfl l

@[simp] theorem State.line_modifyLine (s : State) (m l : Nat) (f : Line → Line) :
    (s.modifyLine m f).line l = if l = m then f (s.line m) else s.line l := State.line_set rfl l

theorem State.lane_of_lanes {s t : State} (h : t.lanes = s.lanes) (n : Nat) : t.lane n = s.lane n := by simp [State.lane, h]

@[simp] theorem State.lane_setLane (s : State) (m n : Nat) (la : Lane) : (s.setLane m la).lane n = if n = m then la else s.lane n := by
  simp only [State.lane, State.setLane_lanes, Table.get_set]
  split <;> rfl

theorem NoticeClass.code_inj {c d : NoticeClass} : c.code = d.code ↔ c = d := by cases c <;> cases d <;> decide

@[simp] theorem State.latch_setLatch (s : State) (c d : NoticeClass) (l : Latch) :
    (s.setLatch c l).latch d = if d = c then l else s.latch d := by
  simp only [State.latch, State.setLatch_latches, Table.get_set, NoticeClass.code_inj]
  split <;> rfl

@[simp] theorem State.latch_raise (s : State) (c d : NoticeClass) (x : Subject) :
    (s.raise c x).latch d = if d = c then (s.latch c).raised x s.clock.time else s.latch d := State.latch_setLatch s c d _

theorem State.latch_of_latches {s t : State} (h : t.latches = s.latches) (c : NoticeClass) : t.latch c = s.latch c := by
  simp [State.latch, h]

theorem HeadId.inRange_iff (h : HeadId) : h.inRange = true ↔ h.line < 16 ∧ 1 ≤ h.address ∧ h.address ≤ 200 := by
  simp [HeadId.inRange, and_assoc]

/-- Different lines and addresses have different keys. -/
theorem HeadId.key_inj {g h : HeadId} (hg : g.address < 256) (hh : h.address < 256) : g.key = h.key ↔ g = h := by
  obtain ⟨gl, ga⟩ := g
  obtain ⟨hl, ha⟩ := h
  simp only [HeadId.key, HeadId.mk.injEq] at *
  omega

theorem HeadId.address_lt {h : HeadId} (hh : h.inRange = true) : h.address < 256 := by
  rw [HeadId.inRange_iff] at hh
  omega

theorem HeadId.ofKey_key {h : HeadId} (hh : h.inRange = true) : HeadId.ofKey h.key = h := by
  rw [HeadId.inRange_iff] at hh
  obtain ⟨l, a⟩ := h
  simp only [HeadId.key, HeadId.ofKey, HeadId.mk.injEq] at *
  omega

theorem State.inRange_of_head {s : State} {h : HeadId} {hd : Head} (e : s.head? h = some hd) : h.inRange = true := by
  unfold State.head? at e
  split at e
  · assumption
  · cases e

theorem State.heads_get_of_head {s : State} {h : HeadId} {hd : Head} (e : s.head? h = some hd) : s.heads.get h.key = some hd := by
  unfold State.head? at e
  split at e
  · exact e
  · cases e

theorem State.head_of_heads {s t : State} (h : t.heads = s.heads) (g : HeadId) : t.head? g = s.head? g := by simp [State.head?, h]

/-- A head reads as it was written, and every other head as before. -/
theorem State.head_set {s t : State} {h : HeadId} {hd : Head} (hh : h.inRange = true) (e : t.heads = s.heads.set h.key hd) (g : HeadId) :
    t.head? g = if g = h then some hd else s.head? g := by
  unfold State.head?
  rw [e]
  by_cases hg : g.inRange = true
  · simp only [hg, ↓reduceIte, Table.get_set, HeadId.key_inj (HeadId.address_lt hg) (HeadId.address_lt hh)]
  · rw [if_neg hg, if_neg hg, if_neg]
    rintro rfl
    exact hg hh

theorem State.head_modifyHead (s : State) {h : HeadId} (hh : h.address < 256) (f : Head → Head) (g : HeadId) :
    (s.modifyHead h f).head? g = if g = h then (s.head? h).map f else s.head? g := by
  unfold State.head?
  by_cases hg : g.inRange = true
  · simp only [hg, ↓reduceIte, State.modifyHead_heads, Table.get_modify, HeadId.key_inj (HeadId.address_lt hg) hh]
    by_cases e : g = h
    · subst e; simp [hg]
    · simp [e]
  · by_cases e : g = h
    · subst e; simp [hg]
    · simp [hg, e]

end Sys2Proof.Machine
end

