-- ==== Sys2Proof/Laws/Requests.lean ====
section
/-! SUPPORT. What serving a request does, and what keeping parts of the state means, said once for the proofs of the requests. -/

namespace Sys2Proof.Machine

open Sys2Proof

/-! ## Requests -/

/-- A ready request is the next of its block. -/
theorem State.nextFor_of_ready {s : State} {c : Instr} {kind : Nat} {tag : Byte} (hr : requestOf c = some (kind, tag))
    (h : s.ready c = true) : s.link.nextFor (blockOf kind) = some c := by
  simpa [State.ready, hr] using h

/-- A ready request is in hand. -/
theorem State.mem_inHand_of_ready {s : State} {c : Instr} (h : s.ready c = true) : c ∈ s.link.inHand := by
  unfold State.ready at h
  split at h
  · exact List.mem_of_find?_eq_some (of_decide_eq_true h)
  · cases h

/-- Serving a ready request: the work is done and its reply queued. -/
theorem State.serve_ready {s : State} {c : Instr} {work : State → Answer} {kind : Nat} {tag : Byte}
    (hr : requestOf c = some (kind, tag)) (h : s.ready c = true) :
    s.serve c work =
      { (work s).state with link := (work s).state.link.answered c kind tag (work s).status (work s).body } := by
  have hm := State.mem_inHand_of_ready h
  have hn := State.nextFor_of_ready hr h
  simp [State.serve, hr, State.received, hm, hn]

/-- A command that serves a ready request answers what its work makes. -/
theorem answers_of_serve {c : Instr} {s t : State} {work : State → Answer} {status : Status} {body : List Byte} {kind : Nat}
    {tag : Byte} (hr : requestOf c = some (kind, tag)) (h : s.ready c = true) (he : exec c s = .next (s.serve c work))
    (hw : work s = ⟨t, status, body⟩) : Answers c s t status body :=
  ⟨kind, tag, hr, by rw [he, State.serve_ready hr h, hw]⟩

/-! ## Keeping parts of the state -/

theorem Part.same_refl (p : Part) (s : State) : p.same s s := by cases p <;> rfl

theorem Part.same_trans {p : Part} {s t u : State} (h : p.same s t) (k : p.same t u) : p.same s u := by
  cases p <;> exact Eq.trans k h

/-- A state keeps every part of itself. -/
theorem keeps_refl (l : List Part) (s : State) : Keeps l s s := fun p _ => p.same_refl s

/-- Changes one after the other keep what both keep. -/
theorem Keeps.trans {l : List Part} {s t u : State} (h : Keeps l s t) (k : Keeps l t u) : Keeps l s u :=
  fun p hp => Part.same_trans (h p hp) (k p hp)

/-- What keeps more keeps less. -/
theorem Keeps.weaken {l m : List Part} {s t : State} (h : Keeps l s t) (sub : l ⊆ m) : Keeps m s t := fun p hp => h p (fun k => hp (sub k))

/-- A fold whose every step keeps the parts keeps them. -/
theorem keeps_foldl {β : Type} {l : List Part} (f : State → β → State) (h : ∀ s b, Keeps l s (f s b)) (bs : List β) (s : State) :
    Keeps l s (bs.foldl f s) := by
  induction bs generalizing s with
  | nil => exact keeps_refl l s
  | cons b rest ih => exact (h s b).trans (ih (f s b))

end Sys2Proof.Machine
end

