-- ==== Sys2Proof/Laws/Frames.lean ====
section
/-! SUPPORT. What each shared operation may touch, said once: every part of the state outside the list is as it was. -/

namespace Sys2Proof.Machine

open Sys2Proof

variable (s : State)

/-! ## Plain writes -/

theorem passTime_keeps (ms : Nat) : Keeps [.elapsed, .clock] s (s.passTime ms) := by
  intro p hp; cases p <;> first | rfl | simp at hp

theorem raise_keeps (c : NoticeClass) (x : Subject) : Keeps [.latches] s (s.raise c x) := by
  intro p hp; cases p <;> first | rfl | simp at hp

theorem modifyHead_keeps (h : HeadId) (f : Head → Head) : Keeps [.heads] s (s.modifyHead h f) := by
  intro p hp; cases p <;> first | rfl | simp at hp

theorem modifyLine_keeps (l : Nat) (f : Line → Line) : Keeps [.lines] s (s.modifyLine l f) := by
  intro p hp; cases p <;> first | rfl | simp at hp

theorem setLane_keeps (n : Nat) (la : Lane) : Keeps [.lanes] s (s.setLane n la) := by
  intro p hp; cases p <;> first | rfl | simp at hp

theorem modifyCabin_keeps (k : Nat) (f : Cabin → Cabin) : Keeps [.cabins] s (s.modifyCabin k f) := by
  intro p hp; cases p <;> first | rfl | simp at hp

theorem modifyPerson_keeps (k : Nat) (f : Person → Person) : Keeps [.persons] s (s.modifyPerson k f) := by
  intro p hp; cases p <;> first | rfl | simp at hp

theorem modifyFolio_keeps (k : Nat) (f : Folio → Folio) : Keeps [.folios] s (s.modifyFolio k f) := by
  intro p hp; cases p <;> first | rfl | simp at hp

theorem setIntake_keeps (c : HeadClass) (q : Intake) : Keeps [.doorIn, .purchaseIn, .laneIn] s (s.setIntake c q) := by
  intro p hp; cases c <;> cases p <;> first | rfl | simp at hp

theorem setBank_keeps (n : Nat) (b : Bank) : Keeps [.bank0, .bank1] s (s.setBank n b) := by
  intro p hp
  unfold State.setBank
  split <;> cases p <;> first | rfl | simp at hp

/-! ## Queues and intakes -/

theorem dropOldest_keeps (c : HeadClass) : Keeps [.doorIn, .purchaseIn, .laneIn] s (s.dropOldest c) := setIntake_keeps s c _

theorem giveBackIntake_keeps (c : HeadClass) : Keeps [.doorIn, .purchaseIn, .laneIn] s (s.giveBackIntake c) := setIntake_keeps s c _

theorem giveBackOut_keeps (l : Nat) : Keeps [.lines] s (s.giveBackOut l) := modifyLine_keeps s l _

theorem giveBackEntry_keeps (e : Entry) : Keeps [.lines] s (s.giveBackEntry e) := by
  unfold State.giveBackEntry
  split
  · exact giveBackOut_keeps s _
  · exact keeps_refl _ s

theorem giveBackPoll_keeps (l : Nat) (holds : Option HeadClass) : Keeps [.lines, .doorIn, .purchaseIn, .laneIn] s (s.giveBackPoll l holds) := by
  cases holds with
  | none => exact keeps_refl _ s
  | some c => exact ((giveBackIntake_keeps s c).weaken (by simp)).trans ((giveBackOut_keeps _ l).weaken (by simp))

theorem enterIntake_keeps (h : HeadId) (c : HeadClass) (e : Event) : Keeps [.lines, .doorIn, .purchaseIn, .laneIn] s (s.enterIntake h c e) := by
  unfold State.enterIntake
  split
  · exact (setIntake_keeps s c _).weaken (by simp)
  · exact ((setIntake_keeps s c _).weaken (by simp)).trans ((giveBackOut_keeps _ _).weaken (by simp))

theorem sendDecision_keeps (e : Entry) (x : FrameContent) : Keeps [.lines] s (s.sendDecision e x) := modifyLine_keeps s _ _

theorem lineDeparture_keeps (h : HeadId) : Keeps [.lines, .doorIn, .purchaseIn, .laneIn] s (s.lineDeparture h) := by
  intro p hp; cases p <;> first | rfl | simp at hp

/-! ## Cabins -/

theorem indicatorWork_keeps (k : Nat) : Keeps [.cabins, .lines] s (s.indicatorWork k) := by
  unfold State.indicatorWork
  split
  · exact keeps_refl _ s
  · split
    · exact (modifyCabin_keeps s k _).weaken (by simp)
    · split
      · exact ((modifyLine_keeps s _ _).weaken (by simp)).trans ((modifyCabin_keeps _ k _).weaken (by simp))
      · exact (modifyCabin_keeps s k _).weaken (by simp)

theorem privacyLapse_keeps (k : Nat) : Keeps [.cabins, .lines] s (s.privacyLapse k) := by
  unfold State.privacyLapse
  split
  · exact keeps_refl _ s
  · split
    · exact ((modifyCabin_keeps s k _).weaken (by simp)).trans (indicatorWork_keeps _ k)
    · exact keeps_refl _ s

theorem countDown_keeps (k : Nat) : Keeps [.cabins, .lines] s (s.countDown k) := by
  unfold State.countDown
  split
  · exact keeps_refl _ s
  · have h := (modifyCabin_keeps s k (fun c => { c with aboard := c.aboard - 1 })).weaken (m := [.cabins, .lines]) (by simp)
    split
    · exact h.trans (privacyLapse_keeps _ k)
    · exact h

theorem countUp_keeps (k : Nat) : Keeps [.cabins] s (s.countUp k) := modifyCabin_keeps s k _

theorem joinCabin_keeps (slot : Nat) (p : Presence) (n : Nat) : Keeps [.cabins] s (s.joinCabin slot p n) := by
  unfold State.joinCabin
  split
  · exact keeps_refl _ s
  · split
    · exact (modifyCabin_keeps s _ _).trans (countUp_keeps _ _)
    · exact modifyCabin_keeps s _ _

theorem leaveCabin_keeps (slot : Nat) (p : Presence) (n : Nat) : Keeps [.cabins, .lines] s (s.leaveCabin slot p n) := by
  unfold State.leaveCabin
  split
  · exact keeps_refl _ s
  · split
    · exact ((modifyCabin_keeps s _ _).weaken (by simp)).trans (countDown_keeps _ _)
    · exact (modifyCabin_keeps s _ _).weaken (by simp)

theorem presenceAtCabin_keeps (a b : Presence) (n : Nat) : Keeps [.cabins, .lines] s (s.presenceAtCabin a b n) := by
  unfold State.presenceAtCabin
  split
  · exact keeps_refl _ s
  · split
    · exact (countUp_keeps s _).weaken (by simp)
    · split
      · exact countDown_keeps s _
      · exact keeps_refl _ s

theorem presenceAtCabins_keeps (ns : List Nat) (a b : Presence) : Keeps [.cabins, .lines] s (s.presenceAtCabins ns a b) :=
  keeps_foldl _ (fun s n => presenceAtCabin_keeps s a b n) ns s

theorem unbindCabin_keeps (n : Nat) : Keeps [.cabins] s (s.unbindCabin n) := by
  unfold State.unbindCabin
  split
  · exact keeps_refl _ s
  · exact modifyCabin_keeps s _ _

theorem bindCabin_keeps (n : Nat) (h : HeadId) : Keeps [.cabins] s (s.bindCabin n h) := by
  unfold State.bindCabin
  split
  · exact keeps_refl _ s
  · exact modifyCabin_keeps s _ _

theorem cabinEntry_keeps (hd : Head) : Keeps [.cabins, .lines] s (s.cabinEntry hd) := by
  unfold State.cabinEntry
  split
  · split
    · exact indicatorWork_keeps s _
    · exact keeps_refl _ s
  · exact keeps_refl _ s
  · exact keeps_refl _ s

theorem indicatorLost_keeps (n : Nat) : Keeps [.cabins] s (s.indicatorLost n) := by
  unfold State.indicatorLost
  split
  · exact keeps_refl _ s
  · exact modifyCabin_keeps s _ _

/-! ## Charges -/

theorem evaluateJournal_keeps : Keeps [.latches] s s.evaluateJournal := by
  unfold State.evaluateJournal
  split
  · exact raise_keeps s _ _
  · exact keeps_refl _ s

theorem releaseAmounts_keeps (h : Hold) : Keeps [.folios, .persons] s (s.releaseAmounts h) :=
  ((modifyFolio_keeps s _ _).weaken (by simp)).trans ((modifyPerson_keeps _ _ _).weaken (by simp))

theorem releaseHold_keeps (id : HeadId) (h : Hold) : Keeps [.folios, .persons, .heads] s (s.releaseHold id h) :=
  ((releaseAmounts_keeps s h).weaken (by simp)).trans ((modifyHead_keeps _ _ _).weaken (by simp))

theorem holdDeparture_keeps (id : HeadId) : Keeps [.folios, .persons, .heads, .deferred] s (s.holdDeparture id) := by
  unfold State.holdDeparture
  split
  · exact keeps_refl _ s
  · split
    · exact keeps_refl _ s
    · split
      · intro p hp; cases p <;> first | rfl | simp at hp
      · exact (releaseHold_keeps s id _).weaken (by simp)

theorem applyConfirm_keeps (h : Hold) : Keeps [.journal, .folios, .persons, .latches] s (s.applyConfirm h) := by
  have a : Keeps [.journal, .folios, .persons, .latches] s { s with journal := s.journal ++ [s.entryOf h s.nextCharge] } := by
    intro p hp; cases p <;> first | rfl | simp at hp
  exact ((a.trans ((modifyFolio_keeps _ _ _).weaken (by simp))).trans ((modifyPerson_keeps _ _ _).weaken (by simp))).trans
    ((evaluateJournal_keeps _).weaken (by simp))

theorem applyDeferred_keeps (d : Deferred) : Keeps [.journal, .folios, .persons, .latches, .heads, .lines] s (s.applyDeferred d) := by
  unfold State.applyDeferred
  split
  · exact (applyConfirm_keeps s _).weaken (by simp)
  · split
    · exact keeps_refl _ s
    · rename_i h _
      have a := ((applyConfirm_keeps s h).weaken (m := [.journal, .folios, .persons, .latches, .heads, .lines]) (by simp)).trans
        ((modifyHead_keeps _ d.head (fun hd => { hd with hold := none })).weaken (by simp))
      simp only
      split
      · exact a.trans ((modifyLine_keeps _ _ _).weaken (by simp))
      · exact a

theorem completeReconcile_keeps (sc : Scan) :
    Keeps [.folios, .persons, .heads, .lines, .latches, .journal, .scanner, .deferred, .intakeWaits] s (s.completeReconcile sc) := by
  have a : Keeps [.folios, .persons, .heads, .lines, .latches, .journal, .scanner, .deferred, .intakeWaits] s
      (((s.modifyFolio sc.slot (fun f => f.installed sc)).raise .RECONCILE_DONE (.folio sc.slot)).deferred.foldl State.applyDeferred
        ((s.modifyFolio sc.slot (fun f => f.installed sc)).raise .RECONCILE_DONE (.folio sc.slot))) :=
    (((modifyFolio_keeps s _ _).weaken (by simp)).trans ((raise_keeps _ _ _).weaken (by simp))).trans
      ((keeps_foldl _ applyDeferred_keeps _ _).weaken (by simp))
  refine a.trans ?_
  intro p hp; cases p <;> first | rfl | simp at hp

theorem bookRetired_keeps (e : JournalEntry) : Keeps [.folios] s (s.bookRetired e) := by
  unfold State.bookRetired
  split
  · exact keeps_refl _ s
  · split
    · exact modifyFolio_keeps s _ _
    · exact keeps_refl _ s

/-! ## Census, banks and crossings -/

theorem censusHandoff_keeps (slot : Nat) (a b : Option Standing) : Keeps [.census, .sweeper] s (s.censusHandoff slot a b) := by
  intro p hp; cases p <;> first | rfl | simp at hp

theorem removeBankHolds_keeps : Keeps [.lanes] s s.removeBankHolds := by
  intro p hp; cases p <;> first | rfl | simp at hp

theorem addBankHolds_keeps : Keeps [.lanes] s s.addBankHolds := by
  intro p hp; cases p <;> first | rfl | simp at hp

theorem swapBanks_keeps : Keeps [.bank0, .bank1, .lanes, .latches] s s.swapBanks :=
  ((((setBank_keeps s _ _).weaken (by simp)).trans ((setBank_keeps _ _ _).weaken (by simp))).trans
    ((removeBankHolds_keeps _).weaken (by simp))).trans ((raise_keeps _ _ _).weaken (by simp))

theorem swapCheck_keeps : Keeps [.bank0, .bank1, .lanes, .latches] s s.swapCheck := by
  unfold State.swapCheck
  split
  · exact swapBanks_keeps s
  · exact keeps_refl _ s

theorem appendCrossing_keeps (c : Crossing) : Keeps [.bank0, .bank1, .nextCrossing] s (s.appendCrossing c) := by
  refine ((setBank_keeps s s.fillingNumber
    ⟨s.filling.state, s.filling.records ++ [{ c with number := s.nextCrossing }]⟩).weaken (m := [.bank0, .bank1, .nextCrossing])
    (by simp)).trans ?_
  intro p hp; cases p <;> first | rfl | simp at hp

theorem changePresence_keeps (slot : Nat) (p : Person) (after : Presence) :
    Keeps [.persons, .census, .sweeper, .cabins, .lines] s (s.changePresence slot p after) := by
  have a : Keeps [.persons, .census, .sweeper, .cabins, .lines] s
      { s with persons := s.persons.set slot { p with presence := after, lastCrossing := some s.clock.time } } := by
    intro p hp; cases p <;> first | rfl | simp at hp
  exact (a.trans ((censusHandoff_keeps _ _ _ _).weaken (by simp))).trans ((presenceAtCabins_keeps _ _ _ _).weaken (by simp))

theorem commitCrossing_keeps (n : Nat) (pc : Pending) (cause : Cause) :
    Keeps [.persons, .census, .sweeper, .cabins, .lines, .lanes, .bank0, .bank1, .nextCrossing, .latches] s (s.commitCrossing n pc cause) := by
  unfold State.commitCrossing
  split
  · exact keeps_refl _ s
  · exact ((((changePresence_keeps s _ _ _).weaken (by simp)).trans ((appendCrossing_keeps _ _).weaken (by simp))).trans
      ((setLane_keeps _ _ _).weaken (by simp))).trans ((swapCheck_keeps _).weaken (by simp))

theorem abandonCrossing_keeps (n : Nat) : Keeps [.lanes] s (s.abandonCrossing n) := setLane_keeps s _ _

theorem loseCrossing_keeps (n : Nat) : Keeps [.lanes, .latches] s (s.loseCrossing n) :=
  ((abandonCrossing_keeps s n).weaken (by simp)).trans ((raise_keeps _ _ _).weaken (by simp))

theorem laneDeparture_keeps (n : Nat) : Keeps [.lanes, .latches] s (s.laneDeparture n) := by
  have b : Keeps [.lanes, .latches] s (if (s.lane n).pending.isSome = true then s.loseCrossing n else s) := by
    split
    · exact loseCrossing_keeps s n
    · exact keeps_refl _ s
  unfold State.laneDeparture
  simp only
  split
  · exact keeps_refl _ s
  all_goals exact b.trans ((setLane_keeps _ _ _).weaken (by simp))

/-! ## Heads -/

theorem failPush_keeps (h : HeadId) : Keeps [.lines, .heads] s (s.failPush h) := by
  unfold State.failPush
  split
  · exact keeps_refl _ s
  · split
    · exact ((modifyLine_keeps s _ _).weaken (by simp)).trans ((modifyHead_keeps _ _ _).weaken (by simp))
    · exact keeps_refl _ s

theorem gangwayDeparture_keeps (hd : Head) : Keeps [.lanes, .latches] s (s.gangwayDeparture hd) := by
  unfold State.gangwayDeparture
  split
  · exact laneDeparture_keeps s _
  · exact keeps_refl _ s
  · exact keeps_refl _ s

/-- The parts that a head's leaving ONLINE may touch. -/
abbrev departureParts : List Part :=
  [.lines, .heads, .doorIn, .purchaseIn, .laneIn, .folios, .persons, .deferred, .lanes, .latches]

theorem leaveOnline_keeps (h : HeadId) : Keeps departureParts s (s.leaveOnline h) := by
  unfold State.leaveOnline
  split
  · exact keeps_refl _ s
  · split
    · exact (((((failPush_keeps s h).weaken (by simp)).trans ((lineDeparture_keeps _ h).weaken (by simp))).trans
        ((modifyHead_keeps _ h _).weaken (by simp))).trans ((holdDeparture_keeps _ h).weaken (by simp))).trans
        ((gangwayDeparture_keeps _ _).weaken (by simp))
    · exact keeps_refl _ s

theorem enterOnline_keeps (h : HeadId) : Keeps [.heads, .cabins, .lines] s (s.enterOnline h) := by
  unfold State.enterOnline
  have a := (modifyHead_keeps s h (fun hd => { hd with state := .ONLINE })).weaken (m := [.heads, .cabins, .lines]) (by simp)
  simp only
  split
  · exact a.trans ((cabinEntry_keeps _ _).weaken (by simp))
  · exact a

theorem removeTuneFrame_keeps (h : HeadId) : Keeps [.lines] s (s.removeTuneFrame h) := modifyLine_keeps s _ _

theorem faultHead_keeps (h : HeadId) (r : FaultReason) (code : Nat) : Keeps departureParts s (s.faultHead h r code) := by
  have a := leaveOnline_keeps s h
  have b : Keeps departureParts s (if r.removesTune = true then (s.leaveOnline h).removeTuneFrame h else s.leaveOnline h) := by
    split
    · exact a.trans ((removeTuneFrame_keeps _ h).weaken (by simp))
    · exact a
  exact (b.trans ((modifyHead_keeps _ h _).weaken (by simp))).trans ((raise_keeps _ _ _).weaken (by simp))

theorem enqueueTune_keeps (h : HeadId) (kind : TuneKind) : Keeps [.lines, .heads] s (s.enqueueTune h kind) := by
  unfold State.enqueueTune
  split
  · exact ((modifyLine_keeps s _ _).weaken (by simp)).trans ((modifyHead_keeps _ _ _).weaken (by simp))
  · exact (modifyHead_keeps s _ _).weaken (by simp)

theorem startTune_keeps (h : HeadId) (kind : TuneKind) : Keeps departureParts s (s.startTune h kind) :=
  ((leaveOnline_keeps s h).trans ((modifyHead_keeps _ h _).weaken (by simp))).trans ((enqueueTune_keeps _ h kind).weaken (by simp))

theorem scheduleOne_keeps : Keeps departureParts s s.scheduleOne := by
  unfold State.scheduleOne
  split
  · exact keeps_refl _ s
  · split
    · exact keeps_refl _ s
    · exact startTune_keeps s _ _

theorem schedule_keeps (n : Nat) (s : State) : Keeps departureParts s (State.schedule n s) := by
  induction n generalizing s with
  | zero => exact keeps_refl _ s
  | succ n ih =>
    unfold State.schedule
    split
    · exact keeps_refl _ s
    · exact (scheduleOne_keeps s).trans (ih _)

theorem attemptStarts_keeps : Keeps departureParts s s.attemptStarts := schedule_keeps _ s

theorem finishTune_keeps (h : HeadId) (hd : Head) (low high field : Nat) :
    Keeps (.cabins :: departureParts) s (s.finishTune h hd low high field) := by
  unfold State.finishTune
  simp only
  split
  · exact ((modifyHead_keeps s h _).weaken (by simp)).trans ((faultHead_keeps _ _ _ _).weaken (by simp))
  · rename_i quality _
    have a := ((modifyHead_keeps s h (fun hd =>
      { hd.tuneOver with field := corrected low high field s.params.refLow s.params.refHigh, quality, lastTune := some s.elapsed,
                         nextDue := some (s.after (dueAfter s.params.shortTune quality)), notified := false, due := false })).weaken
        (m := .cabins :: departureParts) (by simp)).trans ((enterOnline_keeps _ h).weaken (by simp))
    split
    · exact a.trans ((raise_keeps _ _ _).weaken (by simp))
    · exact a

/-- The parts that the end of a turn may touch. -/
abbrev turnParts : List Part := .cabins :: departureParts

theorem unbind_keeps (cls : HeadClass) (bound : Nat) : Keeps [.cabins, .lanes] s (s.unbind cls bound) := by
  cases cls
  · exact (unbindCabin_keeps s bound).weaken (by simp)
  · exact keeps_refl _ s
  · exact (setLane_keeps s _ _).weaken (by simp)

theorem bind_keeps (h : HeadId) (cls : HeadClass) (bound : Nat) : Keeps [.cabins, .lanes] s (s.bind h cls bound) := by
  cases cls
  · exact (bindCabin_keeps s bound h).weaken (by simp)
  · exact keeps_refl _ s
  · exact (setLane_keeps s _ _).weaken (by simp)

theorem raiseRecovered_keeps (h : HeadId) (was : HeadState) : Keeps [.latches] s (s.raiseRecovered h was) := by
  unfold State.raiseRecovered
  split
  · exact raise_keeps s _ _
  · exact keeps_refl _ s

theorem tuneFrameEnds_keeps (h : HeadId) : Keeps [.lines] s (s.tuneFrameEnds h) := by
  unfold State.tuneFrameEnds
  split
  · exact keeps_refl _ s
  · split
    · exact removeTuneFrame_keeps s h
    · exact keeps_refl _ s

theorem endInHand_keeps (h : HeadId) : Keeps departureParts s (s.endInHand h) :=
  ((leaveOnline_keeps s h).trans ((tuneFrameEnds_keeps _ h).weaken (by simp))).trans ((modifyHead_keeps _ h _).weaken (by simp))

theorem headChanged_keeps (h : HeadId) (hd : Head) (cls : HeadClass) (f : HeadFields) :
    Keeps turnParts s (s.headChanged h hd cls f) :=
  (((((endInHand_keeps s h).weaken (by simp)).trans ((unbind_keeps _ _ _).weaken (by simp))).trans
    ((bind_keeps _ h cls f.bound).weaken (by simp))).trans ((modifyHead_keeps _ h _).weaken (by simp))).trans
    ((raiseRecovered_keeps _ h hd.state).weaken (by simp))

theorem headDropped_keeps (h : HeadId) (hd : Head) : Keeps turnParts s (s.headDropped h hd) := by
  have a : Keeps turnParts s (((s.endInHand h).modifyLine h.line (fun ln => ln.dropHead h.address)).unbind hd.cls hd.bound) :=
    (((endInHand_keeps s h).weaken (by simp)).trans ((modifyLine_keeps _ _ _).weaken (by simp))).trans
      ((unbind_keeps _ _ _).weaken (by simp))
  refine (a.trans ?_).trans ((raiseRecovered_keeps _ h hd.state).weaken (by simp))
  intro p hp; cases p <;> first | rfl | simp at hp

/-! ## Turns -/

theorem count_keeps (l : Nat) (f : LineCounters → LineCounters) : Keeps [.lines] s (s.count l f) := modifyLine_keeps s l _

theorem endTurn_keeps (l : Nat) (t : Turn) : Keeps [.lines, .heads] s (s.endTurn l t) := by
  unfold State.endTurn
  simp only
  split
  · exact (modifyLine_keeps s l _).weaken (by simp)
  · exact ((modifyLine_keeps s l _).weaken (by simp)).trans ((modifyHead_keeps _ _ _).weaken (by simp))

theorem missTurn_keeps (h : HeadId) : Keeps departureParts s (s.missTurn h) := by
  unfold State.missTurn
  simp only
  split
  · exact keeps_refl _ s
  · split
    · split
      · exact ((modifyHead_keeps s h _).weaken (by simp)).trans (faultHead_keeps _ h _ _)
      · exact (modifyHead_keeps s h _).weaken (by simp)
    · exact keeps_refl _ s

theorem resendTune_keeps (h : HeadId) : Keeps [.lines, .heads] s (s.resendTune h) := by
  unfold State.resendTune
  split
  · exact keeps_refl _ s
  · split
    · exact enqueueTune_keeps s h _
    · exact keeps_refl _ s

theorem frameFailed_keeps (h : HeadId) (dropped : Bool) (f : OutFrame) :
    Keeps [.cabins, .lines, .heads] s (s.frameFailed h dropped f) := by
  unfold State.frameFailed
  split
  · exact (indicatorLost_keeps s _).weaken (by simp)
  · split
    · exact keeps_refl _ s
    · exact (failPush_keeps s h).weaken (by simp)
  · split
    · exact keeps_refl _ s
    · exact (resendTune_keeps s h).weaken (by simp)
  all_goals exact keeps_refl _ s

theorem failTurn_keeps (l : Nat) (t : Turn) : Keeps turnParts s (s.failTurn l t) := by
  have a : Keeps turnParts s (((s.endTurn l t).count l (fun c => { c with failed := bump c.failed })).giveBackPoll l t.holds) :=
    (((endTurn_keeps s l t).weaken (by simp)).trans ((count_keeps _ l _).weaken (by simp))).trans
      ((giveBackPoll_keeps _ l t.holds).weaken (by simp))
  have b := a.trans ((missTurn_keeps _ ⟨l, t.target⟩).weaken (by simp))
  have c : Keeps turnParts s
      (if t.dropped then ((s.endTurn l t).count l (fun c => { c with failed := bump c.failed })).giveBackPoll l t.holds
        else (((s.endTurn l t).count l (fun c => { c with failed := bump c.failed })).giveBackPoll l t.holds).missTurn ⟨l, t.target⟩) := by
    split
    · exact a
    · exact b
  unfold State.failTurn
  simp only
  split
  · exact c.trans ((frameFailed_keeps _ _ _ _).weaken (by simp))
  all_goals exact c

theorem routeEvent_keeps (h : HeadId) (hd : Head) (holds : Option HeadClass) (kind : Nat) (p : List Byte) :
    Keeps departureParts s (s.routeEvent h hd holds kind p) := by
  have a := (giveBackPoll_keeps s h.line holds).weaken (m := departureParts) (by simp)
  unfold State.routeEvent
  split
  · exact a.trans (faultHead_keeps _ h _ _)
  · split
    · exact (enterIntake_keeps s h _ _).weaken (by simp)
    · exact a.trans ((count_keeps _ _ _).weaken (by simp))

theorem takeEvent_keeps (h : HeadId) (hd : Head) (holds : Option HeadClass) (seq lost kind : Nat) (p : List Byte) :
    Keeps departureParts s (s.takeEvent h hd holds seq lost kind p) := by
  unfold State.takeEvent
  split
  · exact ((giveBackPoll_keeps s h.line holds).weaken (by simp)).trans ((count_keeps _ _ _).weaken (by simp))
  · exact (((modifyHead_keeps s h _).weaken (by simp)).trans ((count_keeps _ _ _).weaken (by simp))).trans
      (routeEvent_keeps _ h hd holds kind p)

theorem takeIdent_keeps (h : HeadId) (hd : Head) (code : Nat) : Keeps departureParts s (s.takeIdent h hd code) := by
  unfold State.takeIdent
  split
  · split
    · exact ((modifyHead_keeps s h _).weaken (by simp)).trans (attemptStarts_keeps _)
    · exact ((modifyHead_keeps s h _).weaken (by simp)).trans (faultHead_keeps _ h _ _)
  · exact keeps_refl _ s

end Sys2Proof.Machine
end

