-- ==== Sys2Proof/Laws/Handoffs.lean ====
section
/-! SUPPORT. What a hand-off does to the cabins and to the Missing List, what the completion of a reconcile does with a deferred CONFIRM,
what an attempt of the scheduler does, and what a removal leaves of an outbound queue, said once. The model's operations agree with the terms that Safety has for them. -/

namespace Sys2Proof.Machine

open Sys2Proof

variable (s : State)

/-- A write to an occupied cabin slot. -/
theorem modifyCabin_of_get {k : Nat} {c : Cabin} (h : s.cabins.get k = some c) (f : Cabin → Cabin) :
    s.modifyCabin k f = { s with cabins := s.cabins.set k (f c) } := by
  unfold State.modifyCabin
  rw [Table.modify_of_get _ _ _ h]

/-- R28: the indicator work of a cabin, by the first case that applies. -/
theorem indicatorWork_of_get {k : Nat} {c : Cabin} (h : s.cabins.get k = some c) :
    s.indicatorWork k =
      match c.doorHead with
      | none => { s with cabins := s.cabins.set k { c with owed := false } }
      | some d =>
        if s.online d = true ∧ 0 < (s.line d.line).free then
          { s with cabins := s.cabins.set k { c with owed := false },
                   lines := s.lines.set d.line { s.line d.line with
                     queue := (s.line d.line).queue ++ [⟨d.address, .indicator c.number c.privacy⟩] } }
        else { s with cabins := s.cabins.set k { c with owed := true } } := by
  obtain ⟨number, zone, door, occupants, aboard, privacy, deadbolt, owed, ring⟩ := c
  unfold State.indicatorWork
  simp only [h, modifyCabin_of_get s h]
  cases door with
  | none => rfl
  | some d =>
    simp only [Bool.and_eq_true, decide_eq_true_eq]
    split
    case isTrue hp =>
      simp [State.modifyCabin, State.modifyLine, State.setLine, Line.enqueue, hp.2, Line.joined, Table.modify_of_get _ _ _ h]
    case isFalse => rfl

/-- R27: the aboard count of a cabin falls by one. -/
theorem countDown_of_get {k : Nat} {c : Cabin} (h : s.cabins.get k = some c) :
    s.countDown k = s.cabinBecomes k c { c with aboard := c.aboard - 1 } := by
  unfold State.countDown
  simp only [h, modifyCabin_of_get s h]
  by_cases h1 : c.aboard = 1
  · have hg : (s.cabins.set k { c with aboard := 0 }).get k = some { c with aboard := 0 } := by simp
    simp only [h1, if_true, State.privacyLapse, Nat.sub_self, Table.get_set]
    unfold State.cabinBecomes
    simp only [h1, true_and]
    split
    · rw [modifyCabin_of_get _ hg]
      rw [indicatorWork_of_get (c := { c with aboard := 0, privacy := .OPEN }) _ (by simp)]
      simp only [Table.set_set]
      rfl
    · rfl
  · simp [h1, State.cabinBecomes]

theorem leaveCabin_eq (slot : Nat) (p : Presence) (n : Nat) : s.leaveCabin slot p n = s.cabinsChanged (Cabin.left slot p) [n] := by
  unfold State.leaveCabin State.cabinsChanged
  simp only [List.foldl_cons, List.foldl_nil]
  cases s.cabinSlot n with
  | none => rfl
  | some k =>
    simp only
    cases h : s.cabins.get k with
    | none =>
      have hm : ∀ f, s.modifyCabin k f = s := fun f => by
        unfold State.modifyCabin; rw [Table.modify_of_none _ _ _ h]
      simp [hm, State.countDown, h]
    | some c =>
      rw [modifyCabin_of_get s h]
      by_cases hp : p = .ABOARD
      · simp only [hp, if_true]
        rw [countDown_of_get (c := { c with occupants := c.occupants.erase slot }) _ (by simp)]
        simp only [State.cabinBecomes, Cabin.left, if_true, Table.set_set]
        rfl
      · simp [hp, State.cabinBecomes, Cabin.left]
        omega

theorem joinCabin_eq (slot : Nat) (p : Presence) (n : Nat) : s.joinCabin slot p n = s.cabinsChanged (Cabin.joined slot p) [n] := by
  unfold State.joinCabin State.cabinsChanged
  simp only [List.foldl_cons, List.foldl_nil]
  cases s.cabinSlot n with
  | none => rfl
  | some k =>
    simp only
    cases h : s.cabins.get k with
    | none =>
      have hm : ∀ f, s.modifyCabin k f = s := fun f => by
        unfold State.modifyCabin; rw [Table.modify_of_none _ _ _ h]
      simp [hm, State.countUp]
    | some c =>
      rw [modifyCabin_of_get s h]
      by_cases hp : p = .ABOARD
      · simp only [hp, if_true, State.countUp]
        rw [modifyCabin_of_get (c := { c with occupants := c.occupants ++ [slot] }) _ (by simp)]
        simp [State.cabinBecomes, Cabin.joined]
      · simp only [hp, if_false, State.cabinBecomes, Cabin.joined]
        split
        · omega
        · rfl

theorem presenceAtCabin_eq (hw : s.cabins.wf = true) (before after : Presence) (n : Nat) :
    s.presenceAtCabin before after n = s.cabinsChanged (Cabin.recounted before after) [n] := by
  unfold State.presenceAtCabin State.cabinsChanged
  simp only [List.foldl_cons, List.foldl_nil]
  cases s.cabinSlot n with
  | none => rfl
  | some k =>
    simp only
    cases h : s.cabins.get k with
    | none =>
      have hm : ∀ f, s.modifyCabin k f = s := fun f => by
        unfold State.modifyCabin; rw [Table.modify_of_none _ _ _ h]
      simp [hm, State.countUp, State.countDown, h]
    | some c =>
      by_cases up : before ≠ .ABOARD ∧ after = .ABOARD
      · simp [State.countUp, modifyCabin_of_get s h, State.cabinBecomes, Cabin.recounted, up]
      · by_cases down : before = .ABOARD ∧ after ≠ .ABOARD
        · simp [down.1, down.2, countDown_of_get s h, Cabin.recounted]
        · simp only [up, down, if_false, Cabin.recounted, State.cabinBecomes]
          split
          · omega
          · rw [Table.set_of_get hw h]

theorem cabinBecomes_wf {k : Nat} {c d : Cabin} (hw : s.cabins.wf = true) : (s.cabinBecomes k c d).cabins.wf = true := by
  unfold State.cabinBecomes
  split
  · split
    · exact Table.wf_set _ _ hw
    · split <;> exact Table.wf_set _ _ hw
  · exact Table.wf_set _ _ hw

theorem cabinsChanged_wf (f : Cabin → Cabin) (ns : List Nat) (hw : s.cabins.wf = true) : (s.cabinsChanged f ns).cabins.wf = true := by
  unfold State.cabinsChanged
  induction ns generalizing s with
  | nil => exact hw
  | cons n ns ih =>
    refine ih _ ?_
    dsimp only
    split
    · exact hw
    · split
      · exact hw
      · exact cabinBecomes_wf s hw

/-- R26: a person leaves the cabins of a list. -/
theorem leaveCabins_eq (slot : Nat) (p : Presence) (ns : List Nat) :
    ns.foldl (fun u n => u.leaveCabin slot p n) s = s.cabinsChanged (Cabin.left slot p) ns := by
  simp only [leaveCabin_eq, State.cabinsChanged, List.foldl_cons, List.foldl_nil]

/-- R26: a person joins the cabins of a list. -/
theorem joinCabins_eq (slot : Nat) (p : Presence) (ns : List Nat) :
    ns.foldl (fun u n => u.joinCabin slot p n) s = s.cabinsChanged (Cabin.joined slot p) ns := by
  simp only [joinCabin_eq, State.cabinsChanged, List.foldl_cons, List.foldl_nil]

/-- R27: a presence change is handed to the cabins of a list. -/
theorem presenceAtCabins_eq (hw : s.cabins.wf = true) (before after : Presence) (ns : List Nat) :
    s.presenceAtCabins ns before after = s.cabinsChanged (Cabin.recounted before after) ns := by
  unfold State.presenceAtCabins
  induction ns generalizing s with
  | nil => rfl
  | cons n ns ih =>
    rw [List.foldl_cons, presenceAtCabin_eq s hw, ih _ (cabinsChanged_wf s _ _ hw)]
    rfl

theorem standing_missing (st : Standing) : st.missing = isMissing st.category st.presence st.excused := by
  unfold Standing.missing isMissing
  cases st.excused <;> simp

/-- R137: the Missing List after a hand-off. -/
theorem sweeper_handed (w : Sweeper) (slot : Nat) (old new : Option Standing) :
    w.handed slot old new = w.listed slot (old.any Standing.missing) (new.any Standing.missing) := by
  unfold Sweeper.handed Sweeper.listed Sweeper.becomes Sweeper.stops Sweeper.append Sweeper.follows
  cases old.any Standing.missing <;> cases new.any Standing.missing <;> cases w.state <;> simp [Config.missingSlots]

/-- R92: one deferred CONFIRM at the completion of the reconcile. -/
theorem applyDeferred_eq (u : State) (d : Deferred) :
    u.applyDeferred d =
      match d.carried, u.head? d.head with
      | some h, _ => u.applyConfirm h
      | none, none => u
      | none, some hd =>
        match hd.hold with
        | none => u
        | some h =>
          let ln := u.line d.head.line
          { u.applyConfirm h with
            heads := u.heads.set d.head.key { hd with hold := none },
            lines := if hd.state = .ONLINE then
                u.lines.set d.head.line (if 0 < ln.free then
                  { ln with queue := ln.queue ++ [⟨d.head.address, .purchase d.tag (.CONFIRMED u.nextCharge)⟩] } else ln)
              else u.lines } := by
  unfold State.applyDeferred
  cases hc : d.carried with
  | some h => simp
  | none =>
    cases hh : u.head? d.head with
    | none => simp
    | some hd =>
      cases ho : hd.hold with
      | none => simp [ho]
      | some h =>
        simp only [Option.bind_some, ho]
        have hr : d.head.inRange = true := by
          cases hi : d.head.inRange
          · simp [State.head?, hi] at hh
          · rfl
        have hg : u.heads.get d.head.key = some hd := by simpa [State.head?, hr] using hh
        have h1 : (u.applyConfirm h).heads = u.heads := by
          exact applyConfirm_keeps u h .heads (by simp)
        have h2 : (u.applyConfirm h).lines = u.lines := by
          exact applyConfirm_keeps u h .lines (by simp)
        by_cases hs : hd.state = .ONLINE
        · simp [State.online, State.head?, hr, State.modifyHead, h1, h2, Table.modify_of_get _ _ _ hg, hs, State.modifyLine,
            State.setLine, State.line, Line.enqueue, Line.joined]
          rfl
        · simp [State.online, State.head?, hr, State.modifyHead, h1, h2, Table.modify_of_get _ _ _ hg, hs]

/-- The scheduler's starts, one after the other, do not depend on which end they are counted from. -/
theorem repeat_scheduleOne (n : Nat) (v : State) :
    Nat.repeat State.scheduleOne n v.scheduleOne = (Nat.repeat State.scheduleOne n v).scheduleOne := by
  induction n with
  | zero => rfl
  | succ n ih => simp only [Nat.repeat, ih]

/-- R173: an attempt makes one start after the other, as many as there are heads; a start that finds no head changes nothing. -/
theorem schedule_eq_repeat (n : Nat) (v : State) : State.schedule n v = Nat.repeat State.scheduleOne n v := by
  induction n generalizing v with
  | zero => rfl
  | succ n ih =>
    show _ = (Nat.repeat State.scheduleOne n v).scheduleOne
    rw [← repeat_scheduleOne]
    cases h : v.nextStart with
    | none =>
      have same : v.scheduleOne = v := by simp [State.scheduleOne, h]
      rw [same, ← ih]
      cases n <;> simp [State.schedule, h]
    | some o => simpa [State.schedule, h] using ih v.scheduleOne

/-! ## Outbound queues -/

/-- R146: a removal changes the queue alone, and keeps the frame whose turn is in flight. -/
theorem removeFrames_eq (ln : Line) (p : OutFrame → Bool) : ln.removeFrames p = { ln with queue := ln.queueWithout p } := by
  unfold Line.removeFrames Line.queueWithout
  cases ln.turn with
  | none => rfl
  | some t =>
    obtain ⟨f, _, _, _, _⟩ := t
    cases f <;> rfl

/-- Two removals are one removal of both kinds of frame. -/
theorem queueWithout_queueWithout (ln : Line) (p q : OutFrame → Bool) :
    ({ ln with queue := ln.queueWithout p } : Line).queueWithout q = ln.queueWithout (fun f => p f || q f) := by
  have both : ∀ l : List OutFrame, (l.filter (fun f => !p f)).filter (fun f => !q f) = l.filter (fun f => !(p f || q f)) := by
    intro l
    simp [List.filter_filter, Bool.and_comm]
  unfold Line.queueWithout
  cases ln.turn.map Turn.frame with
  | none => exact both _
  | some f =>
    cases f with
    | queued f =>
      cases ln.queue with
      | nil => rfl
      | cons a rest => simpa using both rest
    | eventPoll _ => exact both _
    | tuningPoll => exact both _
    | ident => exact both _

end Sys2Proof.Machine
end

