-- ==== Sys2Proof/Tests/Slice0.lean ====
section
/-! SUPPORT. Tests. The ill-formed commands that `Instr.wf` refuses; the manual's worked examples; a word of each family of requests spelled
out from R191 and R192; and, for each statement with hypotheses, a state and operands that meet them, clause by clause. -/

namespace Sys2Proof.Tests

open Sys2Proof Sys2Proof.Machine

/-! ## Ill-formed commands -/

/-- A UID field of nine bytes, one short. -/
def shortUid : RawUid := ⟨4, [4, 161, 9, 0, 0, 0, 0, 0, 0]⟩

def goodPerson : PersonFields := ⟨100, 0, 0, 0, none, none, [101], some 0, 1, none, 0, 0, 0⟩

theorem test_wf_refuses_empty_transaction :
    (Instr.requestFrameTaken []).wf = false ∧ (Instr.truncatedFrame []).wf = false ∧ (Instr.readTransaction 0).wf = false := by decide
theorem test_wf_refuses_wide_numbers :
    (Instr.clockSet 0 4294967296).wf = false ∧ (Instr.paramSet 0 256 0).wf = false ∧ (Instr.paramSet 0 0 2147483648).wf = false
      ∧ (Instr.paramSet 0 0 (-2147483649)).wf = false ∧ (Instr.paramGet 0 (some 256)).wf = false
      ∧ (Instr.noticeMask 0 65536).wf = false ∧ (Instr.noticeClear 0 65536).wf = false := by decide
theorem test_wf_refuses_person_fields :
    (Instr.personPut 0 65536 goodPerson).wf = false ∧ (Instr.personPut 0 0 { goodPerson with category := 256 }).wf = false
      ∧ (Instr.personPut 0 0 { goodPerson with cabins := [1, 2, 3] }).wf = false
      ∧ (Instr.personPut 0 0 { goodPerson with shift := some (4294967296, 0) }).wf = false
      ∧ (Instr.personPut 0 0 { goodPerson with folio := some 65536 }).wf = false
      ∧ (Instr.personGet 0 256 0).wf = false ∧ (Instr.personDrop 0 65536).wf = false := by decide
theorem test_wf_refuses_uids :
    (Instr.cardEnrol 0 shortUid 0 0 0).wf = false ∧ (Instr.cardRevoke 0 shortUid 0).wf = false
      ∧ (Instr.cardSuspend 0 shortUid 0).wf = false ∧ (Instr.cardResume 0 shortUid 0).wf = false
      ∧ (Instr.cardFind 0 shortUid).wf = false := by decide
theorem test_wf_refuses_cabin_and_folio_fields :
    (Instr.cabinPut 0 65536 0).wf = false ∧ (Instr.cabinGet 0 65536).wf = false ∧ (Instr.cabinDrop 0 65536).wf = false
      ∧ (Instr.privacySet 0 1 256).wf = false ∧ (Instr.indicatorOnRoom 16).wf = false
      ∧ (Instr.folioPut 0 0 ⟨1, 0, 0, none, 9223372036854775808, 0⟩).wf = false
      ∧ (Instr.folioPut 0 0 ⟨1, 0, 0, some ⟨0, 4294967296, 0⟩, 0, 0⟩).wf = false
      ∧ (Instr.folioLimit 0 0 4294967296).wf = false ∧ (Instr.folioState 0 0 256).wf = false
      ∧ (Instr.folioGet 0 256 0).wf = false ∧ (Instr.folioFree 0 65536).wf = false := by decide
theorem test_wf_refuses_charge_fields :
    (Instr.venuePut 0 256 0 0).wf = false ∧ (Instr.upstreamSet 0 256).wf = false ∧ (Instr.journalBase 0 4294967296).wf = false
      ∧ (Instr.chargesRead 0 0 65536).wf = false ∧ (Instr.chargesRetire 0 4294967296).wf = false
      ∧ (Instr.holdExpiry 0 201).wf = false := by decide
theorem test_wf_refuses_lane_fields :
    (Instr.lanePut 0 0 256 0).wf = false ∧ (Instr.laneOpen 0 256).wf = false ∧ (Instr.laneHold 0 256).wf = false
      ∧ (Instr.laneRelease 0 256).wf = false ∧ (Instr.laneClose 0 256).wf = false ∧ (Instr.laneGet 0 256).wf = false
      ∧ (Instr.pendingTimeout 8).wf = false ∧ (Instr.officerWaitExpiry 8).wf = false := by decide
theorem test_wf_refuses_bank_fields :
    (Instr.crossingsRead 0 65536 1).wf = false ∧ (Instr.bankRelease 0 256).wf = false ∧ (Instr.crossingBase 0 4294967296).wf = false
      ∧ (Instr.presenceSet 0 65536 1).wf = false ∧ (Instr.missingRead 0 256 1).wf = false := by decide
theorem test_wf_refuses_line_fields :
    (Instr.lineStart 0 256).wf = false ∧ (Instr.lineStop 0 256).wf = false ∧ (Instr.lineGet 0 256).wf = false
      ∧ (Instr.turnStart 16).wf = false ∧ (Instr.groupFrameSent 16).wf = false ∧ (Instr.answerReceived 0 []).wf = false
      ∧ (Instr.answerTimeout 16).wf = false ∧ (Instr.settingsPushEnqueue 16).wf = false
      ∧ (Instr.settingsPush 0 0 255 [1] (some [0])).wf = false
      ∧ (Instr.settingsPush 0 0 255 (List.replicate 256 0) none).wf = false := by decide +kernel
theorem test_wf_refuses_head_fields :
    (Instr.headPut 0 0 1 ⟨256, 0, 0, none⟩).wf = false ∧ (Instr.headPut 0 0 1 ⟨0, 65536, 0, none⟩).wf = false
      ∧ (Instr.headPut 0 0 1 ⟨0, 1, 0, some 256⟩).wf = false ∧ (Instr.headDrop 0 256 1).wf = false
      ∧ (Instr.headGet 0 0 256).wf = false ∧ (Instr.headTune 0 0 1 256).wf = false
      ∧ (Instr.tuneFrameEnqueue 0 0).wf = false ∧ (Instr.tuneTimeout 0 201).wf = false ∧ (Instr.faultRetryExpiry 16 1).wf = false
      ∧ (Instr.headDueForTune 0 0).wf = false ∧ (Instr.tuneOverdue 0 0).wf = false := by decide

/-! ## The manual's worked examples -/

/-- "123456789" in ASCII, the check string of R194. -/
def digits : List Byte := [0x31, 0x32, 0x33, 0x34, 0x35, 0x36, 0x37, 0x38, 0x39]

theorem test_crc16_of_digits : crc16 digits = 0x29B1#16 := by decide +kernel
theorem test_crc8_of_digits : crc8 digits = 0xF4#8 := by decide +kernel

/-- The four readings of 9.9. -/
theorem test_field_correction :
    corrected 812 3020 2210 200 900 = some 643 ∧ corrected 812 3020 1600 200 900 = some 450
      ∧ corrected 812 3020 700 200 900 = some 164 ∧ corrected 812 3020 4095 200 900 = some 1000 := by decide
theorem test_outcomes : outcomeOf (some 643) = some .GOOD ∧ outcomeOf (some 450) = some .WEAK ∧ outcomeOf (some 164) = none := by decide

/-- The bucket table of 1.5, with the power-on bucket bytes and with A = 3, B = 7. -/
theorem test_buckets :
    State.reset.bucketOf [4, 161, 124, 62] = 1185 ∧ State.reset.bucketOf [4, 18, 201, 90, 7, 128, 33] = 1042
      ∧ State.reset.bucketOf [9, 161, 0, 0] = 417 := by decide
theorem test_buckets_of_other_bytes :
    let s := { State.reset with params := { Params.default with bucketA := 3, bucketB := 7 } }
    s.bucketOf [4, 161, 124, 62] = 1536 ∧ s.bucketOf [4, 18, 201, 90, 7, 128, 33] = 512 := by decide

/-- The folio days of 3.6: 512 at ship time 44,300,000, and 511 once the day offset is 64,000. -/
theorem test_folio_day :
    ({ State.reset with clock := ⟨.SET, 44300000, 0⟩ } : State).folioDay = 512
      ∧ ({ State.reset with clock := ⟨.SET, 44300000, 0⟩, params := { Params.default with dayOffset := 64000 } } : State).folioDay
          = 511 := by decide

/-- The bar tab of 4.7: FULL package, cap 1,400, two units left, 1,800 bp. -/
theorem test_bar_tab :
    let f := computeFigures (some ⟨.FULL, 1400, 15⟩) ⟨1800, true⟩ 2
      [⟨.SOFT, 450, 2⟩, ⟨.ALCOHOLIC, 1650, 3⟩, ⟨.FOOD, 895, 1⟩, ⟨.RETAIL, 2499, 1⟩]
    f.gross = 9244 ∧ f.covered = 2800 ∧ f.gratuity = 710 ∧ f.total = 7154 ∧ f.units = 2 := by decide

/-- The covered purchase of 4.7, and the same with a price above the cap. -/
theorem test_soft_package :
    (computeFigures (some ⟨.SOFT, 600, 6⟩) ⟨1500, true⟩ 5 [⟨.SOFT, 550, 2⟩]).total = 0
      ∧ (computeFigures (some ⟨.SOFT, 600, 6⟩) ⟨1500, true⟩ 5 [⟨.SOFT, 650, 2⟩]).total = 115 := by decide

/-- The tie of 4.7: line 0 takes both units, and a half is rounded up. -/
theorem test_allocation_tie :
    let f := computeFigures (some ⟨.FULL, 1000, 8⟩) ⟨1125, true⟩ 2
      [⟨.ALCOHOLIC, 1200, 2⟩, ⟨.SOFT, 1000, 1⟩, ⟨.ALCOHOLIC, 800, 4⟩]
    f.covered = 2000 ∧ f.gratuity = 518 ∧ f.total = 5118 := by decide

/-! ## Request bodies, spelled out byte by byte from R191 and R192 -/

theorem test_decode_clock_set : decodeRequest 0x01 7 [0x02, 0xA3, 0xF7, 0x60] = .request (.clockSet 7 44300128) := by decide
theorem test_decode_param_set : decodeRequest 0x03 1 [0x11, 0xFF, 0xFF, 0xFF, 0xFE] = .request (.paramSet 1 17 (-2)) := by decide
theorem test_decode_card_enrol :
    decodeRequest 0x13 2 [4, 4, 161, 124, 62, 0, 0, 0, 0, 0, 0, 0x00, 0x05, 0x09, 0x00]
      = .request (.cardEnrol 2 ⟨4, [4, 161, 124, 62, 0, 0, 0, 0, 0, 0]⟩ 5 9 0) := by decide
theorem test_decode_person_put :
    decodeRequest 0x10 0
      ([0x00, 0x01] ++ [0, 0, 0, 100] ++ [1] ++ [1] ++ [0, 0, 0, 4] ++ [1, 0, 0, 0, 10, 0, 0, 0, 20] ++ [0] ++ [1, 0x00, 0x65]
        ++ [1, 0x00, 0x00] ++ [1] ++ [0] ++ [0, 0, 1])
      = .request (.personPut 0 1 ⟨100, 1, 1, 4, some (10, 20), none, [101], some 0, 1, none, 0, 0, 1⟩) := by decide
theorem test_decode_cabin_put : decodeRequest 0x20 0 [0x27, 0x0F, 31] = .request (.cabinPut 0 9999 31) := by decide
theorem test_decode_folio_put :
    decodeRequest 0x30 0
      ([0x0F, 0xFF] ++ [0, 0, 0, 30] ++ [0] ++ [0, 3, 0x0D, 0x40] ++ [1, 1, 0, 0, 3, 0x84, 10]
        ++ [0xFF, 0xFF, 0xFF, 0xFF, 0xFF, 0xFF, 0xFF, 0x9C] ++ [0, 0, 0, 0])
      = .request (.folioPut 0 4095 ⟨30, 0, 200000, some ⟨1, 900, 10⟩, -100, 0⟩) := by decide
theorem test_decode_lane_put : decodeRequest 0x40 3 [7, 1, 0] = .request (.lanePut 3 7 1 0) := by decide
theorem test_decode_crossings_read : decodeRequest 0x47 3 [0x01, 0xFF, 0x00, 32] = .request (.crossingsRead 3 511 32) := by decide
theorem test_decode_line_stop : decodeRequest 0x51 0 [15] = .request (.lineStop 0 15) := by decide
theorem test_decode_head_put :
    decodeRequest 0x53 0 [4, 10, 0, 0x00, 0x65, 3, 1, 224] = .request (.headPut 0 4 10 ⟨0, 101, 3, some 224⟩) := by decide
theorem test_decode_settings_push :
    decodeRequest 0x57 0 [4, 10, 2, 0xAA, 0xBB, 0] = .request (.settingsPush 0 4 10 [0xAA, 0xBB] none) := by decide
theorem test_decode_refusals :
    decodeRequest 0x09 0 [] = .unknownKind ∧ decodeRequest 0x58 0 [0] = .unknownKind
      ∧ decodeRequest 0x02 0 [0] = .badLength ∧ decodeRequest 0x01 0 [0, 0, 0] = .badLength
      ∧ decodeRequest 0x04 0 [2, 0] = .badLength := by decide

/-! ## The states of the witnesses -/

/-- The UID of the card numbered `n`; all of them fall in bucket 1,185. -/
def cardUid (n : Nat) : RawUid := ⟨4, [4, 161, BitVec.ofNat 8 n, 0, 0, 0, 0, 0, 0, 0]⟩

/-- A UID whose length byte is neither 4 nor 7 nor 10. -/
def oddUid : RawUid := ⟨5, [4, 161, 1, 0, 0, 0, 0, 0, 0, 0]⟩

/-- An identity: id and category; a guest of cabin 101 and folio 0 unless the category says otherwise. -/
def identity (id : Nat) (c : Category) : Identity where
  id         := id
  category   := c
  service    := decide (c = .CREW)
  emergency  := false
  zones      := 4#32
  shift      := none
  stay       := none
  cabins     := if c = .GUEST then [101] else []
  folio      := some 0
  alcohol    := true
  childCap   := none
  chargeHold := false
  gangwayHold := false
  excused    := false

def person (i : Identity) (p : Presence) : Person := ⟨i, p, none, ⟨0, 0⟩, 0, ⟨0, 0⟩, 0⟩

/-- Slot 0 a guest ABOARD, 1 a crew member ASHORE, 2 a visitor, 3 an emergency crew member, 4 a guest under charge and gangway hold, 5 a guest
without a folio, 6 a guest of a HELD folio, 7 a guest outside the stay window, 8 a crew member outside the shift. -/
def people : Table Person := ⟨[
  (0, person (identity 100 .GUEST) .ABOARD),
  (1, person (identity 101 .CREW) .ASHORE),
  (2, person (identity 102 .VISITOR) .UNKNOWN),
  (3, person { identity 103 .CREW with emergency := true } .ABOARD),
  (4, person { identity 104 .GUEST with chargeHold := true, gangwayHold := true } .ABOARD),
  (5, person { identity 105 .GUEST with folio := none } .ABOARD),
  (6, person { identity 106 .GUEST with folio := some 1 } .ABOARD),
  (7, person { identity 107 .GUEST with stay := some (5, 6) } .ABOARD),
  (8, person { identity 108 .CREW with shift := some (5, 6), cabins := [] } .ABOARD)]⟩

/-- The index of the cards in bucket 1,185: 0 to 4 ACTIVE of persons 0 to 4, 5 SUSPENDED and 6 REVOKED of person 0. -/
def cards : Table CardEntry := ⟨[
  (9480, ⟨[4, 161, 0, 0], 0, 1, .ACTIVE⟩), (9481, ⟨[4, 161, 1, 0], 1, 1, .ACTIVE⟩), (9482, ⟨[4, 161, 2, 0], 2, 1, .ACTIVE⟩),
  (9483, ⟨[4, 161, 3, 0], 3, 1, .ACTIVE⟩), (9484, ⟨[4, 161, 4, 0], 4, 1, .ACTIVE⟩), (9485, ⟨[4, 161, 5, 0], 0, 2, .SUSPENDED⟩),
  (9486, ⟨[4, 161, 6, 0], 0, 0, .REVOKED⟩)]⟩

/-- A head of the class, ONLINE. -/
def head (c : HeadClass) (bound : Nat) : Head where
  cls := c
  bound := bound
  neighbourhood := 0
  group := none
  state := .ONLINE
  faultReason := none
  tuneKind := .LONG
  field := some 643
  quality := .GOOD
  lastTune := some 1000
  nextDue := some 4000
  tuneWait := none
  missed := 0
  lastSeq := none
  notified := false
  settings := .NONE
  lastGrant := none
  hold := none
  tuneTimer := none
  retryTimer := none
  frameWaits := false
  lastTurnEnd := none
  lastIdentEnd := none
  due := false

/-- A hold of person 0 at venue 1, on folio 0. -/
def hold : Hold := ⟨2, 0, 100, 0, 30, 1, 900, 0, 100, 1000, 0, 0, none, 22, 2000000, false, false, ⟨4000, 90000⟩⟩

/-- A port with line 0 RUNNING: a door head at 0/1 of cabin 101, a terminal at 0/2 of venue 1, a lane head at 0/3 of lane 0 with the lane
OPEN, and at 0/4, 0/5 and 0/6 a TUNING, a FAULTED and a PROBING door head. -/
def port : State :=
  { State.reset with
    clock   := ⟨.SET, 2000000, 0⟩
    elapsed := 5000
    persons := people
    cards   := cards
    cabins  := ⟨[(0, ⟨101, 2, some ⟨0, 1⟩, [0, 4, 5, 6, 7], 5, .OPEN, .RELEASED, false, []⟩),
                 (1, ⟨102, 2, none, [], 0, .OPEN, .UNKNOWN, false, []⟩)]⟩
    folios  := ⟨[(0, ⟨30, .OPEN, 200000, none, 0, 0, 0, 0, 0, 0⟩), (1, ⟨31, .HELD, 200000, none, 0, 0, 0, 0, 0, 0⟩),
                 (2, ⟨32, .OPEN, 200000, none, 0, 0, 0, 0, 0, 0⟩)]⟩
    venues  := ⟨[(1, ⟨1800, true⟩)]⟩
    lanes   := (Table.full 8 Lane.powerOn).set 0 { Lane.powerOn with state := .OPEN, head := some ⟨0, 3⟩ }
    lines   := (Table.full 16 Line.powerOn).set 0 { Line.powerOn with state := .RUNNING }
    heads   := ⟨[(1, head .CABIN_DOOR 101), (2, head .VENUE_TERMINAL 1), (3, head .GANGWAY_LANE 0),
                 (4, { head .CABIN_DOOR 200 with state := .TUNING, tuneTimer := some ⟨4000, 3000⟩ }),
                 (5, { head .CABIN_DOOR 201 with state := .FAULTED, faultReason := some .NO_ANSWER, retryTimer := some ⟨4000, 30000⟩ }),
                 (6, { head .CABIN_DOOR 202 with state := .PROBING, tuneWait := some 4500 })]⟩ }

/-- A request is in hand. -/
def holding (s : State) (c : Instr) : State := { s with link := { s.link with inHand := [c] } }

/-- An entry waits in an intake, with its outbound reservation on line 0. -/
def waiting (s : State) (c : HeadClass) (a : Nat) (e : Event) : State :=
  let s := s.setIntake c ⟨[⟨⟨0, a⟩, e, 4900, e.takesDecision, false⟩], 0⟩
  s.modifyLine 0 (fun ln => { ln with reserved := 1 })

/-- A turn is in flight on line 0. -/
def flying (s : State) (t : Turn) : State := s.modifyLine 0 (fun ln => { ln with turn := some t })

/-- A latch is pending and owes a notice. -/
def owing (s : State) (c : NoticeClass) : State := s.setLatch c ⟨true, true, 1, some (.lane 0, 0), true⟩

/-- Four requests are unanswered. -/
def crowded (s : State) : State :=
  { s with link := { s.link with inHand := [.statusGet 1, .clockGet 2, .cardPurge 3, .censusGet 4] } }



/-! ## Witnesses of the link, the clock and the notices -/

/-- The request is in hand at the port, and ready. -/
abbrev asked (c : Instr) : State := holding port c

theorem witness_StepTakesFront : ({ port with pending := [.sweepStep, .tuneStart] } : State).pending = [.sweepStep, .tuneStart] := rfl

theorem witness_TimePasses :
    (State.reset.pending = [] ∧ State.reset.clock.state = .UNSET)
    ∧ (port.pending = [] ∧ ({ port with clock := ⟨.SET, 4294967295, 998⟩ } : State).clock.state = .SET ∧ (998 : Nat) < 999)
    ∧ (({ port with clock := ⟨.SET, 4294967295, 999⟩ } : State).clock.phase = 999 ∧ (999 : Nat) < 1000)
    ∧ (State.reset.clock.phase < 1000 ∧ State.reset.clock.state = .UNSET)
    ∧ ((asked (.clockSet 0 4294967295)).ready (.clockSet 0 4294967295) = true ∧ (4294967295 : Nat) ≤ 4294967295)
    ∧ ((asked (.clockSet 0 4294967296)).ready (.clockSet 0 4294967296) = true ∧ (4294967295 : Nat) < 4294967296)
    ∧ (asked (.clockGet 0)).ready (.clockGet 0) = true := by decide +kernel

theorem witness_RequestFrameByCase :
    ((0x07 : Nat) < 256 ∧ ([] : List Byte).length ≤ 1024 ∧ 4 ≤ (crowded port).link.unanswered)
    ∧ (port.link.unanswered < 4 ∧ decodeRequest 0x07 9 [] = .request (.statusGet 9))
    ∧ ((List.replicate 1024 (0 : Byte)).length ≤ 1024 ∧ decodeRequest 0x57 9 (List.replicate 1024 0) = .badLength)
    ∧ ((0xFF : Nat) < 256 ∧ decodeRequest 0xFF 9 [] = .unknownKind)
    ∧ decodeRequest 0x07 9 [] = .request (.statusGet 9) := by decide +kernel

theorem witness_DamagedFramesCounted :
    ((0x5A#8 : Byte) ≠ 0x00#8 ∧ ([0x00, 0x00] : List Byte).length = 2 ∧ u16 ([] : List Byte).length = [0x00, 0x00]
      ∧ ([0x00, 0x00] : List Byte) ≠ u16 (crc16 ([0x5A#8, 0x01, 0x07, 0x00, 0x00] ++ [])).toNat ∧ 4 ≤ (crowded port).link.unanswered)
    ∧ ((0x59#8 : Byte) ≠ 0x00#8 ∧ (0x59#8 : Byte) ≠ 0x5A#8 ∧ port.link.unanswered < 4)
    ∧ (([0x01, 0x07, 0x00] : List Byte).length < 4)
    ∧ (1024 < numberOf ((([0x01, 0x07, 0x04, 0x01] : List Byte).drop 2).take 2))
    ∧ (([0x01, 0x07, 0x00, 0x00, 0x12] : List Byte).length < 6 + numberOf ((([0x01, 0x07, 0x00, 0x00, 0x12] : List Byte).drop 2).take 2)) := by
  decide +kernel

theorem witness_ReadTakesOldestMessage :
    ((1 : Nat) ≤ 1 ∧ port.link.outgoing = [])
    ∧ ((Message.reply 0 7 .BUSY []).bytes.length = 8 ∧ (Message.reply 0 7 .BUSY []).bytes.length ≤ 8
        ∧ 7 < (Message.reply 0 7 .BUSY []).bytes.length) := by decide +kernel

theorem witness_NoticesRaisedAndQueued :
    (port.latch .TAILGATE).pending = false ∧ (owing port .TAILGATE).link.notices < 4
    ∧ ((owing port .TAILGATE).latch .TAILGATE).pending = true ∧ ((owing port .TAILGATE).latch .TAILGATE).owed = true
    ∧ (∀ d ∈ NoticeClass.all, ((owing port .TAILGATE).latch d).owed = true → NoticeClass.TAILGATE.code ≤ d.code) := by decide +kernel

theorem witness_NoticeMaskAndClear :
    ((4096 : Nat) ≤ 4096 ∧ (asked (.noticeMask 0 4096)).ready (.noticeMask 0 4096) = true
      ∧ (asked (.noticeClear 0 4096)).ready (.noticeClear 0 4096) = true)
    ∧ ((4095 : Nat) < 4096 ∧ (asked (.noticeMask 0 4095)).ready (.noticeMask 0 4095) = true
      ∧ (asked (.noticeClear 0 4095)).ready (.noticeClear 0 4095) = true
      ∧ bitOf 4095 (NoticeClass.LATE_TAPS.code - 1) = true ∧ bitOf 2047 (NoticeClass.LATE_TAPS.code - 1) = false) := by decide +kernel

theorem witness_ParamSetByCase :
    (∀ ident ∈ [7, 8, 9, 11, 12, 13, 14, 15, 22, 23, 24], (asked (.paramSet 0 ident 1)).ready (.paramSet 0 ident 1) = true)
    ∧ port.params.bucketB = 1 ∧ port.params.bucketA = 0 ∧ port.cards.size ≠ 0 ∧ State.reset.cards.size = 0
    ∧ (holding State.reset (.paramSet 0 11 9)).ready (.paramSet 0 11 9) = true
    ∧ (port.params.refHigh ≤ clampTo 900 (0, 1000) ∧ clampTo 899 (0, 1000) < port.params.refHigh)
    ∧ (clampTo 200 (0, 1000) ≤ port.params.refLow ∧ port.params.refLow < clampTo 201 (0, 1000))
    ∧ (∀ ident ∈ [19, 22, 23], (asked (.paramSet 0 ident 1)).ready (.paramSet 0 ident 1) = true)
    ∧ (numericRange 22 = some (1, 511) ∧ clampTo 512 (1, 511) = 511 ∧ clampTo 0 (1, 511) = 1) := by decide +kernel

theorem witness_RestartKeepsTables :
    (holding (crowded port) (.restart 5)).ready (.restart 5) = true
    ∧ (({ port with link := { port.link with inHand := [.restart 5, .statusGet 1] } } : State).ready (.restart 5) = true
        ∧ ({ port with link := { port.link with inHand := [.restart 5, .statusGet 1] } } : State).link.unanswered ≠ 1)
    ∧ (let p := { person (identity 100 .GUEST) .ABOARD with unitsReserved := 1, childReserved := 7 }
       let carried : Hold := { hold with confirming := true, units := 1, child := 7, offline := some (5, 0) }
       let s := holding { port with persons := port.persons.set 0 p,
                                    folios := port.folios.set 0 ⟨30, .OPEN, 200000, none, 0, 0, 0, 1000, 5, 0⟩,
                                    heads := port.heads.set 1 { head .CABIN_DOOR 101 with settings := .PENDING },
                                    lines := port.lines.set 0 { port.line 0 with push := some ⟨1, [1], none, true, 2⟩ },
                                    deferred := [⟨⟨0, 7⟩, 3, some carried⟩] } (.restart 5)
       s.ready (.restart 5) = true ∧ s.link.unanswered = 1 ∧ s.openHolds = [carried] ∧ s.persons.get 0 = some p
       ∧ (s.folios.get 0).map (fun f => (f.held, f.offlineEpoch)) = some (1000, s.epoch)
       ∧ (s.heads.get 1).map (·.settings) = some .PENDING ∧ (s.line 0).push.map (·.dest) = some 1 ∧ s.persons.get 8191 = none)
    ∧ (asked (.restart 5)).ready (.restart 5) = true ∧ (asked (.restart 5)).link.unanswered = 1 := by decide +kernel

theorem witness_RequestsTakenInOrder :
    let two : State := { port with link := { port.link with inHand := [.statusGet 1, .clockGet 2] } }
    (requestOf (.clockGet 2) = some (0x02, 2) ∧ two.ready (.clockGet 2) = false ∧ Instr.clockGet 2 ∈ two.link.inHand)
    ∧ ((crowded port).ready (.clockGet 9) = false ∧ Instr.clockGet 9 ∉ (crowded port).link.inHand
        ∧ 4 ≤ (crowded port).link.unanswered)
    ∧ (two.ready (.clockGet 9) = false ∧ Instr.clockGet 9 ∉ two.link.inHand ∧ two.link.unanswered < 4
        ∧ (two.link.nextFor (blockOf 0x02)).isSome = true)
    ∧ (port.ready (.clockGet 9) = false ∧ Instr.clockGet 9 ∉ port.link.inHand ∧ port.link.unanswered < 4
        ∧ port.link.nextFor (blockOf 0x02) = none) := by decide +kernel

/-! ## Witnesses of persons and cards -/

theorem witness_PersonPutRefusals :
    let put := fun slot f => Instr.personPut 0 slot f
    (∀ slot ∈ [0, 8191, 8192], (asked (put slot goodPerson)).ready (put slot goodPerson) = true)
    ∧ (8192 ≤ 8192 ∧ identityOf { goodPerson with category := 3 } = none)
    ∧ (identityOf goodPerson).isSome = true
    ∧ (∃ cell ∈ port.persons.cells, cell.1 ≠ 8191 ∧ cell.2.ident.id = 100)
    ∧ ((∀ cell ∈ port.persons.cells, cell.1 ≠ 0 → cell.2.ident.id ≠ 900) ∧ (port.persons.get 0).map (·.ident.id) = some 100)
    ∧ (let s := { port with heads := port.heads.set 2 { head .VENUE_TERMINAL 1 with hold := some hold } }
       s.holdNames 0 = true ∧ s.crossingNames 0 = false)
    ∧ (port.cabinSlot 103 = none ∧ port.folios.get 3 = none)
    ∧ (({ port with cabins := port.cabins.set 1 ⟨102, 2, none, [10, 11, 12, 13, 14, 15], 0, .OPEN, .UNKNOWN, false, []⟩ } : State).cabin?
          102).map (·.occupants.length) = some 6 := by decide +kernel

theorem witness_PersonPutWrites :
    (let f := { goodPerson with id := 900, cabins := [101, 102] }
     (asked (.personPut 0 8191 f)).ready (.personPut 0 8191 f) = true ∧ port.cabins.wf = true
     ∧ (identityOf f).map (·.cabins) = some [101, 102] ∧ port.personPutRefusal 8191 f = none ∧ port.persons.get 8191 = none)
    ∧ (let f := { goodPerson with cabins := [102] }
       (asked (.personPut 0 0 f)).ready (.personPut 0 0 f) = true ∧ (identityOf f).isSome = true
       ∧ port.personPutRefusal 0 f = none ∧ (port.persons.get 0).map (·.ident.cabins) = some [101]
       ∧ port.cabinSlot 101 = some 0 ∧ port.cabinSlot 102 = some 1 ∧ ([101] : List Nat).Nodup) := by decide +kernel

theorem witness_PersonDropRemoves :
    (∀ slot ∈ [0, 8191, 8192], (asked (.personDrop 0 slot)).ready (.personDrop 0 slot) = true)
    ∧ port.persons.get 8191 = none ∧ (port.persons.get 0).isSome = true
    ∧ ({ port with heads := port.heads.set 2 { head .VENUE_TERMINAL 1 with hold := some hold } } : State).holdNames 0 = true
    ∧ port.crossingNames 0 = false ∧ port.holdNames 0 = false ∧ port.persons.wf = true ∧ port.cards.wf = true ∧ port.cabins.wf = true
    ∧ (port.persons.get 0).map (·.ident.cabins) = some [101] ∧ ([101] : List Nat).Nodup ∧ port.cabinSlot 101 = some 0
    ∧ (port.cabins.get 0).map (fun c => decide (0 ∈ c.occupants)) = some true := by decide +kernel

theorem witness_LookupAndEnrol :
    (port.cardKeyOf [4, 161, 5, 0] = some 9485 ∧ port.cardKeyOf [4, 161, 9, 0] = none ∧ port.lookup [4, 161, 9, 0] = none)
    ∧ (let c := fun u slot state => Instr.cardEnrol 0 u slot 1 state
       (∀ x ∈ [(oddUid, 0, 0), (cardUid 9, 8192, 0), (cardUid 9, 0, 2), (cardUid 9, 9, 0), (cardUid 0, 0, 0), (cardUid 9, 0, 0)],
         (asked (c x.1 x.2.1 x.2.2)).ready (c x.1 x.2.1 x.2.2) = true))
    ∧ (uidOf oddUid = none ∧ uidOf (cardUid 9) = some [4, 161, 9, 0] ∧ port.persons.get 9 = none ∧ port.persons.get 0 ≠ none)
    ∧ (∃ k ∈ bucketKeys (port.bucketOf [4, 161, 9, 0]), port.cards.get k = none)
    ∧ (let s := { port with cards := port.cards.set 9487 ⟨[4, 161, 7, 0], 0, 3, .SUSPENDED⟩ }
       s.cardKeyOf [4, 161, 9, 0] = none ∧ (s.cards.get 9486).map (·.state) = some .REVOKED
       ∧ ∀ k ∈ bucketKeys (s.bucketOf [4, 161, 9, 0]), s.cards.get k ≠ none)
    ∧ (let full := (port.cards.set 9487 ⟨[4, 161, 7, 0], 0, 3, .SUSPENDED⟩).set 9486 ⟨[4, 161, 6, 0], 0, 0, .SUSPENDED⟩
       let s := { port with cards := full }
       ∀ k ∈ bucketKeys (s.bucketOf [4, 161, 9, 0]), (s.cards.get k).any (fun e => decide (e.state ≠ .REVOKED)) = true) := by
  decide +kernel

theorem witness_CardStateChanges :
    (∀ u ∈ [oddUid, cardUid 0, cardUid 5, cardUid 6, cardUid 9], ∀ issue ∈ [0, 1, 2],
      (asked (.cardRevoke 0 u issue)).ready (.cardRevoke 0 u issue) = true
      ∧ (asked (.cardSuspend 0 u issue)).ready (.cardSuspend 0 u issue) = true
      ∧ (asked (.cardResume 0 u issue)).ready (.cardResume 0 u issue) = true)
    ∧ uidOf oddUid = none ∧ port.lookup [4, 161, 9, 0] = none
    ∧ (port.lookup [4, 161, 0, 0]).map (fun e => (e.issue, e.state)) = some (1, .ACTIVE)
    ∧ (port.lookup [4, 161, 5, 0]).map (fun e => (e.issue, e.state, e.slot)) = some (2, .SUSPENDED, 0)
    ∧ (port.lookup [4, 161, 6, 0]).map (fun e => (e.issue, e.state)) = some (0, .REVOKED)
    ∧ port.activeCard 0 ≠ none ∧ ({ port with cards := port.cards.erase 9480 } : State).activeCard 0 = none
    ∧ (asked (.cardPurge 0)).ready (.cardPurge 0) = true ∧ port.cards.wf = true := by decide +kernel

/-! ## Witnesses of cabins and doors -/

/-- The card 7 is ACTIVE, of the person in the slot. -/
def withCard (s : State) (slot : Nat) : State := { s with cards := s.cards.set 9487 ⟨[4, 161, 7, 0], slot, 3, .ACTIVE⟩ }

/-- The cabin 101 has these fields. -/
def withCabin (s : State) (privacy : Privacy) (deadbolt : Deadbolt) (owed : Bool) : State :=
  { s with cabins := s.cabins.set 0 ⟨101, 2, some ⟨0, 1⟩, [0, 4, 5, 6, 7], 5, privacy, deadbolt, owed, []⟩ }

/-- The person in slot 0 is ASHORE. -/
def ashore (s : State) : State := { s with persons := s.persons.set 0 (person (identity 100 .GUEST) .ASHORE) }

/-- The entry that `waiting` puts in an intake. -/
abbrev entry (a : Nat) (e : Event) : Entry := ⟨⟨0, a⟩, e, 4900, e.takesDecision, false⟩

abbrev atDoor (s : State) (e : Event) : State := waiting s .CABIN_DOOR 1 e
abbrev atTerminal (s : State) (e : Event) : State := waiting s .VENUE_TERMINAL 2 e
abbrev atLane (s : State) (e : Event) : State := waiting s .GANGWAY_LANE 3 e

/-- Line 0 has no free slot. -/
def packed (s : State) : State := s.modifyLine 0 (fun ln => { ln with queue := List.replicate 16 ⟨1, .tune .LONG⟩ })

theorem witness_CabinRequestsAndIndicators :
    (∀ n ∈ [0, 1, 101, 102, 9999, 10000], ∀ z ∈ [0, 31, 32],
      (asked (.cabinPut 0 n z)).ready (.cabinPut 0 n z) = true ∧ (asked (.cabinDrop 0 n)).ready (.cabinDrop 0 n) = true
      ∧ (asked (.privacySet 0 n z)).ready (.privacySet 0 n z) = true)
    ∧ (port.cabinSlot 101 = some 0 ∧ port.cabinSlot 9999 = none ∧ port.cabins.get 2 = none
        ∧ ∀ j ∈ List.range 2, port.cabins.get j ≠ none)
    ∧ ((port.cabins.get 0).map (fun c => (c.occupants.isEmpty, c.doorHead)) = some (false, some ⟨0, 1⟩)
        ∧ (port.cabins.get 1).map (fun c => (c.occupants, c.doorHead)) = some ([], none))
    ∧ (port.online ⟨0, 1⟩ = true ∧ 0 < (port.line 0).free ∧ ((packed port).line 0).free = 0)
    ∧ ((withCabin port .PRIVACY .UNKNOWN true).cabins.wf = true
        ∧ ((withCabin port .PRIVACY .UNKNOWN true).cabins.get 0).map (·.owed) = some true) := by decide +kernel

/-- All 3,072 cabin slots hold a cabin, so that FULL is met. -/
theorem witness_CabinRequestsAndIndicators_full :
    let c : Cabin := ⟨101, 2, none, [], 0, .OPEN, .UNKNOWN, false, []⟩
    let s := { port with cabins := Table.full 3072 c }
    (∀ n z, (holding s (.cabinPut 0 n z)).ready (.cabinPut 0 n z) = true) ∧ ∀ k, k < 3072 → s.cabins.get k ≠ none := by
  refine ⟨fun n z => ?_, fun k hk => ?_⟩
  · simp [holding, State.ready, requestOf, Link.nextFor, ownerOf]
  · simp [Table.get_full, hk]

theorem not_emergency {s : State} {u : RawUid} {e : CardEntry} {p : Person} (he : s.lookupRaw u = some e)
    (hp : s.persons.get e.slot = some p) (hf : p.ident.emergency = false) :
    ¬ ∃ e p, s.lookupRaw u = some e ∧ e.state = .ACTIVE ∧ s.persons.get e.slot = some p ∧ p.ident.emergency = true := by
  rintro ⟨e', p', he', _, hp', hf'⟩
  simp_all

theorem witness_DoorDecisionOrder_unset :
    let s := { port with clock := ⟨.UNSET, 0, 0⟩ }
    s.clock.state = .UNSET ∧ ¬ ∃ e p, s.lookupRaw (cardUid 0) = some e ∧ e.state = .ACTIVE ∧ s.persons.get e.slot = some p
      ∧ p.ident.emergency = true :=
  ⟨by decide, not_emergency (e := ⟨[4, 161, 0, 0], 0, 1, .ACTIVE⟩) (p := person (identity 100 .GUEST) .ABOARD)
    (by decide +kernel) (by decide +kernel) (by decide)⟩

theorem witness_DoorDecisionOrder :
    (port.clock.state = .SET ∧ port.lookupRaw (cardUid 9) = none)
    ∧ ((port.lookupRaw (cardUid 5)).map (·.state) = some .SUSPENDED ∧ (port.lookupRaw (cardUid 6)).map (·.state) = some .REVOKED)
    ∧ ((port.lookupRaw (cardUid 3)).map (fun e => (e.state, e.slot)) = some (.ACTIVE, 3)
        ∧ (port.persons.get 3).map (·.ident.emergency) = some true)
    ∧ ((port.lookupRaw (cardUid 2)).map (fun e => (e.state, e.slot)) = some (.ACTIVE, 2)
        ∧ (port.persons.get 2).map (fun p => (p.ident.emergency, p.ident.category)) = some (false, .VISITOR))
    ∧ ((port.lookupRaw (cardUid 0)).map (fun e => (e.state, e.slot)) = some (.ACTIVE, 0)
        ∧ (port.persons.get 0).map (fun p => (p.ident.emergency, p.ident.category, p.presence)) = some (false, .GUEST, .ABOARD)
        ∧ (port.cabin? 101).map (fun c => (c.deadbolt, decide (0 ∈ c.occupants))) = some (.RELEASED, true)
        ∧ ((withCabin port .OPEN .ENGAGED false).cabin? 101).map (·.deadbolt) = some .ENGAGED
        ∧ (identity 100 .GUEST).stay = none
        ∧ ((ashore port).persons.get 0).map (·.presence) = some .ASHORE ∧ port.params.doorPolicy = .GRANT_AND_NOTIFY) := by decide +kernel

theorem witness_DoorDecisionOrder_windows :
    (((withCard port 7).lookupRaw (cardUid 7)).map (fun e => (e.state, e.slot)) = some (.ACTIVE, 7)
        ∧ (port.persons.get 7).map (·.ident.stay) = some (some (5, 6)) ∧ port.clock.time = 2000000)
    ∧ ((port.lookupRaw (cardUid 1)).map (fun e => (e.state, e.slot)) = some (.ACTIVE, 1)
        ∧ (port.persons.get 1).map (fun p => (p.ident.category, p.ident.service, p.ident.zones.getLsbD 2)) = some (.CREW, true, true)
        ∧ (port.cabin? 101).map (fun c => (decide (1 ∈ c.occupants), c.zone, c.privacy)) = some (false, 2, .OPEN)
        ∧ (port.persons.get 1).map (·.ident.shift) = some none
        ∧ ((withCabin port .PRIVACY .RELEASED false).cabin? 101).map (·.privacy) = some .PRIVACY)
    ∧ (((withCard port 8).lookupRaw (cardUid 7)).map (·.slot) = some 8
        ∧ (port.persons.get 8).map (·.ident.shift) = some (some (5, 6)) ∧ port.clock.time % 86400 = 12800)
    ∧ ((port.cabin? 102).map (fun c => decide (0 ∈ c.occupants)) = some false) := by decide +kernel

theorem witness_DoorTapDecided :
    ∀ n ∈ [0, 3, 5, 6, 9], let s := atDoor port (.doorTap (cardUid n) 7)
      s.takeable .CABIN_DOOR (entry 1 (.doorTap (cardUid n) 7)) [] ∧ s.head? ⟨0, 1⟩ = some (head .CABIN_DOOR 101)
      ∧ 0 < (s.line 0).reserved
      ∧ (s.doorVerdict (s.cabin? 101) (cardUid n)).decision =
          (if n = 0 then .GRANT .KEYED else if n = 3 then .GRANT .EMERGENCY else if n = 5 then .DENY .SUSPENDED
            else if n = 6 then .DENY .REVOKED else .DENY .UNKNOWN_CARD)
      ∧ ((s.doorVerdict (s.cabin? 101) (cardUid n)).notice = if n = 6 then some .REVOKED_CARD else none) := by
  unfold State.takeable; decide +kernel

theorem witness_DoorEventsApplied :
    (∀ tag ∈ [none, some 0, some 65535], let s := atDoor port (.opened tag)
      s.takeable .CABIN_DOOR (entry 1 (.opened tag)) [] ∧ s.head? ⟨0, 1⟩ = some (head .CABIN_DOOR 101)
      ∧ s.cabinSlot 101 = some 0 ∧ (s.cabins.get 0).isSome = true)
    ∧ (let g := { head .CABIN_DOOR 101 with lastGrant := some ⟨65535, 0, .SERVICE⟩ }
       let s := atDoor { port with heads := port.heads.set 1 g } (.opened (some 65535))
       s.takeable .CABIN_DOOR (entry 1 (.opened (some 65535))) [] ∧ s.head? ⟨0, 1⟩ = some g)
    ∧ (∀ e ∈ [Event.privacyOn, .privacyOff, .deadboltOn, .deadboltOff], (atDoor port e).takeable .CABIN_DOOR (entry 1 e) []) := by
  unfold State.takeable; decide +kernel

theorem witness_NotOpenedClearsGrant :
    (let g := { head .CABIN_DOOR 101 with lastGrant := some ⟨0, 0, .KEYED⟩ }
     ∀ tag ∈ [0, 1], let s := atDoor { port with heads := port.heads.set 1 g } (.notOpened tag)
       s.takeable .CABIN_DOOR (entry 1 (.notOpened tag)) [] ∧ s.head? ⟨0, 1⟩ = some g)
    ∧ (atDoor port (.notOpened 0)).takeable .CABIN_DOOR (entry 1 (.notOpened 0)) [] := by
  unfold State.takeable; decide +kernel

theorem witness_IntakeEntriesDiscarded :
    (let e : Entry := { entry 1 (.doorTap (cardUid 0) 7) with departed := true, held := false }
     takenFrom .doorTap e.event = some .CABIN_DOOR ∧ ((port.setIntake .CABIN_DOOR ⟨[e], 0⟩).intake .CABIN_DOOR).entries = [e])
    ∧ (let e := entry 4 .privacyOn
       takenFrom .privacyOn e.event = some .CABIN_DOOR ∧ ((waiting port .CABIN_DOOR 4 .privacyOn).intake .CABIN_DOOR).entries = [e]
       ∧ (waiting port .CABIN_DOOR 4 .privacyOn).online ⟨0, 4⟩ = false)
    ∧ (let e := entry 2 (.purchaseTap (cardUid 0) 7 [])
       let s := { atTerminal port (.purchaseTap (cardUid 0) 7 []) with elapsed := 6901 }
       takenFrom .purchaseTap e.event = some .VENUE_TERMINAL ∧ (s.intake .VENUE_TERMINAL).entries = [e] ∧ s.intakeWaits = false
       ∧ e.departed = false ∧ s.online e.head = true ∧ e.event.isTap = true ∧ s.window .VENUE_TERMINAL < s.since e.arrival
       ∧ s.since e.arrival = 2001 ∧ s.window .VENUE_TERMINAL = 2000)
    ∧ (takenFrom .void (.void 0) = some .VENUE_TERMINAL ∧ takenFrom .void (.confirm 0) = none)
    ∧ ({ atTerminal port (.confirm 2) with intakeWaits := true } : State).intakeWaits = true
    ∧ (let e := entry 2 (.confirm 2)
       let s := { atTerminal port (.confirm 2) with elapsed := 600000 }
       takenFrom .confirm e.event = some .VENUE_TERMINAL ∧ (s.intake .VENUE_TERMINAL).entries = [e] ∧ s.intakeWaits = false
       ∧ e.departed = false ∧ s.online e.head = true ∧ e.event.isTap = false) := by decide +kernel

/-! ## Witnesses of folios, venues, the journal, purchases and holds -/

/-- A charge of folio 0 of 1,000 minor units, with this number. -/
def charge (n : Nat) : JournalEntry := ⟨n, 1000, 0, 30, 0, 100, 1, 900, 0, 100, 1000, 0, 0, false, false, false⟩

/-- The journal holds the charges 5 and 6; the entries up to 4 are retired. -/
def charged (s : State) : State := { s with journal := [charge 5, charge 6], retiredThrough := 4 }

def staged : Staged := ⟨.HELD, 100, none, -5, 5⟩

/-- Folio 0 is under reconcile, at the entry with this number. -/
def reconciling (s : State) (cursor : Nat) : State := { charged s with scanner := some ⟨0, 30, staged, 6, cursor, 0⟩ }

/-- The terminal 0/2 has this hold. -/
def withHold (s : State) (h : Hold) : State := { s with heads := s.heads.set 2 { head .VENUE_TERMINAL 1 with hold := some h } }

def withPerson (s : State) (slot : Nat) (p : Person) : State := { s with persons := s.persons.set slot p }

def goodFolio : FolioFields := ⟨30, 2, 999999999, some ⟨1, 9999999, 99⟩, -999999999999, 5⟩

theorem witness_FolioPutByCase :
    (∀ slot ∈ [0, 1, 3, 4095, 4096], (asked (.folioPut 0 slot goodFolio)).ready (.folioPut 0 slot goodFolio) = true)
    ∧ ((stagedOf goodFolio).isSome = true ∧ stagedOf { goodFolio with limit := 1000000000 } = none
        ∧ stagedOf { goodFolio with posted := 1000000000000 } = none)
    ∧ (∃ cell ∈ port.folios.cells, cell.1 ≠ 3 ∧ cell.2.id = 30)
    ∧ (port.folios.get 4095 = none ∧ (∀ cell ∈ port.folios.cells, cell.2.id ≠ 900) ∧ ∀ e ∈ (charged port).journal, ¬ (e.folio = 4095 ∧ e.folioId = 900))
    ∧ (let s := { charged port with folios := port.folios.erase 0 }
       s.folios.get 0 = none ∧ (∀ cell ∈ s.folios.cells, cell.2.id ≠ 30) ∧ ∃ e ∈ s.journal, e.folio = 0 ∧ e.folioId = 30)
    ∧ ((port.folios.get 0).map (·.id) = some 30 ∧ (∀ cell ∈ port.folios.cells, cell.1 ≠ 0 → cell.2.id ≠ 30)
        ∧ ((reconciling port 5).scanner ≠ none ∧ port.scanner = none)
        ∧ ((charged port).retiredThrough = 4 ∧ (charged port).newestCharge = 6)
        ∧ ((charged port).journal = [charge 5, charge 6] ∧ (charge 5).number ≤ (charged port).newestCharge)
        ∧ (port.journal = [] ∧ port.deferred = [] ∧ port.intakeWaits = false ∧ port.newestCharge = 0 ∧ port.retiredThrough = 0)) := by
  decide +kernel

theorem witness_ScanStepExaminesOneEntry :
    port.scanner = none
    ∧ ((reconciling port 5).scanner = some ⟨0, 30, staged, 6, 5, 0⟩ ∧ (5 : Nat) < 6)
    ∧ ((reconciling port 6).scanner = some ⟨0, 30, staged, 6, 6, 0⟩ ∧ (reconciling port 6).deferred = []
        ∧ ((reconciling port 6).folios.get 0).isSome = true)
    ∧ (∀ st ∈ [HeadState.ONLINE, .IDLE],
        let hd := { head .VENUE_TERMINAL 1 with state := st, hold := some { hold with confirming := true } }
        let s := { reconciling port 6 with heads := port.heads.set 2 hd,
                                           deferred := [⟨⟨0, 2⟩, 2, none⟩, ⟨⟨0, 7⟩, 3, some { hold with confirming := true }⟩] }
        s.scanner = some ⟨0, 30, staged, 6, 6, 0⟩ ∧ s.deferred.length = 2 ∧ s.head? ⟨0, 2⟩ = some hd)
    ∧ (∀ d ∈ ([⟨⟨0, 7⟩, 3, some hold⟩] : List Deferred), d.carried ≠ none) := by decide +kernel

/-- Each deferred CONFIRM becomes an entry at the completion, and the one of an ONLINE terminal is answered. -/
theorem test_deferred_confirms_are_applied :
    let hd := { head .VENUE_TERMINAL 1 with hold := some { hold with confirming := true } }
    let s := { reconciling port 6 with heads := port.heads.set 2 hd,
                                       deferred := [⟨⟨0, 2⟩, 2, none⟩, ⟨⟨0, 7⟩, 3, some { hold with confirming := true }⟩] }
    s.scanStep.journal.map (·.number) = [5, 6, 7, 8] ∧ (s.scanStep.line 0).queue = [⟨2, .purchase 2 (.CONFIRMED 7)⟩]
      ∧ (s.scanStep.head? ⟨0, 2⟩).map (·.hold) = some none := by decide +kernel

theorem witness_FolioEditsAndFree :
    (∀ slot ∈ [0, 2, 4095, 4096], ∀ v ∈ [0, 2, 3, 999999999, 1000000000],
      (asked (.folioLimit 0 slot v)).ready (.folioLimit 0 slot v) = true
      ∧ (asked (.folioState 0 slot v)).ready (.folioState 0 slot v) = true
      ∧ (asked (.folioFree 0 slot)).ready (.folioFree 0 slot) = true)
    ∧ (port.folios.get 4095 = none ∧ (port.folios.get 0).isSome = true ∧ FolioState.CLOSED.ctorIdx = 2)
    ∧ (port.scanner = none ∧ (reconciling port 5).scanner.map (fun sc => (sc.slot, sc.id)) = some (0, 30))
    ∧ (∃ cell ∈ port.persons.cells, cell.2.ident.folio = some 0)
    ∧ ((∀ cell ∈ port.persons.cells, cell.2.ident.folio ≠ some 2)
        ∧ (port.folios.get 2).map (fun f => (f.unposted, f.held)) = some (0, 0)) := by decide +kernel

theorem witness_VenueUpstreamAndBases :
    (∀ venue ∈ [0, 63, 64], ∀ rate ∈ [0, 3000, 3001], ∀ e ∈ [0, 1, 2],
      (asked (.venuePut 0 venue rate e)).ready (.venuePut 0 venue rate e) = true)
    ∧ (∀ v ∈ [0, 1, 2], (asked (.upstreamSet 0 v)).ready (.upstreamSet 0 v) = true)
    ∧ (port.upstream = .ONLINE ∧ ({ port with upstream := .OFFLINE, epoch := 4294967295 } : State).upstream = .OFFLINE)
    ∧ (∀ n ∈ [0, 1, 4294967295, 4294967296], (asked (.journalBase 0 n)).ready (.journalBase 0 n) = true
        ∧ (asked (.crossingBase 0 n)).ready (.crossingBase 0 n) = true)
    ∧ ((charged port).journal ≠ [] ∧ port.journal = [] ∧ 1 ≤ port.params.highWater
        ∧ port.openHolds.length ≤ 4294967296 - 4294967295)
    ∧ (let s := { withHold port hold with deferred := [⟨⟨0, 7⟩, 3, some { hold with confirming := true }⟩] }
       4294967296 - 4294967295 < s.openHolds.length ∧ s.journal = [])
    ∧ (port.filling.records = [] ∧ port.other.state = .EMPTY
        ∧ ({ port with bank1 := ⟨.READABLE, []⟩ } : State).other.state ≠ .EMPTY) := by decide +kernel

theorem witness_ChargesRetireBooks :
    (∀ n ∈ [0, 4, 5, 6, 7], (asked (.chargesRetire 0 n)).ready (.chargesRetire 0 n) = true)
    ∧ ((reconciling port 5).scanner ≠ none ∧ port.scanner = none ∧ port.journal = [])
    ∧ ((charged port).retiredThrough < 5 ∧ (charged port).journal ≠ [] ∧ (charged port).scanner = none
        ∧ (charged port).newestCharge < 7 ∧ ((charged port).folios.get 0).isSome = true)
    ∧ (let s := { charged port with params := { port.params with highWater := 1 } }
       s.params.highWater ≤ (s.journal.filter (fun e => decide (5 < e.number))).length)
    ∧ ((charged port).journal.filter (fun e => decide (6 < e.number))).length < port.params.highWater := by decide +kernel

/-- A covered tab: two lines, with their units given. -/
theorem witness_PurchaseFiguresAndCoverage :
    let lines : List PurchaseLine := [⟨.SOFT, 450, 2⟩, ⟨.ALCOHOLIC, 1650, 3⟩]
    ([1, 1] : List Nat).length = lines.length ∧ (∀ x ∈ lines.zip [1, 1], x.2 ≤ x.1.qty) ∧ ([1, 1] : List Nat).sum ≤ 2
      ∧ (none : Option Package) = none ∧ (⟨1800, false⟩ : Venue).eligible = false := by decide

/-- One bottle of 10.00: 11.80 with the gratuity of venue 1. -/
abbrev bottle : List RawLine := [⟨1, 1000, 1⟩]

/-- The refusal of the AUTH checks, none when the TAP is approved. -/
def refusalOf : Except PurchaseRefusal Approval → Option PurchaseRefusal
  | .ok _ => none
  | .error r => some r

theorem witness_AuthChecksInOrder_card :
    (({ port with clock := ⟨.UNSET, 0, 0⟩ } : State).clock.state = .UNSET ∧ port.clock.state = .SET)
    ∧ (port.lookupRaw (cardUid 9) = none ∧ (port.lookupRaw (cardUid 5)).map (·.state) = some .SUSPENDED
        ∧ (port.lookupRaw (cardUid 6)).map (·.state) = some .REVOKED)
    ∧ (((withCard port 5).lookupRaw (cardUid 7)).map (fun e => (e.state, e.slot)) = some (.ACTIVE, 5)
        ∧ (port.persons.get 5).map (·.ident.folio) = some none)
    ∧ ((port.lookupRaw (cardUid 0)).map (fun e => (e.state, e.slot)) = some (.ACTIVE, 0)
        ∧ (port.persons.get 0).map (fun p => (p.ident.folio, p.ident.chargeHold, p.presence)) = some (some 0, false, .ABOARD)
        ∧ (port.folios.get 0).map (·.state) = some .OPEN)
    ∧ ((port.lookupRaw (cardUid 4)).map (·.slot) = some 4 ∧ (port.persons.get 4).map (·.ident.chargeHold) = some true)
    ∧ ((ashore port).persons.get 0).map (fun p => (p.presence, p.ident.chargeHold)) = some (.ASHORE, false)
    ∧ (({ ashore port with params := { port.params with chargePolicy := .REFUSE } } : State).params.chargePolicy = .REFUSE
        ∧ (ashore port).params.chargePolicy = .ALLOW_AND_NOTIFY)
    ∧ (((withCard port 6).lookupRaw (cardUid 7)).map (·.slot) = some 6 ∧ (port.folios.get 1).map (·.state) = some .HELD)
    ∧ (reconciling port 5).scanner.map (fun sc => (sc.slot, sc.id)) = some (0, 30)
    ∧ (linesOf [] = none ∧ linesOf [⟨0, 1, 1⟩] = none ∧ linesOf [⟨1, 10000000, 1⟩] = none ∧ linesOf [⟨1, 1, 100⟩] = none
        ∧ linesOf bottle = some [⟨.ALCOHOLIC, 1000, 1⟩]) := by decide +kernel

/-- The steps from 8 on: the total is out of range, each later refusal is met, and a tap passes. -/
theorem witness_AuthChecksInOrder_figures :
    let v : Venue := ⟨1800, true⟩
    let i := identity 100 .GUEST
    let total := fun raw => (linesOf raw).map (fun ls => (computeFigures none v 0 ls).total)
    let answer := fun (s : State) => refusalOf (s.authorise v (cardUid 0) bottle)
    (total (List.replicate 8 ⟨1, 9999999, 99⟩)).map (fun n => decide (99999999 < n)) = some true
    ∧ total bottle = some 1180
    ∧ (withPerson port 0 (person { i with alcohol := false } .ABOARD)).persons.get 0
        = some (person { i with alcohol := false } .ABOARD)
    ∧ (let s := { port with retiredThrough := 4294967295 }
       ¬ (s.openHolds.length < 4294967296 - s.nextCharge) ∧ answer s = some .JOURNAL_FULL)
    ∧ (let p := person { i with childCap := some 1179 } .ABOARD
       0 + p.childReserved + 1180 > 1179 ∧ answer (withPerson port 0 p) = some .CHILD_CAP)
    ∧ (let s := { port with upstream := .OFFLINE, params := { port.params with offlineAllowance := 1179 } }
       s.upstream = .OFFLINE ∧ (0 : Nat) + 1180 > s.params.offlineAllowance ∧ answer s = some .OFFLINE_CAP)
    ∧ (let s := { port with folios := port.folios.set 0 ⟨30, .OPEN, 1179, none, 0, 0, 0, 0, 0, 0⟩ }
       ¬ ((1180 : Int) ≤ 1179 - 0 - 0 - 0) ∧ answer s = some .LIMIT)
    ∧ (port.journal.length + port.openHolds.length < 4096 ∧ answer port = none) := by decide +kernel

theorem witness_PurchaseTapDecided :
    ∀ hd ∈ [head .VENUE_TERMINAL 1, { head .VENUE_TERMINAL 1 with hold := some hold },
            { head .VENUE_TERMINAL 1 with hold := some { hold with confirming := true } }],
    ∀ n ∈ [0, 9], ∀ up ∈ [Upstream.ONLINE, .OFFLINE],
      let ev := Event.purchaseTap (cardUid n) 7 bottle
      let s := atTerminal { port with heads := port.heads.set 2 hd, upstream := up } ev
      s.takeable .VENUE_TERMINAL (entry 2 ev) [] ∧ s.intakeWaits = false ∧ s.head? ⟨0, 2⟩ = some hd ∧ 0 < (s.line 0).reserved
      ∧ refusalOf (s.authorise (s.venueOf hd.bound) (cardUid n) bottle) = (if n = 0 then none else some .UNKNOWN_CARD)
      ∧ (s.folios.get 0).isSome = true ∧ (s.persons.get 0).isSome = true := by
  unfold State.takeable; decide +kernel

theorem witness_HoldsReleased :
    (let s := withHold port hold
     s.head? ⟨0, 2⟩ = some { head .VENUE_TERMINAL 1 with hold := some hold } ∧ s.holdAt ⟨0, 2⟩ = some hold ∧ hold.confirming = false
     ∧ (s.folios.get hold.folio).isSome = true ∧ (s.persons.get hold.slot).isSome = true
     ∧ ({ hold with offline := some (1000, 0) } : Hold).offline = some (1000, s.epoch)
     ∧ (s.folios.get hold.folio).map (·.offlineEpoch) = some s.epoch
     ∧ (s.folios.get hold.folio).map (·.offlineEpoch) ≠ some ({ s with epoch := 1 } : State).epoch)
    ∧ port.holdAt ⟨0, 2⟩ = none
    ∧ (withHold port { hold with confirming := true }).holdAt ⟨0, 2⟩ = some { hold with confirming := true } := by decide +kernel

theorem witness_VoidReleasesItsHold :
    ∀ tag ∈ [2, 3], ∀ h ∈ [hold, { hold with confirming := true }],
      let s := atTerminal (withHold port h) (.void tag)
      s.takeable .VENUE_TERMINAL (entry 2 (.void tag)) [] ∧ s.intakeWaits = false
      ∧ s.head? ⟨0, 2⟩ = some { head .VENUE_TERMINAL 1 with hold := some h } ∧ h.tag = 2 := by
  unfold State.takeable; decide +kernel

theorem witness_ConfirmByCase :
    (∀ tag ∈ [2, 3], ∀ h ∈ [hold, { hold with confirming := true }], ∀ n ∈ [0, 15, 16],
      let s := atTerminal { reconciling (withHold port h) 5 with deferred := List.replicate n ⟨⟨1, 1⟩, 0, none⟩ } (.confirm tag)
      s.takeable .VENUE_TERMINAL (entry 2 (.confirm tag)) [] ∧ (entry 2 (.confirm tag)).held = true ∧ s.intakeWaits = false
      ∧ s.head? ⟨0, 2⟩ = some { head .VENUE_TERMINAL 1 with hold := some h } ∧ 0 < (s.line 0).reserved
      ∧ h.tag = 2 ∧ s.scanner.map (fun sc => (sc.slot, sc.id)) = some (h.folio, h.folioId) ∧ s.deferred.length = n)
    ∧ (let s := atTerminal (withHold port hold) (.confirm 2)
       s.takeable .VENUE_TERMINAL (entry 2 (.confirm 2)) [] ∧ s.intakeWaits = false ∧ s.scanner = none ∧ 0 < (s.line 0).reserved) := by
  unfold State.takeable; decide +kernel

/-- The entry of a confirmed charge holds the hold's units and child amount, and 47 bytes of it travel (R91, R192, log entry 29). -/
theorem test_entry_records_units_and_child :
    let e := port.entryOf { hold with units := 3, child := 250 } 7
    (e.number, e.units, e.child) = (7, 3, 250) ∧ (encJournal e).length = 47 := by decide +kernel

theorem witness_ConfirmApplied :
    (port.folios.get hold.folio).isSome = true ∧ (port.persons.get hold.slot).isSome = true ∧ port.folioDay = hold.day
    ∧ port.folioDay ≠ ({ hold with day := 21 } : Hold).day ∧ port.journal.length + 1 < port.params.highWater
    ∧ ({ port with params := { port.params with highWater := 1 } } : State).params.highWater ≤ port.journal.length + 1 := by
  decide +kernel

/-! ## Witnesses of lanes, banks, census and sweeper -/

/-- Lane 0 is OPEN for its head 0/3, with these fields. -/
def lane0 (d : Direction) (m : CommitMode) (p : Option Pending) : Lane :=
  { Lane.powerOn with state := .OPEN, head := some ⟨0, 3⟩, direction := d, mode := m, pending := p }

def withLane (s : State) (la : Lane) : State := { s with lanes := s.lanes.set 0 la }

/-- The crossing of the crew member in slot 1, at a stage. -/
def crossing (st : Stage) : Pending := ⟨1, 5, 2000000, st, decide (st = .AWAIT_OFFICER), ⟨4000, 20000⟩⟩

/-- A crossing record of slot 1. -/
def record (n : Nat) : Crossing := ⟨n, 1000, 1, 101, some 0, .INBOUND, .ASHORE, .ABOARD, false, false, .BY_PASS⟩

/-- Bank 0 is FILLING with records up to one short of its limit under HOLD_AT_THRESHOLD, or at it; bank 1 is READABLE. -/
def banked (s : State) (n : Nat) : State :=
  { s with
    bank0  := ⟨.FILLING, (List.range n).map (fun k => record (k + 2))⟩
    bank1  := ⟨.READABLE, [record 1]⟩
    params := { s.params with bankThreshold := 1, bankPolicy := .HOLD_AT_THRESHOLD } }

theorem witness_LaneRequestsByTable :
    (∀ n ∈ [0, 7, 8], ∀ d ∈ [0, 1, 2], ∀ m ∈ [0, 1, 2], (asked (.lanePut 0 n d m)).ready (.lanePut 0 n d m) = true)
    ∧ (∀ n ∈ [0, 7, 8],
        (asked (.laneOpen 0 n)).ready (.laneOpen 0 n) = true ∧ (asked (.laneHold 0 n)).ready (.laneHold 0 n) = true
        ∧ (asked (.laneRelease 0 n)).ready (.laneRelease 0 n) = true ∧ (asked (.laneClose 0 n)).ready (.laneClose 0 n) = true)
    ∧ ((port.lane 0).state = .OPEN ∧ (port.lane 7).state = .CLOSED ∧ (port.lane 7).head = none)
    ∧ (let s := withLane port { lane0 .INBOUND .ON_PASS none with state := .CLOSED }
       (s.lane 0).state = .CLOSED ∧ (s.lane 0).head = some ⟨0, 3⟩ ∧ s.online ⟨0, 3⟩ = true)
    ∧ (∀ b ∈ [true, false], let s := withLane port { lane0 .INBOUND .ON_PASS none with state := .HELD, holdHost := true, holdBank := b }
        (s.lane 0).state = .HELD ∧ (s.lane 0).holdBank = b)
    ∧ ((port.lane 0).pending = none
        ∧ ∀ st ∈ [Stage.AWAIT_PASS, .AWAIT_NEXT, .AWAIT_OFFICER],
            ((withLane port (lane0 .INBOUND .ON_NEXT (some (crossing st)))).lane 0).pending = some (crossing st)) := by decide +kernel

theorem witness_CommitRecordsCrossing :
    (port.persons.get (crossing .AWAIT_PASS).slot).isSome = true
    ∧ (∀ d ∈ [Direction.INBOUND, .OUTBOUND], ((withLane port (lane0 d .ON_PASS none)).lane 0).direction = d)
    ∧ (let s := { banked port 1 with bank1 := ⟨.EMPTY, []⟩ }
       s.fillingNumber = 0 ∧ s.params.bankThreshold < (s.bank 0).records.length + 1 ∧ (s.bank 1).state = .EMPTY)
    ∧ (({ banked port 0 with bank1 := ⟨.EMPTY, []⟩ } : State).bank 0).records.length + 1 ≤ 1
    ∧ ({ port with nextCrossing := 4294967295 } : State).nextCrossing = 4294967295 ∧ port.cabins.wf = true := by decide +kernel

theorem witness_LaneTapDecided_refusals :
    let ev := fun n => Event.laneTap (cardUid n) 5
    (∀ n ∈ [0, 1, 4, 5, 6, 9], let s := atLane port (ev n)
      s.takeable .GANGWAY_LANE (entry 3 (ev n)) [] ∧ s.head? ⟨0, 3⟩ = some (head .GANGWAY_LANE 0) ∧ 0 < (s.line 0).reserved
      ∧ s.clock.state = .SET ∧ (s.lane 0).state = .OPEN ∧ (s.lane 0).pending = none)
    ∧ (let s := atLane { port with clock := ⟨.UNSET, 0, 0⟩ } (ev 0)
       s.clock.state = .UNSET ∧ s.takeable .GANGWAY_LANE (entry 3 (ev 0)) [])
    ∧ (∀ st ∈ [LaneState.CLOSED, .HELD], let s := atLane (withLane port { lane0 .INBOUND .ON_PASS none with state := st }) (ev 0)
        s.clock.state = .SET ∧ (s.lane 0).state = st ∧ s.takeable .GANGWAY_LANE (entry 3 (ev 0)) [])
    ∧ (port.lookupRaw (cardUid 9) = none ∧ (port.lookupRaw (cardUid 5)).map (·.state) = some .SUSPENDED
        ∧ (port.lookupRaw (cardUid 6)).map (·.state) = some .REVOKED)
    ∧ ((port.lookupRaw (cardUid 4)).map (fun e => (e.state, e.slot)) = some (.ACTIVE, 4)
        ∧ (port.persons.get 4).map (·.ident.gangwayHold) = some true)
    ∧ ((port.lookupRaw (cardUid 1)).map (fun e => (e.state, e.slot)) = some (.ACTIVE, 1)
        ∧ (port.persons.get 1).map (·.ident.gangwayHold) = some false)
    ∧ (let s := { port with lanes := port.lanes.set 1 { lane0 .INBOUND .ON_PASS (some (crossing .AWAIT_PASS)) with head := none } }
       s.crossingNames 1 = true ∧ (s.lane 0).pending = none)
    ∧ (let s := withLane port (lane0 .INBOUND .ON_PASS (some (crossing .AWAIT_PASS)))
       s.crossingNames 0 = false ∧ (s.lane 0).pending = some (crossing .AWAIT_PASS)
       ∧ (port.lookupRaw (cardUid 0)).map (fun e => (e.state, e.slot)) = some (.ACTIVE, 0)) := by
  unfold State.takeable; decide +kernel

theorem witness_LaneTapDecided :
    (∀ st ∈ [Stage.AWAIT_PASS, .AWAIT_NEXT, .AWAIT_OFFICER], ∀ n ∈ [0, 1],
      let ev := Event.laneTap (cardUid n) 5
      let s := atLane (withLane port (lane0 .INBOUND .ON_NEXT (some (crossing st)))) ev
      s.takeable .GANGWAY_LANE (entry 3 ev) [] ∧ s.head? ⟨0, 3⟩ = some (head .GANGWAY_LANE 0) ∧ 0 < (s.line 0).reserved
      ∧ s.clock.state = .SET ∧ (s.lane 0).state = .OPEN ∧ (s.lookupRaw (cardUid n)).map (fun e => (e.state, e.slot)) = some (.ACTIVE, n)
      ∧ (s.persons.get n).map (·.ident.gangwayHold) = some false ∧ (s.lane 0).pending = some (crossing st)
      ∧ (crossing st).slot = 1 ∧ s.crossingNames 0 = false ∧ s.persons.get (crossing st).slot ≠ none)
    ∧ (∀ d ∈ [Direction.INBOUND, .OUTBOUND], ∀ n ∈ [0, 1], ∀ k ∈ [1, 2],
        let ev := Event.laneTap (cardUid n) 5
        let s := atLane (withLane (banked port k) (lane0 d .ON_PASS none)) ev
        s.takeable .GANGWAY_LANE (entry 3 ev) [] ∧ (s.lane 0).pending = none ∧ s.crossingNames n = false
        ∧ (s.filling.records.length + s.pendings.length < s.roomLimit ↔ k = 1)
        ∧ (s.persons.get n).map (·.presence) = some (if n = 0 then .ABOARD else .ASHORE)) := by
  unfold State.takeable; decide +kernel

theorem witness_PassedAndOfficerAccept :
    (∀ e ∈ [Event.passed, .officerAccept], ∀ st ∈ [Stage.AWAIT_PASS, .AWAIT_NEXT, .AWAIT_OFFICER],
      let s := atLane (withLane port (lane0 .INBOUND .ON_PASS (some (crossing st)))) e
      s.takeable .GANGWAY_LANE (entry 3 e) [] ∧ s.head? ⟨0, 3⟩ = some (head .GANGWAY_LANE 0)
      ∧ (s.lane 0).pending = some (crossing st) ∧ (crossing st).stage = st)
    ∧ (∀ e ∈ [Event.passed, .officerAccept], (atLane port e).takeable .GANGWAY_LANE (entry 3 e) [] ∧ (port.lane 0).pending = none) := by
  unfold State.takeable; decide +kernel

theorem witness_OfficerRejectAbandons :
    ∀ p ∈ [none, some (crossing .AWAIT_OFFICER)], let s := atLane (withLane port (lane0 .INBOUND .ON_PASS p)) .officerReject
      s.takeable .GANGWAY_LANE (entry 3 .officerReject) [] ∧ s.head? ⟨0, 3⟩ = some (head .GANGWAY_LANE 0) ∧ (s.lane 0).pending = p := by
  unfold State.takeable; decide +kernel

theorem witness_CrossingTimersExpire :
    (∀ st ∈ [Stage.AWAIT_PASS, .AWAIT_NEXT, .AWAIT_OFFICER],
      ((withLane port (lane0 .INBOUND .ON_PASS (some (crossing st)))).lane 0).pending = some (crossing st) ∧ (crossing st).stage = st)
    ∧ (port.lane 0).pending = none := by decide +kernel

theorem witness_BankFlushAndRelease :
    (∀ n ∈ [0, 1, 2], (asked (.bankRelease 0 n)).ready (.bankRelease 0 n) = true)
    ∧ (asked (.bankFlush 0)).ready (.bankFlush 0) = true
    ∧ ((port.bank port.fillingNumber).records = [] ∧ (port.bank 1).state ≠ .READABLE)
    ∧ (let s := banked port 1
       s.fillingNumber = 0 ∧ (s.bank 0).records ≠ [] ∧ (s.bank 1).state = .READABLE ∧ (s.bank 0).state = .FILLING
       ∧ (s.bank 0).records.length ≤ s.params.bankThreshold)
    ∧ (banked port 2).params.bankThreshold < ((banked port 2).bank 0).records.length
    ∧ (let s := { banked port 1 with bank1 := ⟨.EMPTY, []⟩ }
       (s.bank 0).records ≠ [] ∧ (s.bank 1).state ≠ .READABLE) := by decide +kernel

theorem witness_PresenceSetCommits :
    (∀ slot ∈ [0, 9, 8191, 8192], ∀ p ∈ [0, 1, 2, 3], (asked (.presenceSet 0 slot p)).ready (.presenceSet 0 slot p) = true)
    ∧ (port.persons.get 8191 = none ∧ port.persons.get 0 ≠ none ∧ port.crossingNames 0 = false)
    ∧ (withLane port (lane0 .INBOUND .ON_PASS (some (crossing .AWAIT_PASS)))).crossingNames 1 = true
    ∧ (∀ k ∈ [1, 2], let s := banked port k
        s.filling.records.length + s.pendings.length < s.roomLimit ↔ k = 1)
    ∧ (let s := { banked port 1 with bank1 := ⟨.EMPTY, []⟩ }
       s.params.bankThreshold < (s.bank s.fillingNumber).records.length + 1 ∧ (s.bank (1 - s.fillingNumber)).state = .EMPTY
       ∧ s.filling.records.length + s.pendings.length < s.roomLimit)
    ∧ (port.cabins.wf = true ∧ (port.bank port.fillingNumber).records.length + 1 ≤ port.params.bankThreshold) := by decide +kernel

/-- The last one aboard goes ashore: the cabin's privacy lapses and its door head is told (R27, R28). -/
theorem test_privacy_lapses_with_the_last_ashore :
    let c : Cabin := ⟨101, 2, some ⟨0, 1⟩, [0], 1, .PRIVACY, .RELEASED, false, []⟩
    let s := { port with cabins := port.cabins.set 0 c, params := { port.params with privacyLapse := true } }
    let t := s.cabinsChanged (Cabin.recounted .ABOARD .ASHORE) [101]
    (t.cabins.get 0).map (fun c => (c.aboard, c.privacy)) = some (0, .OPEN) ∧ (t.line 0).queue = [⟨1, .indicator 101 .OPEN⟩] := by
  decide +kernel

theorem witness_SweepExaminesEverySlot :
    (asked (.allaboardStart 0)).ready (.allaboardStart 0) = true
    ∧ (port.sweeper.state ≠ .SWEEPING ∧ ({ port with sweeper := ⟨.SWEEPING, 0, [], false⟩ } : State).sweeper.state = .SWEEPING)
    ∧ ((port.persons.get 1).map (fun p => (p.ident.category, p.presence, p.ident.excused)) = some (.CREW, .ASHORE, false)
        ∧ (port.persons.get 0).map (·.presence) = some .ABOARD)
    ∧ ((1 : Nat) + 1 < 8192 ∧ (8192 : Nat) ≤ 8191 + 1)
    ∧ ((List.replicate 255 0).length < 256 ∧ 256 ≤ (List.replicate 256 0).length) := by decide +kernel

/-! ## Witnesses of lines and heads -/

def withHead (s : State) (a : Nat) (hd : Head) : State := { s with heads := s.heads.set a hd }

/-- Line 0 is RUNNING with these frames and cursor. -/
def queued (s : State) (q : List OutFrame) (cursor : Nat) : State := s.modifyLine 0 (fun ln => { ln with queue := q, cursor := cursor })

/-- Line 0 holds a push of one byte to the destination. -/
def pushing (s : State) (dest : Nat) : State := s.modifyLine 0 (fun ln => { ln with push := some ⟨dest, [1], none, true, 0⟩ })

/-- Only an IDLE head stands on line 0. -/
def alone : State := { port with heads := ⟨[(9, { head .CABIN_DOOR 101 with state := .IDLE })]⟩ }

theorem witness_LineStartAndStop :
    (∀ l ∈ [0, 1, 15, 16], (asked (.lineStart 0 l)).ready (.lineStart 0 l) = true ∧ (asked (.lineStop 0 l)).ready (.lineStop 0 l) = true)
    ∧ ((port.line 0).state = .RUNNING ∧ (port.line 15).state = .DOWN)
    ∧ ((port.head? ⟨0, 1⟩).map (·.state) = some .ONLINE ∧ (port.head? ⟨0, 3⟩).map (·.cls) = some .GANGWAY_LANE)
    ∧ (port.heads.wf = true ∧ (port.head? ⟨0, 5⟩).map (·.state) = some .FAULTED ∧ (port.line 0).push = none)
    ∧ (∀ dest ∈ [1, 2, 255], ((pushing port dest).line 0).push = some ⟨dest, [1], none, true, 0⟩
        ∧ (pushing port dest).head? ⟨0, 1⟩ = some (head .CABIN_DOOR 101)) := by decide +kernel

/-- States of the heads that leave ONLINE: each hold, and each lane. -/
theorem witness_LineStartAndStop_departures :
    (∀ hd ∈ [head .VENUE_TERMINAL 1, { head .VENUE_TERMINAL 1 with hold := some hold },
        { head .VENUE_TERMINAL 1 with hold := some { hold with confirming := true } }, { head .VENUE_TERMINAL 1 with state := .IDLE }],
      (withHead port 2 hd).head? ⟨0, 2⟩ = some hd)
    ∧ (∀ la ∈ [lane0 .INBOUND .ON_PASS none, lane0 .INBOUND .ON_PASS (some (crossing .AWAIT_PASS)), Lane.powerOn],
        (withLane port la).lane 0 = la ∧ (withLane port la).head? ⟨0, 3⟩ = some (head .GANGWAY_LANE 0)
        ∧ (head .GANGWAY_LANE 0).cls = .GANGWAY_LANE ∧ (head .GANGWAY_LANE 0).bound = 0)
    ∧ ((lane0 .INBOUND .ON_PASS none).state ≠ .CLOSED ∧ Lane.powerOn.state = .CLOSED) := by decide +kernel

/-- A lane head that leaves ONLINE by LINE STOP abandons its lane's crossing, and a FAULTED head raises HEAD_STATE (R123, R144, R176). -/
theorem test_line_stop_closes_the_lane_and_raises :
    let t := (withLane port (lane0 .INBOUND .ON_PASS (some (crossing .AWAIT_PASS)))).lineStopped 0
    ((t.lane 0).state, (t.lane 0).pending, (t.lane 0).abandoned) = (.CLOSED, none, 1)
      ∧ (t.latch .PENDING_LOST).subject = some (.lane 0, 2000000)
      ∧ (t.latch .HEAD_STATE).subject = some (.headState ⟨0, 5⟩ (some .IDLE) none 0, 2000000) := by decide +kernel

/-- R146 and R89: a head that leaves ONLINE loses its queued frames but for the one in flight, and a confirming hold is carried. -/
theorem test_departure_keeps_the_frame_in_flight_and_carries :
    let f : OutFrame := ⟨2, .purchase 1 .LATE⟩
    let s := flying (queued (withHead port 2 { head .VENUE_TERMINAL 1 with hold := some { hold with confirming := true } })
      [f, ⟨2, .purchase 2 .LATE⟩, ⟨1, .tune .LONG⟩] 1) ⟨.queued f, 2, false, none, false⟩
    let t := { s with deferred := [⟨⟨0, 2⟩, 2, none⟩] }.leaveOnline ⟨0, 2⟩
    (t.line 0).queue = [f, ⟨1, .tune .LONG⟩] ∧ t.deferred = [⟨⟨0, 2⟩, 2, some { hold with confirming := true }⟩]
      ∧ (t.folios.get 0).map (·.held) = (s.folios.get 0).map (·.held) := by decide +kernel

/-- A head of LINE GET is its line and address, its state and its missed turns (R152, R192). -/
theorem test_line_get_head : port.encLineHead ⟨0, 1⟩ = [0, 1, 3, 0] := by decide +kernel

theorem witness_TurnStartsByCase_polls :
    (∀ st ∈ [HeadState.IDLE, .FAULTED, .ONLINE], let hd := { head .CABIN_DOOR 101 with state := st }
      (withHead port 1 hd).head? ⟨0, 1⟩ = some hd)
    ∧ (∀ n ∈ [intakeCapacity .CABIN_DOOR - 1, intakeCapacity .CABIN_DOOR],
        let s := port.setIntake .CABIN_DOOR ⟨[], n⟩
        ((s.intake .CABIN_DOOR).entries.length + (s.intake .CABIN_DOOR).reserved < intakeCapacity .CABIN_DOOR
          ↔ n = intakeCapacity .CABIN_DOOR - 1) ∧ 0 < (s.line 0).free)
    ∧ ((packed port).line 0).free = 0
    ∧ (∀ t ∈ [none, some 4900, some 4901], let hd := { head .CABIN_DOOR 200 with state := .TUNING, lastTurnEnd := t }
        (withHead port 4 hd).head? ⟨0, 4⟩ = some hd ∧ (t.map port.since = some 100 ↔ t = some 4900))
    ∧ (∀ t ∈ [none, some 3000, some 3001], let hd := { head .CABIN_DOOR 202 with state := .PROBING, lastIdentEnd := t }
        (withHead port 6 hd).head? ⟨0, 6⟩ = some hd ∧ (t.map port.since = some 2000 ↔ t = some 3000)) := by decide +kernel

theorem witness_TurnStartsByCase :
    ((port.line 1).state = .DOWN ∧ ((flying port ⟨.ident, 6, false, none, false⟩).line 0).turn ≠ none)
    ∧ (let f : OutFrame := ⟨255, .segment 0 false (some []) [1]⟩
       let s := queued port [f] 1
       (s.line 0).state = .RUNNING ∧ (s.line 0).turn = none ∧ (s.line 0).queue = [f])
    ∧ ((port.line 0).queue = [] ∧ (port.line 0).cursor = 1 ∧ port.pollOf ⟨0, 1⟩ = some (.eventPoll none)
        ∧ port.head? ⟨0, 1⟩ = some (head .CABIN_DOOR 101))
    ∧ (let s := queued port [] 6
       (s.line 0).cursor = 6 ∧ s.pollOf ⟨0, 6⟩ = some .ident)
    ∧ (let s := queued { port with heads := ⟨[(200, { head .CABIN_DOOR 101 with state := .TUNING })]⟩ } [] 200
       (s.line 0).cursor = 200 ∧ s.pollOf ⟨0, 200⟩ = some .tuningPoll) := by decide +kernel

/-- With no head that may be polled, no address of the line has a poll. -/
theorem witness_TurnStartsByCase_none : (alone.line 0).state = .RUNNING ∧ (alone.line 0).queue = [] ∧ (alone.line 0).turn = none
    ∧ ∀ a ∈ List.range 201, alone.pollOf ⟨0, a⟩ = none := by decide +kernel

theorem witness_TurnFailsAfterRetry :
    (∀ retry ∈ [false, true], ∀ missed ∈ [1, 2], ∀ st ∈ [HeadState.ONLINE, .TUNING, .PROBING],
      let t : Turn := ⟨.eventPoll none, 1, retry, some .CABIN_DOOR, false⟩
      let hd := { head .CABIN_DOOR 101 with state := st, missed := missed }
      let s := flying (withHead port 1 hd) t
      (s.line 0).turn = some t ∧ t.target = 1 ∧ s.head? ⟨0, 1⟩ = some hd ∧ s.params.missedTurnLimit = 3)
    ∧ ((2#8 : Byte).toNat ≠ 1 ∧ (1#8 : Byte).toNat ≠ ([] : List Byte).length ∧ eventFits (some .CABIN_DOOR) 0x04 [0] = false)
    ∧ (crc8 [0x01#8, 0x81#8, 0x00#8] ≠ crc8 [] ∧ headAnswerOf 0x90 [] = none ∧ (TurnFrame.eventPoll none).allows .ack = false)
    ∧ (∀ f ∈ [(⟨1, .indicator 101 .OPEN⟩ : OutFrame), ⟨1, .segment 0 false none [1]⟩, ⟨1, .tune .LONG⟩, ⟨1, .door 0 (.DENY .WINDOW)⟩],
        let t : Turn := ⟨.queued f, 1, true, none, false⟩
        let s := flying (queued (port.modifyLine 0 (fun ln => { ln with push := some ⟨1, [1], none, true, 0⟩ })) [f] 1) t
        (s.line 0).turn = some t ∧ (s.line 0).push = some ⟨1, [1], none, true, 0⟩ ∧ s.cabinSlot 101 = some 0
        ∧ (s.cabins.get 0).isSome = true ∧ s.cabinSlot 103 = none ∧ f.dest = 1)
    ∧ (∀ fr ∈ [TurnFrame.queued ⟨1, .indicator 101 .OPEN⟩, .queued ⟨1, .indicator 103 .OPEN⟩, .eventPoll none],
        let t : Turn := ⟨fr, 1, true, if fr = .eventPoll none then some .CABIN_DOOR else none, true⟩
        ((flying port t).line 0).turn = some t ∧ t.target = 1) := by decide +kernel

/-- An INDICATOR turn that fails after HEAD DROP leaves the cabin's frame owed (R29, R166). -/
theorem test_lost_indicator_of_a_dropped_head_is_owed :
    let f : OutFrame := ⟨1, .indicator 101 .OPEN⟩
    let s := flying (queued { port with heads := port.heads.erase 1 } [f] 1) ⟨.queued f, 1, true, none, true⟩
    ((s.answerLate 0).cabins.get 0).map (·.owed) = some true ∧ ((s.answerLate 0).line 0).queue = [] := by decide +kernel

theorem witness_EventAnswerTaken :
    (∀ seq ∈ [none, some 0, some 255], let hd := { head .CABIN_DOOR 101 with lastSeq := seq }
      let s := flying (withHead port 1 hd) ⟨.eventPoll seq, 1, false, some .CABIN_DOOR, false⟩
      (s.line 0).turn = some ⟨.eventPoll seq, 1, false, some .CABIN_DOOR, false⟩ ∧ s.head? ⟨0, 1⟩ = some hd ∧ hd.state = .ONLINE
      ∧ 0 < ((s.setIntake .CABIN_DOOR ⟨[], 1⟩).intake .CABIN_DOOR).reserved)
    ∧ (∀ dropped ∈ [false, true], let hd := { head .VENUE_TERMINAL 1 with state := .PROBING }
        let t : Turn := ⟨.eventPoll none, 1, true, some .CABIN_DOOR, dropped⟩
        let s := flying (withHead port 1 hd) t
        (s.line 0).turn = some t ∧ s.head? ⟨0, 1⟩ = some hd ∧ hd.state ≠ .ONLINE
        ∧ eventFits (some .CABIN_DOOR) 0x01 (List.replicate 12 0) = true)
    ∧ (∀ x ∈ [((⟨1, .door 7 (.GRANT .KEYED)⟩ : OutFrame), { head .CABIN_DOOR 101 with lastGrant := some ⟨7, 0, .KEYED⟩ }),
              (⟨1, .door 6 (.GRANT .KEYED)⟩, { head .CABIN_DOOR 101 with lastGrant := some ⟨7, 0, .KEYED⟩ }),
              (⟨1, .door 7 (.DENY .WINDOW)⟩, head .CABIN_DOOR 101), (⟨1, .indicator 101 .OPEN⟩, head .CABIN_DOOR 101),
              (⟨1, .tune .LONG⟩, { head .CABIN_DOOR 101 with state := .TUNING }),
              (⟨1, .purchase 2 (.APPROVE 1 0 0 1)⟩, { head .VENUE_TERMINAL 1 with hold := some hold }),
              (⟨1, .purchase 2 (.APPROVE 1 0 0 1)⟩, { head .VENUE_TERMINAL 1 with hold := some { hold with confirming := true } }),
              (⟨1, .purchase 2 .LATE⟩, head .VENUE_TERMINAL 1), (⟨1, .lane 5 (.PASS .INBOUND)⟩, head .GANGWAY_LANE 0),
              (⟨1, .lane 5 (.REFUSE .HOLD)⟩, head .GANGWAY_LANE 0),
              (⟨1, .door 7 (.GRANT .KEYED)⟩, { head .CABIN_DOOR 101 with state := .PROBING })],
        ∀ dropped ∈ [false, true],
        let s := flying (queued (withLane (withHead port 1 x.2) (lane0 .INBOUND .ON_PASS (some (crossing .AWAIT_PASS)))) [x.1] 1)
          ⟨.queued x.1, 1, false, none, dropped⟩
        (s.line 0).turn = some ⟨.queued x.1, 1, false, none, dropped⟩ ∧ s.head? ⟨0, 1⟩ = some x.2
        ∧ (s.lane 0).pending.map (·.tag) = some 5)
    ∧ (let s := flying { port with heads := port.heads.erase 1 } ⟨.queued ⟨1, .door 7 (.GRANT .KEYED)⟩, 1, false, none, true⟩
       (s.line 0).turn = some ⟨.queued ⟨1, .door 7 (.GRANT .KEYED)⟩, 1, false, none, true⟩ ∧ s.head? ⟨0, 1⟩ = none)
    ∧ ((some 255 : Option Nat) = some (255#8 : Byte).toNat ∧ (none : Option Nat) ≠ some (0#8 : Byte).toNat)
    ∧ (eventFits (some .CABIN_DOOR) 0x04 [] = true ∧ eventOf .CABIN_DOOR 0x04 [] = some .privacyOn)
    ∧ (eventFits (some .CABIN_DOOR) 0x0A [] = true ∧ eventOf .CABIN_DOOR 0x0A [] = none)
    ∧ (eventFits (some .CABIN_DOOR) 0xFF (List.replicate 252 0) = true ∧ (List.replicate 252 (0 : Byte)).length < 253)
    ∧ eventFits (some .CABIN_DOOR) 0x0F [7] = true := by decide +kernel

theorem witness_SettingsPushTravels :
    (∀ l ∈ [0, 1, 15, 16], ∀ dest ∈ [0, 1, 4, 9, 200, 201, 223, 224, 239, 240, 255], ∀ n ∈ [0, 1, 96, 97],
      let c := Instr.settingsPush 0 l dest (List.replicate n 0) (if 200 < dest then some (List.replicate 25 0) else none)
      (asked c).ready c = true)
    ∧ (port.head? ⟨0, 9⟩ = none ∧ port.head? ⟨0, 1⟩ ≠ none ∧ (port.line 0).push = none ∧ (port.line 1).state = .DOWN
        ∧ port.online ⟨0, 4⟩ = false ∧ port.online ⟨0, 1⟩ = true)
    ∧ (∀ q ∈ [true, false], ∀ k ∈ [13, 14],
        let p : Push := ⟨255, List.replicate 96 0, some [], q, 0⟩
        let s := (queued port (List.replicate k ⟨1, .tune .LONG⟩) 1).modifyLine 0 (fun ln => { ln with push := some p })
        (s.line 0).push = some p ∧ ((p.page.length + 31) / 32 ≤ (s.line 0).free ↔ k = 13))
    ∧ (∀ more ∈ [true, false], ∀ dest ∈ [1, 200, 224, 255], let f : OutFrame := ⟨dest, .segment 0 more none [1]⟩
        ((flying port ⟨.queued f, dest, false, none, false⟩).line 0).turn = some ⟨.queued f, f.dest, false, none, false⟩)
    ∧ (∀ more ∈ [true, false], ∀ dest ∈ [1, 200], let f : OutFrame := ⟨dest, .segment 0 more none [1]⟩
        let p : Push := ⟨dest, [1], none, true, 0⟩
        let s := flying ((queued (withHead port dest (head .CABIN_DOOR 101)) [f] 1).modifyLine 0 (fun ln => { ln with push := some p }))
          ⟨.queued f, dest, false, none, false⟩
        (s.line 0).turn = some ⟨.queued f, dest, false, none, false⟩ ∧ (s.line 0).push = some p
        ∧ s.head? ⟨0, dest⟩ = some (head .CABIN_DOOR 101)) := by
  decide +kernel

theorem witness_HeadPutAndDrop :
    let put := fun a f => Instr.headPut 0 0 a f
    (∀ a ∈ [0, 1, 9, 200, 201], ∀ f ∈ [(⟨0, 102, 0, none⟩ : HeadFields), ⟨3, 0, 0, none⟩],
      (asked (put a f)).ready (put a f) = true ∧ (asked (.headDrop 0 0 a)).ready (.headDrop 0 0 a) = true)
    ∧ (port.cabins.wf = true ∧ headClassOf ⟨0, 9⟩ ⟨3, 0, 0, none⟩ = none ∧ headClassOf ⟨0, 201⟩ ⟨0, 102, 0, none⟩ = none
        ∧ headClassOf ⟨0, 9⟩ ⟨0, 102, 255, some 239⟩ = some .CABIN_DOOR)
    ∧ (port.cabin? 103 = none ∧ port.venues.get 2 = none)
    ∧ ((port.cabin? 101).bind (·.doorHead) = some ⟨0, 1⟩ ∧ (port.lane 0).head = some ⟨0, 3⟩)
    ∧ ((port.cabin? 102).bind (·.doorHead) = none ∧ port.head? ⟨0, 9⟩ = none)
    ∧ (let tuning := { head .CABIN_DOOR 300 with state := .TUNING, neighbourhood := 7 }
       let s := { port with heads := port.heads.set 7 tuning }
       (s.head? ⟨0, 4⟩).map (·.state) = some .TUNING ∧ ∃ x ∈ s.heads.cells, x.1 ≠ 4 ∧ x.2.state = .TUNING ∧ x.2.neighbourhood = 7)
    ∧ ((port.head? ⟨0, 1⟩).map (fun hd => (hd.cls, hd.bound, hd.state)) = some (.CABIN_DOOR, 101, .ONLINE)
        ∧ (port.head? ⟨0, 5⟩).map (fun hd => (hd.bound, hd.state)) = some (201, .FAULTED) ∧ (port.line 0).turn = none
        ∧ (port.head? ⟨0, 4⟩).map (fun hd => (hd.bound, hd.state)) = some (200, .TUNING)) := by
  decide +kernel

/-- A head dropped during a turn: that of its own queued frame stays the oldest, and a poll's leaves no frame of the head (R166, R146). -/
theorem test_head_drop_during_a_turn :
    let f : OutFrame := ⟨1, .door 7 (.DENY .WINDOW)⟩
    let q := [f, ⟨1, .indicator 101 .OPEN⟩, ⟨3, .tune .LONG⟩]
    let left := fun t => (((flying (queued port q 1) t).headDropWork ⟨0, 1⟩).1.line 0).queue
    left ⟨.queued f, 1, false, none, false⟩ = [f, ⟨3, .tune .LONG⟩]
      ∧ left ⟨.eventPoll none, 1, false, some .CABIN_DOOR, false⟩ = [⟨3, .tune .LONG⟩] := by decide +kernel

/-- A TUNE frame still queued goes with the tune of a TUNING head, and stays for a FAULTED one (R165, log entry 23). -/
theorem test_head_put_and_the_queued_tune_frame :
    let queue := fun a => let s := queued port [⟨a, .tune .LONG⟩] 1
      ((s.headPutWork ⟨0, a⟩ ⟨0, 102, 0, none⟩).1.line 0).queue
    queue 4 = [] ∧ queue 5 = [⟨5, .tune .LONG⟩] := by decide +kernel

/-- An idle ONLINE door head that is due, and no other head TUNING. -/
def calm : State := { port with heads := ⟨[(1, { head .CABIN_DOOR 101 with nextDue := some 4999 }),
  (6, { head .CABIN_DOOR 202 with state := .PROBING, tuneWait := some 4500 })]⟩ }

theorem witness_TuneStartsByRule :
    (∀ a ∈ [0, 1, 9, 200, 201], ∀ k ∈ [0, 1, 2], (asked (.headTune 0 0 a k)).ready (.headTune 0 0 a k) = true)
    ∧ (port.head? ⟨0, 9⟩ = none ∧ (port.head? ⟨0, 3⟩).map (·.state) = some .ONLINE ∧ (port.lane 0).state ≠ .CLOSED)
    ∧ (let hd := { head .CABIN_DOOR 101 with lastGrant := some ⟨1, 0, .KEYED⟩ }
       (withHead port 1 hd).head? ⟨0, 1⟩ = some hd ∧ (withHead port 1 hd).idle ⟨0, 1⟩ hd = false)
    ∧ (let s := { port with params := { port.params with tuningPerLine := 1 } }
       s.limitsAllow ⟨0, 1⟩ (head .CABIN_DOOR 101) = false)
    ∧ (port.idle ⟨0, 1⟩ (head .CABIN_DOOR 101) = true ∧ port.limitsAllow ⟨0, 1⟩ (head .CABIN_DOOR 101) = true)
    ∧ (alone.nextStart = none ∧ calm.heads.wf = true ∧ calm.nextStart = some ⟨0, 6⟩
        ∧ (calm.head? ⟨0, 6⟩).map (·.state) = some .PROBING
        ∧ ({ calm with heads := calm.heads.erase 6 } : State).nextStart = some ⟨0, 1⟩)
    ∧ (let hd := { head .CABIN_DOOR 200 with state := .TUNING, frameWaits := true }
       (withHead port 4 hd).head? ⟨0, 4⟩ = some hd ∧ 0 < ((withHead port 4 hd).line 0).free
       ∧ ((packed (withHead port 4 hd)).line 0).free = 0 ∧ (packed (withHead port 4 hd)).heads.wf = true) := by decide +kernel

theorem witness_IdentAndTuneDone :
    (let s := flying port ⟨.ident, 6, false, none, false⟩
     (s.line 0).turn = some ⟨.ident, 6, false, none, false⟩ ∧ (s.head? ⟨0, 6⟩).map (·.state) = some .PROBING ∧ s.heads.wf = true
     ∧ (1#8 : Byte).toNat = (head .CABIN_DOOR 202).cls.ctorIdx + 1 ∧ (3#8 : Byte).toNat ≠ (head .CABIN_DOOR 202).cls.ctorIdx + 1)
    ∧ (let s := flying calm ⟨.ident, 6, false, none, false⟩
       (s.line 0).turn = some ⟨.ident, 6, false, none, false⟩ ∧ (s.head? ⟨0, 6⟩).map (·.state) = some .PROBING ∧ s.heads.wf = true
       ∧ s.nextStart = some ⟨0, 6⟩ ∧ (s.head? ⟨0, 1⟩).map (·.state) = some .ONLINE)
    ∧ (let s := flying port ⟨.tuningPoll, 4, true, none, false⟩
       (s.line 0).turn = some ⟨.tuningPoll, 4, true, none, false⟩ ∧ (s.head? ⟨0, 4⟩).map (·.state) = some .TUNING
       ∧ s.params.refLow = 200 ∧ s.params.refHigh = 900)
    ∧ (corrected 4095 4095 0 200 900 = none ∧ corrected 0 4095 4095 200 900 = some 900 ∧ corrected 812 3020 1600 200 900 = some 450
        ∧ corrected 0 7 1 200 900 = some 300 ∧ corrected 0 700 399 200 900 = some 599 ∧ corrected 0 7 4 200 900 = some 600
        ∧ corrected 812 3020 0 200 900 = some 0) := by decide +kernel

/-- The door head of cabin 101 tunes, or has left TUNING and PROBING, on a line with room for the INDICATOR frame or without. -/
theorem witness_IdentAndTuneDone_cabins :
    (∀ door ∈ [none, some (⟨0, 1⟩ : HeadId)], ∀ fr ∈ [TurnFrame.tuningPoll, .ident],
      let hd := { head .CABIN_DOOR 101 with state := .TUNING }
      let s := flying { withHead port 1 hd with cabins := port.cabins.modify 0 (fun c => { c with doorHead := door }) }
        ⟨fr, 1, false, none, false⟩
      (s.line 0).turn = some ⟨fr, 1, false, none, false⟩ ∧ s.head? ⟨0, 1⟩ = some hd ∧ s.heads.wf = true
      ∧ s.cabinSlot hd.bound = some 0 ∧ (s.cabins.get 0).map (·.doorHead) = some door
      ∧ 0 < (s.line 0).free ∧ ((packed s).line 0).free = 0 ∧ (packed s).head? ⟨0, 1⟩ = some hd)
    ∧ (let s := flying port ⟨.tuningPoll, 1, false, none, false⟩
       (s.head? ⟨0, 1⟩).map (·.state) = some .ONLINE ∧ (s.line 0).turn = some ⟨.tuningPoll, 1, false, none, false⟩)
    ∧ corrected 812 3020 2210 200 900 = some 643 := by decide +kernel

/-- A door head that ends its tune GOOD has its cabin's indicator sent, or owed when the line is full (R28, R164). -/
theorem test_tune_done_serves_the_indicator :
    let s := flying (withHead port 1 { head .CABIN_DOOR 101 with state := .TUNING }) ⟨.tuningPoll, 1, false, none, false⟩
    let done := fun (s : State) => s.receiveAnswer 0 (answerFrame 1 0x84#8 (u16 812 ++ u16 3020 ++ u16 2210))
    ((done s).line 0).queue = [⟨1, .indicator 101 .OPEN⟩] ∧ ((done (packed s)).cabins.get 0).map (·.owed) = some true := by
  decide +kernel

/-- An IDENT answer starts the head that may start, and then each other that may: here the due head as well (R167, R173). -/
theorem test_ident_answer_starts_waiting_heads :
    let s := (flying calm ⟨.ident, 6, false, none, false⟩).receiveAnswer 0 (answerFrame 6 0x85#8 [1])
    (s.head? ⟨0, 6⟩).map (fun h => (h.state, h.tuneKind)) = some (.TUNING, .LONG)
      ∧ (s.head? ⟨0, 1⟩).map (fun h => (h.state, h.tuneKind)) = some (.TUNING, .SHORT) := by decide +kernel

/-- An answer from another address is bad and followed by the retry (R150, R193). -/
theorem test_answer_of_another_address_is_bad :
    let s := (flying port ⟨.ident, 6, false, none, false⟩).receiveAnswer 0 (answerFrame 5 0x85#8 [1])
    (s.line 0).turn.map (·.retry) = some true ∧ (s.line 0).counters.badAnswers = 1 ∧ (s.line 0).counters.retries = 1 := by
  decide +kernel

theorem witness_HeadTimersRunOut :
    (port.head? ⟨0, 9⟩ = none ∧ (port.head? ⟨0, 1⟩).map (fun hd => (hd.state, hd.tuneTimer)) = some (.ONLINE, none))
    ∧ ((port.head? ⟨0, 4⟩).map (fun hd => (hd.state, hd.tuneTimer)) = some (.TUNING, some ⟨4000, 3000⟩) ∧ (port.line 0).turn = none)
    ∧ ((port.head? ⟨0, 5⟩).map (fun hd => (hd.state, hd.retryTimer)) = some (.FAULTED, some ⟨4000, 30000⟩))
    ∧ ((port.head? ⟨0, 1⟩).map (fun hd => (hd.state, hd.nextDue, hd.notified, hd.lastTune)) = some (.ONLINE, some 4000, false, some 1000))
    ∧ (let hd := { head .CABIN_DOOR 101 with notified := true }
       (withHead port 1 hd).head? ⟨0, 1⟩ = some hd)
    ∧ 2 * ((4000 + (4294967296 - 1000 % 4294967296)) % 4294967296) + 1 < 4294967296 := by decide +kernel

/-! ## Witnesses of the reads, of decoding and of the laws -/

theorem witness_ReadsChangeNothing_link :
    (asked (.statusGet 0)).ready (.statusGet 0) = true ∧ (asked (.censusGet 0)).ready (.censusGet 0) = true
    ∧ (∀ i ∈ [none, some 0, some 23, some 24], (asked (.paramGet 0 i)).ready (.paramGet 0 i) = true)
    ∧ (∀ n ∈ [0, 1, 7, 8, 15, 16], (asked (.laneGet 0 n)).ready (.laneGet 0 n) = true ∧ (asked (.lineGet 0 n)).ready (.lineGet 0 n) = true)
    ∧ (∀ a ∈ [0, 1, 9, 200, 201], (asked (.headGet 0 0 a)).ready (.headGet 0 0 a) = true)
    ∧ (port.head? ⟨0, 9⟩ = none ∧ (port.head? ⟨0, 1⟩).isSome = true) := by decide +kernel

theorem witness_ReadsChangeNothing_records :
    (∀ sel ∈ [0, 1, 2], ∀ v ∈ [0, 30, 100, 4095, 4096, 8191, 8192],
      (asked (.personGet 0 sel v)).ready (.personGet 0 sel v) = true ∧ (asked (.folioGet 0 sel v)).ready (.folioGet 0 sel v) = true)
    ∧ (port.persons.get 8191 = none ∧ (port.persons.get 0).isSome = true ∧ (∀ x ∈ port.persons.cells, x.2.ident.id ≠ 30)
        ∧ port.persons.findKey (fun p => p.ident.id = 100) = some 0)
    ∧ (port.folios.get 4095 = none ∧ (port.folios.get 0).isSome = true ∧ (∀ x ∈ port.folios.cells, x.2.id ≠ 100)
        ∧ port.folios.findKey (fun f => f.id = 30) = some 0)
    ∧ (∀ u ∈ [oddUid, cardUid 0, cardUid 9], (asked (.cardFind 0 u)).ready (.cardFind 0 u) = true)
    ∧ (uidOf oddUid = none ∧ (uidOf (cardUid 0)).bind port.cardKeyOf = some 9480 ∧ (uidOf (cardUid 9)).map port.cardKeyOf = some none)
    ∧ (∀ n ∈ [0, 1, 101, 9999, 10000], (asked (.cabinGet 0 n)).ready (.cabinGet 0 n) = true)
    ∧ (port.cabinSlot 1 = none ∧ port.cabinSlot 101 = some 0 ∧ (port.cabins.get 0).isSome = true) := by decide +kernel

theorem witness_ReadsChangeNothing_lists :
    (∀ start ∈ [0, 255, 256, 511, 512], ∀ count ∈ [0, 1, 16, 17, 32, 33, 64, 65],
      (asked (.chargesRead 0 start count)).ready (.chargesRead 0 start count) = true
      ∧ (asked (.crossingsRead 0 start count)).ready (.crossingsRead 0 start count) = true
      ∧ (asked (.missingRead 0 start count)).ready (.missingRead 0 start count) = true)
    ∧ (port.bank0.state ≠ .READABLE ∧ port.bank1.state ≠ .READABLE)
    ∧ (((banked port 1).bank 1).state = .READABLE ∧ ((banked port 1).bank 0).state ≠ .READABLE) := by decide +kernel

/-- A body that decodes, and its fields at their bounds. -/
theorem witness_DecodedRequestsFit :
    decodeRequest 0x57 9 ([15, 255, 96] ++ List.replicate 96 255 ++ [1] ++ List.replicate 25 255)
      = .request (.settingsPush 9 15 255 (List.replicate 96 255) (some (List.replicate 25 255))) := by decide +kernel

/-- Whether an outcome is a next state. -/
def isNext : Host.Outcome State Fault Refusal → Bool
  | .next _ => true
  | .fault _ => false
  | .refused _ => false

theorem exists_of_isNext {o : Host.Outcome State Fault Refusal} (h : isNext o = true) : ∃ t, o = .next t := by
  cases o with
  | next t => exact ⟨t, rfl⟩
  | fault f => exact absurd h (by simp [isNext])
  | refused r => exact absurd h (by simp [isNext])

/-- The port with its census counted, about to take a door TAP. -/
def busy : State :=
  { atDoor port (.doorTap (cardUid 0) 7) with
    pending := [.doorTap, .sweepStep]
    census  := ⟨⟨5, 0, 0⟩, ⟨2, 1, 0⟩, ⟨0, 0, 1⟩, 1, 0⟩ }

theorem busy_steps : ∃ t, step busy = .next t := exists_of_isNext (by decide +kernel)

theorem witness_StepKeepsTablesCanonical : busy.tablesCanonical ∧ ∃ t, step busy = .next t :=
  ⟨by unfold State.tablesCanonical; decide +kernel, busy_steps⟩

theorem witness_StepKeepsCapacities : busy.linkLaw ∧ busy.clockLaw ∧ busy.queueLaw ∧ busy.intakeLaw ∧ ∃ t, step busy = .next t := by
  refine ⟨by unfold State.linkLaw; decide +kernel, by unfold State.clockLaw; decide +kernel, fun l => ?_,
    by unfold State.intakeLaw; decide +kernel, busy_steps⟩
  have few : ∀ c ∈ busy.lines.cells, c.2.taken ≤ Config.outboundSlots := by decide +kernel
  have wf : busy.lines.wf = true := by decide +kernel
  cases e : busy.lines.get l with
  | none => simp [State.line, e, Line.taken, Line.powerOn]
  | some ln => simpa [State.line, e] using few _ ((Table.get_iff_mem wf).1 e)

theorem witness_StepKeepsBankAndLaneLaws :
    busy.bankLaw ∧ busy.lanes.wf = true ∧ busy.roomLaw ∧ busy.crossingLaw ∧ busy.laneLaw ∧ ∃ t, step busy = .next t := by
  refine ⟨by unfold State.bankLaw; decide +kernel, by decide +kernel, by unfold State.roomLaw; decide +kernel,
    by unfold State.crossingLaw; decide +kernel, fun n => ?_, busy_steps⟩
  have ok : ∀ c ∈ busy.lanes.cells, (c.2.state = .HELD ↔ c.2.holdHost = true ∨ c.2.holdBank = true)
      ∧ (c.2.state = .CLOSED → c.2.pending = none) := by decide +kernel
  have wf : busy.lanes.wf = true := by decide +kernel
  cases e : busy.lanes.get n with
  | none => simp [State.lane, e, Lane.powerOn]
  | some la => simpa [State.lane, e] using ok _ ((Table.get_iff_mem wf).1 e)

theorem witness_StepKeepsCensusLaw : busy.persons.wf = true ∧ busy.censusLaw ∧ ∃ t, step busy = .next t :=
  ⟨by decide +kernel, by unfold State.censusLaw State.bucketsAgree State.personsOf; decide +kernel, busy_steps⟩

theorem witness_StepKeepsTuningLaw : busy.heads.wf = true ∧ busy.tuningLaw ∧ ∃ t, step busy = .next t := by
  have wf : busy.heads.wf = true := by decide +kernel
  refine ⟨wf, fun j k x y _ hx hy _ _ _ => ?_, busy_steps⟩
  have zero : ∀ c ∈ busy.heads.cells, c.2.neighbourhood = 0 := by decide +kernel
  exact zero _ ((Table.get_iff_mem wf).1 hx)

end Sys2Proof.Tests
end

section
/-! PROOFS. The requests that only read leave the state as it is, whatever they answer. -/

namespace Sys2Proof.Machine

open Sys2Proof

variable (s : State)

@[simp] theorem State.clockGetWork_state : s.clockGetWork.state = s := rfl

@[simp] theorem State.statusGetWork_state : s.statusGetWork.state = s := rfl

@[simp] theorem State.censusGetWork_state : s.censusGetWork.state = s := rfl

@[simp] theorem State.paramGetWork_state (ident : Option Nat) : (s.paramGetWork ident).state = s := by
  unfold State.paramGetWork
  split
  · rfl
  · split <;> rfl

@[simp] theorem State.personGetWork_state (selector value : Nat) : (s.personGetWork selector value).state = s := by
  unfold State.personGetWork
  split
  · rfl
  · split <;> rfl

@[simp] theorem State.cardFindWork_state (u : RawUid) : (s.cardFindWork u).state = s := by
  unfold State.cardFindWork
  split
  · rfl
  · split
    · rfl
    · split <;> rfl

@[simp] theorem State.cabinGetWork_state (number : Nat) : (s.cabinGetWork number).state = s := by
  unfold State.cabinGetWork
  split
  · rfl
  · split
    · rfl
    · split <;> rfl

@[simp] theorem State.folioGetWork_state (selector value : Nat) : (s.folioGetWork selector value).state = s := by
  unfold State.folioGetWork
  split
  · rfl
  · split <;> rfl

@[simp] theorem State.chargesReadWork_state (start count : Nat) : (s.chargesReadWork start count).state = s := by
  unfold State.chargesReadWork
  split <;> rfl

@[simp] theorem State.laneGetWork_state (n : Nat) : (s.laneGetWork n).state = s := by
  unfold State.laneGetWork
  split <;> rfl

@[simp] theorem State.crossingsReadWork_state (start count : Nat) : (s.crossingsReadWork start count).state = s := by
  unfold State.crossingsReadWork
  split
  · rfl
  · split <;> rfl

@[simp] theorem State.missingReadWork_state (start count : Nat) : (s.missingReadWork start count).state = s := by
  unfold State.missingReadWork
  split <;> rfl

@[simp] theorem State.lineGetWork_state (l : Nat) : (s.lineGetWork l).state = s := by
  unfold State.lineGetWork
  split <;> rfl

@[simp] theorem State.headGetWork_state (h : HeadId) : (s.headGetWork h).state = s := by
  unfold State.headGetWork
  split
  · rfl
  · split <;> rfl

end Sys2Proof.Machine
end


section
/-! PROOFS. Every operation of the model keeps the tables canonical, in the order of the definitions. A lemma
`State.tablesCanonical.op` says it of the operation `State.op`, so that a proof reads like the operation: for a composition
`(s.f x).g y` it is `(hs.f x).g y`. A change of fields that are no table keeps the tables as they are, and `hs` itself proves it. -/

namespace Sys2Proof.Machine.State.tablesCanonical

open Sys2Proof

variable {s : State} (hs : s.tablesCanonical)

include hs

/-! ## A table of the state is replaced -/

theorem withLatches {t : Table Latch} (ht : t.wf = true) : ({ s with latches := t } : State).tablesCanonical :=
  ⟨ht, hs.2⟩

theorem withPersons {t : Table Person} (ht : t.wf = true) : ({ s with persons := t } : State).tablesCanonical := by
  obtain ⟨latches, -, rest⟩ := hs
  exact ⟨latches, ht, rest⟩

theorem withCards {t : Table CardEntry} (ht : t.wf = true) : ({ s with cards := t } : State).tablesCanonical := by
  obtain ⟨latches, persons, -, rest⟩ := hs
  exact ⟨latches, persons, ht, rest⟩

theorem withCabins {t : Table Cabin} (ht : t.wf = true) : ({ s with cabins := t } : State).tablesCanonical := by
  obtain ⟨latches, persons, cards, -, rest⟩ := hs
  exact ⟨latches, persons, cards, ht, rest⟩

theorem withFolios {t : Table Folio} (ht : t.wf = true) : ({ s with folios := t } : State).tablesCanonical := by
  obtain ⟨latches, persons, cards, cabins, -, rest⟩ := hs
  exact ⟨latches, persons, cards, cabins, ht, rest⟩

theorem withVenues {t : Table Venue} (ht : t.wf = true) : ({ s with venues := t } : State).tablesCanonical := by
  obtain ⟨latches, persons, cards, cabins, folios, -, rest⟩ := hs
  exact ⟨latches, persons, cards, cabins, folios, ht, rest⟩

theorem withLanes {t : Table Lane} (ht : t.wf = true) : ({ s with lanes := t } : State).tablesCanonical := by
  obtain ⟨latches, persons, cards, cabins, folios, venues, -, rest⟩ := hs
  exact ⟨latches, persons, cards, cabins, folios, venues, ht, rest⟩

theorem withLines {t : Table Line} (ht : t.wf = true) : ({ s with lines := t } : State).tablesCanonical := by
  obtain ⟨latches, persons, cards, cabins, folios, venues, lanes, -, heads⟩ := hs
  exact ⟨latches, persons, cards, cabins, folios, venues, lanes, ht, heads⟩

theorem withHeads {t : Table Head} (ht : t.wf = true) : ({ s with heads := t } : State).tablesCanonical := by
  obtain ⟨latches, persons, cards, cabins, folios, venues, lanes, lines, -⟩ := hs
  exact ⟨latches, persons, cards, cabins, folios, venues, lanes, lines, ht⟩

theorem latches_wf : s.latches.wf = true := hs.1
theorem persons_wf : s.persons.wf = true := by obtain ⟨-, h, -⟩ := hs; exact h
theorem cards_wf : s.cards.wf = true := by obtain ⟨-, -, h, -⟩ := hs; exact h
theorem cabins_wf : s.cabins.wf = true := by obtain ⟨-, -, -, h, -⟩ := hs; exact h
theorem folios_wf : s.folios.wf = true := by obtain ⟨-, -, -, -, h, -⟩ := hs; exact h
theorem venues_wf : s.venues.wf = true := by obtain ⟨-, -, -, -, -, h, -⟩ := hs; exact h
theorem lanes_wf : s.lanes.wf = true := by obtain ⟨-, -, -, -, -, -, h, -⟩ := hs; exact h
theorem lines_wf : s.lines.wf = true := by obtain ⟨-, -, -, -, -, -, -, h, -⟩ := hs; exact h
theorem heads_wf : s.heads.wf = true := by obtain ⟨-, -, -, -, -, -, -, -, h⟩ := hs; exact h

/-! ## Writes of one record -/

theorem setLatch (c : NoticeClass) (l : Latch) : (s.setLatch c l).tablesCanonical :=
  hs.withLatches (Table.wf_set _ _ hs.latches_wf)

theorem raise (c : NoticeClass) (x : Subject) : (s.raise c x).tablesCanonical := hs.setLatch c _

theorem setHead (h : HeadId) (hd : Head) : (s.setHead h hd).tablesCanonical := hs.withHeads (Table.wf_set _ _ hs.heads_wf)

theorem modifyHead (h : HeadId) (f : Head → Head) : (s.modifyHead h f).tablesCanonical :=
  hs.withHeads (Table.wf_modify _ _ hs.heads_wf)

theorem setLine (l : Nat) (ln : Line) : (s.setLine l ln).tablesCanonical := hs.withLines (Table.wf_set _ _ hs.lines_wf)

theorem modifyLine (l : Nat) (f : Line → Line) : (s.modifyLine l f).tablesCanonical := hs.setLine l _

theorem setLane (n : Nat) (la : Lane) : (s.setLane n la).tablesCanonical := hs.withLanes (Table.wf_set _ _ hs.lanes_wf)

theorem modifyCabin (k : Nat) (f : Cabin → Cabin) : (s.modifyCabin k f).tablesCanonical :=
  hs.withCabins (Table.wf_modify _ _ hs.cabins_wf)

theorem modifyPerson (k : Nat) (f : Person → Person) : (s.modifyPerson k f).tablesCanonical :=
  hs.withPersons (Table.wf_modify _ _ hs.persons_wf)

theorem modifyFolio (k : Nat) (f : Folio → Folio) : (s.modifyFolio k f).tablesCanonical :=
  hs.withFolios (Table.wf_modify _ _ hs.folios_wf)

theorem setCardState (k : Nat) (st : CardState) : (s.setCardState k st).tablesCanonical :=
  hs.withCards (Table.wf_modify _ _ hs.cards_wf)

theorem setIntake (c : HeadClass) (q : Intake) : (s.setIntake c q).tablesCanonical := by cases c <;> exact hs

theorem setBank (n : Nat) (b : Bank) : (s.setBank n b).tablesCanonical := by unfold State.setBank; split <;> exact hs

theorem passTime (ms : Nat) : (s.passTime ms).tablesCanonical := hs

/-! ## Choices, folds and requests -/

omit hs in
theorem ite {c : Prop} [Decidable c] {t u : State} (ht : t.tablesCanonical) (hu : u.tablesCanonical) :
    (if c then t else u).tablesCanonical := by split <;> assumption

/-- A fold whose every step keeps the form keeps it. -/
theorem foldl {β : Type} {f : State → β → State} (hf : ∀ {u : State} (b : β), u.tablesCanonical → (f u b).tablesCanonical)
    (bs : List β) : (bs.foldl f s).tablesCanonical := by
  induction bs generalizing s with
  | nil => exact hs
  | cons b rest ih => exact ih (hf b hs)

/-- A request whose work keeps the form keeps it, whether or not it is served: queuing and replying touch the link alone. -/
theorem serve (c : Instr) {work : State → Answer}
    (hw : ∀ {u : State}, u.tablesCanonical → (work u).state.tablesCanonical) : (s.serve c work).tablesCanonical := by
  have received : (s.received c).tablesCanonical := by
    unfold State.received
    split <;> exact hs
  unfold State.serve
  split
  · exact hs
  · dsimp only
    split
    · exact hw received
    · exact received

/-! ## Outbound and intake queues -/

theorem reservePoll (l : Nat) (c : HeadClass) : (s.reservePoll l c).tablesCanonical := (hs.setIntake c _).modifyLine l _

theorem giveBackIntake (c : HeadClass) : (s.giveBackIntake c).tablesCanonical := hs.setIntake c _

theorem giveBackOut (l : Nat) : (s.giveBackOut l).tablesCanonical := hs.modifyLine l _

theorem giveBackPoll (l : Nat) (holds : Option HeadClass) : (s.giveBackPoll l holds).tablesCanonical := by
  cases holds with
  | none => exact hs
  | some c => exact (hs.giveBackIntake c).giveBackOut l

theorem enterIntake (h : HeadId) (c : HeadClass) (e : Event) : (s.enterIntake h c e).tablesCanonical :=
  ite (hs.setIntake c _) ((hs.setIntake c _).giveBackOut _)

theorem dropOldest (c : HeadClass) : (s.dropOldest c).tablesCanonical := hs.setIntake c _

theorem giveBackEntry (e : Entry) : (s.giveBackEntry e).tablesCanonical := ite (hs.giveBackOut _) hs

theorem takeEntry (c : HeadClass) (e : Entry) {apply : State → State}
    (ha : ∀ {u : State}, u.tablesCanonical → (apply u).tablesCanonical) : (s.takeEntry c e apply).tablesCanonical := by
  have dropped := hs.dropOldest c
  exact ite (dropped.giveBackEntry e) (ite ((dropped.giveBackEntry e).raise _ _) (ha dropped))

theorem sendDecision (e : Entry) (x : FrameContent) : (s.sendDecision e x).tablesCanonical := hs.modifyLine _ _

theorem lineDeparture (h : HeadId) : (s.lineDeparture h).tablesCanonical :=
  hs.withLines (t := (s.lineDeparture h).lines) (Table.wf_set _ _ hs.lines_wf)

/-! ## Cabins -/

theorem indicatorWork (k : Nat) : (s.indicatorWork k).tablesCanonical := by
  unfold State.indicatorWork
  split
  · exact hs
  · split
    · exact hs.modifyCabin k _
    · exact ite ((hs.modifyLine _ _).modifyCabin k _) (hs.modifyCabin k _)

theorem privacyLapse (k : Nat) : (s.privacyLapse k).tablesCanonical := by
  unfold State.privacyLapse
  split
  · exact hs
  · exact ite ((hs.modifyCabin k _).indicatorWork k) hs

theorem countUp (k : Nat) : (s.countUp k).tablesCanonical := hs.modifyCabin k _

theorem countDown (k : Nat) : (s.countDown k).tablesCanonical := by
  unfold State.countDown
  split
  · exact hs
  · exact ite ((hs.modifyCabin k _).privacyLapse k) (hs.modifyCabin k _)

theorem joinCabin (slot : Nat) (p : Presence) (n : Nat) : (s.joinCabin slot p n).tablesCanonical := by
  unfold State.joinCabin
  split
  · exact hs
  · exact ite ((hs.modifyCabin _ _).countUp _) (hs.modifyCabin _ _)

theorem leaveCabin (slot : Nat) (p : Presence) (n : Nat) : (s.leaveCabin slot p n).tablesCanonical := by
  unfold State.leaveCabin
  split
  · exact hs
  · exact ite ((hs.modifyCabin _ _).countDown _) (hs.modifyCabin _ _)

theorem presenceAtCabin (a b : Presence) (n : Nat) : (s.presenceAtCabin a b n).tablesCanonical := by
  unfold State.presenceAtCabin
  split
  · exact hs
  · exact ite (hs.countUp _) (ite (hs.countDown _) hs)

theorem presenceAtCabins (ns : List Nat) (a b : Presence) : (s.presenceAtCabins ns a b).tablesCanonical :=
  hs.foldl (fun n hu => hu.presenceAtCabin a b n) ns

theorem unbindCabin (n : Nat) : (s.unbindCabin n).tablesCanonical := by
  unfold State.unbindCabin
  split
  · exact hs
  · exact hs.modifyCabin _ _

theorem bindCabin (n : Nat) (h : HeadId) : (s.bindCabin n h).tablesCanonical := by
  unfold State.bindCabin
  split
  · exact hs
  · exact hs.modifyCabin _ _

theorem cabinEntry (hd : Head) : (s.cabinEntry hd).tablesCanonical := by
  unfold State.cabinEntry
  split
  · split
    · exact hs.indicatorWork _
    · exact hs
  all_goals exact hs

theorem serveOwed (l : Nat) : (s.serveOwed l).tablesCanonical := by
  refine hs.foldl (fun k hu => ?_) _
  split
  · split
    · exact ite (hu.indicatorWork k) hu
    · exact hu
  · exact hu

theorem indicatorLost (n : Nat) : (s.indicatorLost n).tablesCanonical := by
  unfold State.indicatorLost
  split
  · exact hs
  · exact hs.modifyCabin _ _

/-! ## Charges -/

theorem evaluateJournal : s.evaluateJournal.tablesCanonical := ite (hs.raise _ _) hs

theorem releaseAmounts (h : Hold) : (s.releaseAmounts h).tablesCanonical := (hs.modifyFolio _ _).modifyPerson _ _

theorem releaseHold (id : HeadId) (h : Hold) : (s.releaseHold id h).tablesCanonical := (hs.releaseAmounts h).modifyHead id _

theorem holdDeparture (id : HeadId) : (s.holdDeparture id).tablesCanonical := by
  unfold State.holdDeparture
  split
  · exact hs
  · split
    · exact hs
    · exact ite (hs.modifyHead id _) (hs.releaseHold id _)

theorem applyConfirm (h : Hold) : (s.applyConfirm h).tablesCanonical := by
  have entered : ({ s with journal := s.journal ++ [s.entryOf h s.nextCharge] } : State).tablesCanonical := hs
  exact ((entered.modifyFolio _ _).modifyPerson _ _).evaluateJournal

theorem applyDeferred (d : Deferred) : (s.applyDeferred d).tablesCanonical := by
  unfold State.applyDeferred
  split
  · exact hs.applyConfirm _
  · split
    · exact hs
    · have applied := (hs.applyConfirm ‹Hold›).modifyHead d.head (fun hd => { hd with hold := none })
      exact ite (applied.modifyLine _ _) applied

theorem completeReconcile (sc : Scan) : (s.completeReconcile sc).tablesCanonical :=
  ((hs.modifyFolio sc.slot (fun f => f.installed sc)).raise .RECONCILE_DONE (.folio sc.slot)).foldl
    (fun d hu => hu.applyDeferred d) _

theorem bookRetired (e : JournalEntry) : (s.bookRetired e).tablesCanonical := by
  unfold State.bookRetired
  split
  · exact hs
  · exact ite (hs.modifyFolio _ _) hs

/-! ## Census, banks and crossings -/

theorem censusHandoff (slot : Nat) (a b : Option Standing) : (s.censusHandoff slot a b).tablesCanonical := hs

theorem removeBankHolds : s.removeBankHolds.tablesCanonical := hs.withLanes (Table.wf_map _ hs.lanes_wf)

theorem addBankHolds : s.addBankHolds.tablesCanonical := hs.withLanes (Table.wf_map _ hs.lanes_wf)

theorem swapBanks : s.swapBanks.tablesCanonical := ((hs.setBank _ _).setBank _ _).removeBankHolds.raise _ _

theorem swapCheck : s.swapCheck.tablesCanonical := ite hs.swapBanks hs

theorem appendCrossing (c : Crossing) : (s.appendCrossing c).tablesCanonical := hs.setBank _ _

theorem changePresence (slot : Nat) (p : Person) (after : Presence) : (s.changePresence slot p after).tablesCanonical :=
  ((hs.withPersons (Table.wf_set _ _ hs.persons_wf)).censusHandoff slot _ _).presenceAtCabins _ _ _

theorem commitCrossing (n : Nat) (pc : Pending) (cause : Cause) : (s.commitCrossing n pc cause).tablesCanonical := by
  unfold State.commitCrossing
  split
  · exact hs
  · exact (((hs.changePresence _ _ _).appendCrossing _).setLane n _).swapCheck

theorem abandonCrossing (n : Nat) : (s.abandonCrossing n).tablesCanonical := hs.setLane n _

theorem loseCrossing (n : Nat) : (s.loseCrossing n).tablesCanonical := (hs.abandonCrossing n).raise _ _

theorem laneDeparture (n : Nat) : (s.laneDeparture n).tablesCanonical := by
  unfold State.laneDeparture
  dsimp only
  split
  · exact hs
  all_goals exact (ite (hs.loseCrossing n) hs).setLane n _

theorem unbindLane (n : Nat) : (s.unbindLane n).tablesCanonical := hs.setLane n _

theorem bindLane (n : Nat) (h : HeadId) : (s.bindLane n h).tablesCanonical := hs.setLane n _

/-! ## Heads -/

theorem failPush (h : HeadId) : (s.failPush h).tablesCanonical := by
  unfold State.failPush
  split
  · exact hs
  · exact ite ((hs.modifyLine _ _).modifyHead h _) hs

theorem grantDeparture (h : HeadId) : (s.grantDeparture h).tablesCanonical := hs.modifyHead h _

theorem gangwayDeparture (hd : Head) : (s.gangwayDeparture hd).tablesCanonical := by
  unfold State.gangwayDeparture
  split
  · exact hs.laneDeparture _
  all_goals exact hs

theorem leaveOnline (h : HeadId) : (s.leaveOnline h).tablesCanonical := by
  unfold State.leaveOnline
  split
  · exact hs
  · exact ite (((((hs.failPush h).lineDeparture h).grantDeparture h).holdDeparture h).gangwayDeparture _) hs

theorem enterOnline (h : HeadId) : (s.enterOnline h).tablesCanonical := by
  have entered := hs.modifyHead h (fun hd => { hd with state := .ONLINE })
  unfold State.enterOnline
  dsimp only
  split
  · exact entered.cabinEntry _
  · exact entered

theorem removeTuneFrame (h : HeadId) : (s.removeTuneFrame h).tablesCanonical := hs.modifyLine _ _

theorem tuneFrameEnds (h : HeadId) : (s.tuneFrameEnds h).tablesCanonical := by
  unfold State.tuneFrameEnds
  split
  · exact hs
  · exact ite (hs.removeTuneFrame h) hs

theorem faultHead (h : HeadId) (r : FaultReason) (code : Nat) : (s.faultHead h r code).tablesCanonical := by
  have left := hs.leaveOnline h
  exact ((ite (left.removeTuneFrame h) left).modifyHead h _).raise _ _

theorem enqueueTune (h : HeadId) (kind : TuneKind) : (s.enqueueTune h kind).tablesCanonical :=
  ite ((hs.modifyLine _ _).modifyHead h _) (hs.modifyHead h _)

theorem startTune (h : HeadId) (kind : TuneKind) : (s.startTune h kind).tablesCanonical :=
  ((hs.leaveOnline h).modifyHead h _).enqueueTune h kind

theorem scheduleOne : s.scheduleOne.tablesCanonical := by
  unfold State.scheduleOne
  split
  · exact hs
  · split
    · exact hs
    · exact hs.startTune _ _

theorem schedule (n : Nat) : (State.schedule n s).tablesCanonical := by
  induction n generalizing s with
  | zero => exact hs
  | succ n ih =>
    unfold State.schedule
    split
    · exact hs
    · exact ih hs.scheduleOne

theorem attemptStarts : s.attemptStarts.tablesCanonical := hs.schedule _

theorem finishTune (h : HeadId) (hd : Head) (low high field : Nat) : (s.finishTune h hd low high field).tablesCanonical := by
  unfold State.finishTune
  dsimp only
  split
  · exact (hs.modifyHead h _).faultHead h _ _
  · have online := fun f => (hs.modifyHead h f).enterOnline h
    exact ite ((online _).raise _ _) (online _)

end Sys2Proof.Machine.State.tablesCanonical
end

section
/-! PROOFS. Every command keeps the tables canonical: the work of each request, what each job unit makes of the entry it takes, the part's
own steps, and with them the step itself. -/

namespace Sys2Proof.Machine.State.tablesCanonical

open Sys2Proof

variable {s : State} (hs : s.tablesCanonical)

/-- A request that is refused in one case and does its work in the other. -/
theorem iteAnswer {c : Prop} [Decidable c] {a b : Answer} (ha : a.state.tablesCanonical) (hb : b.state.tablesCanonical) :
    (if c then a else b).state.tablesCanonical := by split <;> assumption

include hs

/-- A request that only reads keeps the form. -/
theorem serveRead (c : Instr) {work : State → Answer} (hw : ∀ u, (work u).state = u) : (s.serve c work).tablesCanonical :=
  hs.serve c (fun hu => by rw [hw]; exact hu)

/-! ## The system link, parameters and notices -/

theorem readMessage (n : Nat) : (s.readMessage n).tablesCanonical := hs

theorem transact (bytes : List Byte) : (s.transact bytes).tablesCanonical := by
  unfold State.transact
  split <;> exact hs

theorem queueNotice : s.queueNotice.tablesCanonical := by
  unfold State.queueNotice
  split
  · split
    · exact hs
    · have cleared := fun c l => hs.setLatch c l
      exact cleared _ _
  · exact hs

theorem clockSetWork (time : Nat) : (s.clockSetWork time).state.tablesCanonical := iteAnswer hs hs

theorem paramWork (ident : Nat) : (s.paramWork ident).tablesCanonical := ite hs.evaluateJournal (ite hs.swapCheck hs)

theorem setBucketByte (ident : Nat) (value : Int) (other : Nat) (p : Nat → Params) :
    (s.setBucketByte ident value other p).state.tablesCanonical := iteAnswer hs (iteAnswer hs (iteAnswer hs hs))

theorem paramDecided (ident : Nat) (value : Int) : (s.paramDecided ident value).state.tablesCanonical := by
  unfold State.paramDecided
  split
  case h_1 => exact hs.setBucketByte _ _ _ _
  case h_2 => exact hs.setBucketByte _ _ _ _
  case h_7 =>
    split
    · exact hs
    · exact iteAnswer hs (iteAnswer hs hs)
  all_goals exact iteAnswer hs (iteAnswer hs hs)

theorem paramSetWork (ident : Nat) (value : Int) : (s.paramSetWork ident value).state.tablesCanonical := by
  have decided := hs.paramDecided ident value
  exact iteAnswer decided (decided.paramWork ident)

theorem noticeMaskWork (classes : Nat) : (s.noticeMaskWork classes).state.tablesCanonical := by
  unfold State.noticeMaskWork
  split
  · exact hs
  · exact hs.foldl (fun c hu => hu.setLatch c _) _

theorem noticeClearWork (classes : Nat) : (s.noticeClearWork classes).state.tablesCanonical := by
  unfold State.noticeClearWork
  split
  · exact hs
  · exact hs.foldl (fun c hu => hu.setLatch c _) _

theorem clearLatches : s.clearLatches.tablesCanonical := hs.withLatches (Table.wf_map _ hs.latches_wf)

theorem blocksRestarted : s.blocksRestarted.tablesCanonical := by
  have released := hs.foldl (fun h hu => hu.releaseAmounts h) s.openHolds
  have mapped := ((released.withHeads (Table.wf_map
    (fun k hd => (s.openHolds.foldl State.releaseAmounts s).headRestarted (HeadId.ofKey k) hd) released.heads_wf)).withLines
    (Table.wf_map (fun _ ln => ln.restarted) released.lines_wf)).withLanes
    (Table.wf_map (fun _ la => la.restarted) released.lanes_wf)
  exact evaluateJournal mapped

theorem noticeBeforeReply : s.noticeBeforeReply.tablesCanonical := by
  have drawn : ({ s with draws := s.draws + 1 } : State).tablesCanonical := hs
  exact ite drawn.queueNotice drawn

theorem restartWork : s.restartWork.state.tablesCanonical := by
  have silenced : ({ s with link := s.link.withoutNotices } : State).tablesCanonical := hs
  exact iteAnswer hs silenced.clearLatches.blocksRestarted.noticeBeforeReply

/-! ## Persons and cards -/

theorem moveCabins (slot : Nat) (p : Presence) (old new : List Nat) : (s.moveCabins slot p old new).tablesCanonical :=
  (hs.foldl (fun n hu => hu.leaveCabin slot p n) _).foldl (fun n hu => hu.joinCabin slot p n) _

theorem personWritten (slot : Nat) (i : Identity) : (s.personWritten slot i).tablesCanonical := by
  have written := fun p => hs.withPersons (Table.wf_set slot p hs.persons_wf)
  unfold State.personWritten
  split <;> exact ((written _).moveCabins slot _ _ _).censusHandoff slot _ _

theorem personPutWork (slot : Nat) (f : PersonFields) : (s.personPutWork slot f).state.tablesCanonical := by
  unfold State.personPutWork
  split
  · exact hs.personWritten slot _
  all_goals exact hs

theorem personDropped (slot : Nat) (p : Person) : (s.personDropped slot p).tablesCanonical := by
  have cards := hs.withCards (Table.wf_keep (fun _ e => decide (e.slot ≠ slot)) hs.cards_wf)
  have left := (cards.foldl (fun n hu => hu.leaveCabin slot p.presence n) p.ident.cabins).censusHandoff slot (some p.standing) none
  exact left.withPersons (Table.wf_erase slot left.persons_wf)

theorem personDropWork (slot : Nat) : (s.personDropWork slot).state.tablesCanonical := by
  refine iteAnswer hs ?_
  split
  · exact hs
  · exact iteAnswer hs (hs.personDropped slot _)

theorem enrolled (k : Nat) (e : CardEntry) : (s.enrolled k e).tablesCanonical := by
  have written := hs.withCards (Table.wf_set k e hs.cards_wf)
  unfold State.enrolled
  dsimp only
  split
  · exact written.setCardState _ _
  · exact written

theorem cardEnrolWork (u : RawUid) (slot issue state : Nat) : (s.cardEnrolWork u slot issue state).state.tablesCanonical := by
  unfold State.cardEnrolWork
  split
  · refine iteAnswer hs (iteAnswer hs (iteAnswer hs ?_))
    split
    · exact hs
    · exact hs.enrolled _ _
  · exact hs

theorem cardChange (u : RawUid) (issue : Nat) (change : CardEntry → Except Status CardState) :
    (s.cardChange u issue change).state.tablesCanonical := by
  unfold State.cardChange
  split
  · exact hs
  · split
    · exact hs
    · split
      · exact hs
      · exact hs.setCardState _ _

theorem cardPurgeWork : s.cardPurgeWork.state.tablesCanonical := hs.withCards (Table.wf_keep _ hs.cards_wf)

/-! ## Cabins and doors -/

theorem cabinPutWork (number zone : Nat) : (s.cabinPutWork number zone).state.tablesCanonical := by
  refine iteAnswer hs ?_
  split
  · exact hs.modifyCabin _ _
  · split
    · exact hs
    · exact hs.withCabins (Table.wf_set _ _ hs.cabins_wf)

theorem cabinDropWork (number : Nat) : (s.cabinDropWork number).state.tablesCanonical := by
  refine iteAnswer hs ?_
  split
  · exact hs
  · exact iteAnswer hs (hs.withCabins (Table.wf_erase _ hs.cabins_wf))

theorem privacySetWork (number value : Nat) : (s.privacySetWork number value).state.tablesCanonical := by
  unfold State.privacySetWork
  split
  · exact hs
  · refine iteAnswer hs ?_
    split
    · exact hs
    · exact (hs.modifyCabin _ _).indicatorWork _

/-- A job unit that takes its oldest entry keeps the form when what it makes of the entry does. -/
theorem takeOldest (c : HeadClass) {handle : Entry → Option (State → State)}
    (ha : ∀ {e apply u}, handle e = some apply → u.tablesCanonical → (apply u).tablesCanonical) :
    (s.takeOldest c handle).tablesCanonical := by
  unfold State.takeOldest
  split
  · exact hs
  · split
    · exact hs
    · exact hs.takeEntry c _ (ha ‹_›)

theorem raisePerson (notice : Option NoticeClass) (slot : Nat) : (s.raisePerson notice slot).tablesCanonical := by
  cases notice with
  | none => exact hs
  | some c => exact hs.raise c _

theorem decideDoor (e : Entry) (u : RawUid) (tag : Nat) : (s.decideDoor e u tag).tablesCanonical :=
  ((hs.sendDecision e _).modifyHead _ _).raisePerson _ _

theorem modifyCabinOf (h : HeadId) (f : Cabin → Cabin) : (s.modifyCabinOf h f).tablesCanonical := by
  unfold State.modifyCabinOf
  split
  · exact hs.modifyCabin _ f
  · exact hs

theorem applyOpened (e : Entry) (tag : Option Nat) : (s.applyOpened e tag).tablesCanonical := by
  cases tag with
  | none => exact hs.modifyCabinOf _ _
  | some t => exact (hs.modifyCabinOf _ _).modifyHead _ _

theorem applyPrivacy (e : Entry) (p : Privacy) : (s.applyPrivacy e p).tablesCanonical := hs.modifyCabinOf _ _

theorem applyDeadbolt (e : Entry) (d : Deadbolt) : (s.applyDeadbolt e d).tablesCanonical := hs.modifyCabinOf _ _

/-! ## Folios, venues and the journal -/

theorem scanCheck (sc : Scan) : (s.scanCheck sc).tablesCanonical := ite (hs.completeReconcile sc) hs

theorem folioPutWork (slot : Nat) (f : FolioFields) : (s.folioPutWork slot f).state.tablesCanonical := by
  unfold State.folioPutWork
  split
  · split
    · exact hs.withFolios (Table.wf_set _ _ hs.folios_wf)
    · exact hs.scanCheck _
  all_goals exact hs

theorem scanStep : s.scanStep.tablesCanonical := by
  unfold State.scanStep
  split
  · exact hs
  · exact hs.scanCheck _

theorem restage (slot : Nat) (f : Staged → Staged) : (s.restage slot f).tablesCanonical := hs

theorem folioLimitWork (slot limit : Nat) : (s.folioLimitWork slot limit).state.tablesCanonical :=
  iteAnswer hs (iteAnswer hs ((hs.modifyFolio slot _).restage slot _))

theorem folioStateWork (slot state : Nat) : (s.folioStateWork slot state).state.tablesCanonical := by
  unfold State.folioStateWork
  split
  · exact hs
  · exact iteAnswer hs (iteAnswer hs ((hs.modifyFolio slot _).restage slot _))

theorem folioFreeWork (slot : Nat) : (s.folioFreeWork slot).state.tablesCanonical := by
  refine iteAnswer hs ?_
  split
  · exact hs
  · exact iteAnswer hs (iteAnswer hs (hs.withFolios (Table.wf_erase _ hs.folios_wf)))

theorem venuePutWork (venue rate eligible : Nat) : (s.venuePutWork venue rate eligible).state.tablesCanonical := by
  unfold State.venuePutWork
  split
  · exact hs
  · exact iteAnswer hs (hs.withVenues (Table.wf_set _ _ hs.venues_wf))

theorem upstreamSetWork (value : Nat) : (s.upstreamSetWork value).state.tablesCanonical := by
  have moved : ∀ u, (s.withUpstream u).tablesCanonical := by
    intro u
    unfold State.withUpstream
    split <;> exact hs
  unfold State.upstreamSetWork
  split
  · exact hs
  · exact moved _

theorem journalBaseWork (number : Nat) : (s.journalBaseWork number).state.tablesCanonical := by
  have based : ({ s with
      retiredThrough := number - 1
      folios := s.folios.map (fun _ f => { f with through := number - 1 }) } : State).tablesCanonical :=
    hs.withFolios (Table.wf_map _ hs.folios_wf)
  exact iteAnswer hs (iteAnswer hs (iteAnswer hs based.evaluateJournal))

theorem retired (n : Nat) : (s.retired n).tablesCanonical := by
  have booked := hs.foldl (fun e hu => hu.bookRetired e) (s.journal.filter (fun e => decide (e.number ≤ n)))
  exact evaluateJournal booked

theorem chargesRetireWork (number : Nat) : (s.chargesRetireWork number).state.tablesCanonical :=
  iteAnswer hs (iteAnswer hs (hs.retired _))

/-! ## Purchases and holds -/

theorem openHold (id : HeadId) (h : Hold) : (s.openHold id h).tablesCanonical := by
  have reserved := ((hs.modifyFolio h.folio (fun f => f.reserved h s.epoch)).modifyPerson h.slot (fun p => p.reserved h)).modifyHead
    id (fun hd => { hd with hold := some h })
  exact ite (reserved.raise _ _) reserved

theorem decideAuth (e : Entry) (venue : Nat) (u : RawUid) (tag : Nat) (raw : List RawLine) :
    (s.decideAuth e venue u tag raw).tablesCanonical := by
  unfold State.decideAuth
  split
  · exact hs.sendDecision e _
  · exact (hs.openHold _ _).sendDecision e _

theorem decidePurchase (e : Entry) (u : RawUid) (tag : Nat) (raw : List RawLine) :
    (s.decidePurchase e u tag raw).tablesCanonical := by
  unfold State.decidePurchase
  split
  · exact hs
  · split
    · exact hs.decideAuth e _ u tag raw
    · exact ite (hs.sendDecision e _) ((hs.releaseHold _ _).decideAuth e _ u tag raw)

theorem deferConfirm (e : Entry) (tag : Nat) (h : Hold) : (s.deferConfirm e tag h).tablesCanonical := by
  have marked := hs.modifyHead e.head (fun hd => { hd with hold := some { h with confirming := true } })
  have joined : ({ s.modifyHead e.head (fun hd => { hd with hold := some { h with confirming := true } }) with
      deferred := s.deferred ++ [⟨e.head, tag, none⟩] } : State).tablesCanonical := marked
  exact joined.giveBackEntry e

theorem confirmNow (e : Entry) (tag : Nat) (h : Hold) : (s.confirmNow e tag h).tablesCanonical :=
  ((hs.applyConfirm h).modifyHead _ _).sendDecision e _

theorem decideConfirm (e : Entry) (tag : Nat) : (s.decideConfirm e tag).tablesCanonical := by
  unfold State.decideConfirm
  split
  · exact hs.sendDecision e _
  · exact ite (hs.sendDecision e _) (ite (hs.giveBackEntry e) (ite (hs.deferConfirm e tag _) (hs.confirmNow e tag _)))

theorem releaseTagged (id : HeadId) (tag : Nat) : (s.releaseTagged id tag).tablesCanonical := by
  unfold State.releaseTagged
  split
  · exact hs
  · exact ite (hs.releaseHold id _) hs

theorem expireHold (id : HeadId) : (s.expireHold id).tablesCanonical := by
  unfold State.expireHold
  split
  · exact hs
  · exact ite (hs.passTime _) ((hs.passTime _).releaseHold id _)

theorem takePurchase {handle : Entry → Option (State → State)}
    (ha : ∀ {e apply u}, handle e = some apply → u.tablesCanonical → (apply u).tablesCanonical) :
    (s.takePurchase handle).tablesCanonical := ite hs (hs.takeOldest _ ha)

theorem takeConfirm : s.takeConfirm.tablesCanonical := by
  unfold State.takeConfirm
  split
  · exact hs
  · split
    · refine ite hs (hs.takePurchase ?_)
      rintro e _ u ⟨⟩ hu
      exact hu.decideConfirm e _
    · exact hs

/-! ## Lanes, banks and the sweeper -/

theorem lanePutWork (n direction mode : Nat) : (s.lanePutWork n direction mode).state.tablesCanonical := by
  unfold State.lanePutWork
  split
  · exact iteAnswer hs (iteAnswer hs (hs.setLane n _))
  · exact hs

theorem laneOpenWork (n : Nat) : (s.laneOpenWork n).state.tablesCanonical := by
  refine iteAnswer hs ?_
  dsimp only
  split
  · exact iteAnswer (hs.setLane n _) hs
  all_goals exact hs

theorem laneHoldWork (n : Nat) : (s.laneHoldWork n).state.tablesCanonical := by
  refine iteAnswer hs ?_
  dsimp only
  split
  · exact hs
  all_goals exact hs.setLane n _

theorem laneReleaseWork (n : Nat) : (s.laneReleaseWork n).state.tablesCanonical := by
  refine iteAnswer hs ?_
  dsimp only
  split
  · exact hs
  · exact hs
  · exact hs.setLane n _

theorem endForClose (n : Nat) : (s.endForClose n).tablesCanonical := by
  unfold State.endForClose
  split
  · exact hs
  · split
    · exact hs.commitCrossing n _ _
    all_goals exact hs.abandonCrossing n

theorem laneCloseWork (n : Nat) : (s.laneCloseWork n).state.tablesCanonical := by
  refine iteAnswer hs ?_
  split
  · exact hs
  all_goals exact (hs.endForClose n).setLane n _

theorem sendLane (e : Entry) (tag : Nat) (d : LaneDecision) : (s.sendLane e tag d).tablesCanonical := hs.sendDecision e _

theorem refuseTap (n : Nat) (e : Entry) (tag : Nat) (code : LaneRefusal) : (s.refuseTap n e tag code).tablesCanonical :=
  (hs.setLane n _).sendLane e tag _

theorem admitTap (n : Nat) (e : Entry) (tag slot : Nat) (p : Person) : (s.admitTap n e tag slot p).tablesCanonical :=
  ite ((hs.addBankHolds.raise _ _).refuseTap n e tag _) ((hs.setLane n _).sendLane e tag _)

theorem crossTap (n : Nat) (e : Entry) (tag slot : Nat) (p : Person) : (s.crossTap n e tag slot p).tablesCanonical := by
  have refused := hs.refuseTap n e tag
  unfold State.crossTap
  split
  · exact ite (refused _) (hs.admitTap n e tag slot p)
  · refine ite (hs.sendLane e tag _) (ite (refused _) ?_)
    split
    · exact refused _
    · exact refused _
    · exact (hs.commitCrossing n _ _).admitTap n e tag slot p

theorem cardTap (n : Nat) (e : Entry) (u : RawUid) (tag : Nat) : (s.cardTap n e u tag).tablesCanonical := by
  have refused := hs.refuseTap n e tag
  unfold State.cardTap
  split
  · exact refused _
  · split
    · exact refused _
    · exact refused _
    · split
      · exact refused _
      · exact ite ((hs.raise _ _).refuseTap n e tag _) (hs.crossTap n e tag _ _)

theorem decideLane (e : Entry) (u : RawUid) (tag : Nat) : (s.decideLane e u tag).tablesCanonical := by
  have refused := hs.refuseTap (s.laneOfHead e.head) e tag
  refine ite (refused _) ?_
  split
  · exact refused _
  · exact refused _
  · exact hs.cardTap _ e u tag

theorem applyPassed (n : Nat) : (s.applyPassed n).tablesCanonical := by
  unfold State.applyPassed
  split
  · exact hs.commitCrossing n _ _
  · exact (hs.setLane n _).raise _ _

theorem applyAccept (n : Nat) : (s.applyAccept n).tablesCanonical := by
  unfold State.applyAccept
  dsimp only
  split
  · exact hs.setLane n _
  · exact hs

theorem applyReject (n : Nat) : (s.applyReject n).tablesCanonical := by
  unfold State.applyReject
  split
  · exact hs.abandonCrossing n
  · exact hs

theorem staleCrossing (n tag : Nat) : (s.staleCrossing n tag).tablesCanonical := by
  unfold State.staleCrossing
  split
  · exact ite (hs.loseCrossing n) hs
  · exact hs

theorem expirePending (n : Nat) : (s.expirePending n).tablesCanonical := by
  unfold State.expirePending
  split
  · exact hs
  · split
    · exact (hs.passTime _).abandonCrossing n
    · exact (hs.passTime _).commitCrossing n _ _
    · exact hs

theorem expireOfficer (n : Nat) : (s.expireOfficer n).tablesCanonical := by
  unfold State.expireOfficer
  split
  · exact hs
  · split
    · exact (hs.passTime _).abandonCrossing n
    all_goals exact hs

theorem bankFlushWork : s.bankFlushWork.state.tablesCanonical := iteAnswer hs (iteAnswer hs hs.swapBanks)

theorem bankReleased (n : Nat) : (s.bankReleased n).tablesCanonical := by
  have emptied := hs.setBank n ⟨.EMPTY, []⟩
  exact ite emptied.swapBanks emptied.removeBankHolds

theorem bankReleaseWork (n : Nat) : (s.bankReleaseWork n).state.tablesCanonical :=
  iteAnswer hs (iteAnswer hs (hs.bankReleased n))

theorem crossingBaseWork (number : Nat) : (s.crossingBaseWork number).state.tablesCanonical :=
  iteAnswer hs (iteAnswer hs hs)

theorem presenceSet (slot : Nat) (p : Person) (after : Presence) : (s.presenceSet slot p after).tablesCanonical :=
  ((hs.changePresence slot p after).appendCrossing _).swapCheck

theorem presenceSetWork (slot presence : Nat) : (s.presenceSetWork slot presence).state.tablesCanonical := by
  unfold State.presenceSetWork
  split
  · exact hs
  · refine iteAnswer hs ?_
    split
    · exact hs
    · exact iteAnswer hs (iteAnswer hs (hs.presenceSet slot _ _))

theorem allaboardStartWork : s.allaboardStartWork.state.tablesCanonical := by
  unfold State.allaboardStartWork
  split <;> exact hs

theorem sweep : s.sweep.tablesCanonical := by
  have examined : ({ s with sweeper := s.examined } : State).tablesCanonical := hs
  unfold State.sweep
  split
  · exact hs
  · exact hs
  · exact ite (raise examined _ _) examined

/-! ## Heads -/

theorem bind (h : HeadId) (cls : HeadClass) (bound : Nat) : (s.bind h cls bound).tablesCanonical := by
  cases cls with
  | CABIN_DOOR => exact hs.bindCabin bound h
  | VENUE_TERMINAL => exact hs
  | GANGWAY_LANE => exact hs.bindLane bound h

theorem unbind (cls : HeadClass) (bound : Nat) : (s.unbind cls bound).tablesCanonical := by
  cases cls with
  | CABIN_DOOR => exact hs.unbindCabin bound
  | VENUE_TERMINAL => exact hs
  | GANGWAY_LANE => exact hs.unbindLane bound

theorem endInHand (h : HeadId) : (s.endInHand h).tablesCanonical := ((hs.leaveOnline h).tuneFrameEnds h).modifyHead h _

theorem raiseRecovered (h : HeadId) (was : HeadState) : (s.raiseRecovered h was).tablesCanonical := ite (hs.raise _ _) hs

theorem headChanged (h : HeadId) (hd : Head) (cls : HeadClass) (f : HeadFields) : (s.headChanged h hd cls f).tablesCanonical :=
  ((((hs.endInHand h).unbind _ _).bind h cls f.bound).modifyHead h _).raiseRecovered h _

theorem headPutWork (h : HeadId) (f : HeadFields) : (s.headPutWork h f).state.tablesCanonical := by
  unfold State.headPutWork
  split
  · exact hs
  · split
    · exact hs
    · split
      · exact (hs.setHead h _).bind h _ f.bound
      · exact iteAnswer (hs.modifyHead h _) (hs.headChanged h _ _ f)

theorem headDropped (h : HeadId) (hd : Head) : (s.headDropped h hd).tablesCanonical := by
  have unbound := ((hs.endInHand h).modifyLine h.line (fun ln => ln.dropHead h.address)).unbind hd.cls hd.bound
  exact (unbound.withHeads (Table.wf_erase h.key unbound.heads_wf)).raiseRecovered h _

theorem headDropWork (h : HeadId) : (s.headDropWork h).state.tablesCanonical := by
  refine iteAnswer hs ?_
  split
  · exact hs
  · exact hs.headDropped h _

theorem headTuneWork (h : HeadId) (kind : Nat) : (s.headTuneWork h kind).state.tablesCanonical := by
  unfold State.headTuneWork
  split
  · exact hs
  · refine iteAnswer hs ?_
    split
    · exact hs
    · exact iteAnswer hs (iteAnswer hs (hs.startTune h _))

theorem settingsPushWork (l dest : Nat) (page : List Byte) (map : Option (List Byte)) :
    (s.settingsPushWork l dest page map).state.tablesCanonical := by
  unfold State.settingsPushWork
  split
  · exact hs
  · exact ite ((hs.modifyLine l _).modifyHead _ _) (hs.modifyLine l _)

theorem enqueuePush (l : Nat) : (s.enqueuePush l).tablesCanonical := by
  unfold State.enqueuePush
  dsimp only
  split
  · exact hs
  · exact ite (hs.setLine l _) hs

theorem enqueueWaitingTune (h : HeadId) : (s.enqueueWaitingTune h).tablesCanonical := by
  unfold State.enqueueWaitingTune
  split
  · exact hs
  · exact ite (hs.enqueueTune h _) hs

theorem expireTune (h : HeadId) : (s.expireTune h).tablesCanonical := by
  unfold State.expireTune
  split
  · exact hs
  · split
    · exact (hs.passTime _).faultHead h _ _
    · exact hs

theorem expireRetry (h : HeadId) : (s.expireRetry h).tablesCanonical := by
  unfold State.expireRetry
  split
  · exact hs
  · split
    · exact ((hs.passTime _).modifyHead h _).raise _ _
    · exact hs

theorem becomeDue (h : HeadId) : (s.becomeDue h).tablesCanonical := by
  unfold State.becomeDue
  split
  · exact hs
  · split
    · exact (hs.passTime _).modifyHead h _
    · exact hs

theorem becomeOverdue (h : HeadId) : (s.becomeOverdue h).tablesCanonical := by
  unfold State.becomeOverdue
  split
  · exact hs
  · split
    · exact ite hs (((hs.passTime _).modifyHead h _).raise _ _)
    · exact hs

/-! ## Reader lines -/

theorem lineStarted (l : Nat) : (s.lineStarted l).tablesCanonical :=
  (hs.setLine l _).foldl (fun h hu => hu.modifyHead h _) _

theorem lineStartWork (l : Nat) : (s.lineStartWork l).state.tablesCanonical := iteAnswer hs (iteAnswer hs (hs.lineStarted l))

theorem lineEmptied (l : Nat) : (s.lineEmptied l).tablesCanonical := by
  unfold State.lineEmptied
  dsimp only
  split
  · exact (hs.giveBackIntake _).modifyLine l _
  · exact hs.modifyLine l _

theorem stopHead (h : HeadId) : (s.stopHead h).tablesCanonical := by
  unfold State.stopHead
  split
  · exact hs
  · exact ((hs.leaveOnline h).modifyHead h _).raiseRecovered h _

theorem lineStopped (l : Nat) : (s.lineStopped l).tablesCanonical :=
  ((hs.lineEmptied l).foldl (fun h hu => hu.stopHead h) _).modifyLine l _

theorem lineStopWork (l : Nat) : (s.lineStopWork l).state.tablesCanonical := iteAnswer hs (iteAnswer (hs.lineStopped l) hs)

theorem count (l : Nat) (f : LineCounters → LineCounters) : (s.count l f).tablesCanonical := hs.modifyLine l _

theorem beginTurn (l : Nat) (t : Turn) : (s.beginTurn l t).tablesCanonical := (hs.modifyLine l _).count l _

theorem beginPoll (l address : Nat) (f : TurnFrame) : (s.beginPoll l address f).tablesCanonical := by
  unfold State.beginPoll
  dsimp only
  split
  · exact ((hs.reservePoll l _).modifyLine l _).beginTurn l _
  · exact (hs.modifyLine l _).beginTurn l _

theorem startTurn (l : Nat) : (s.startTurn l).tablesCanonical := by
  unfold State.startTurn
  dsimp only
  split
  · split
    · exact hs.beginTurn l _
    · split
      · exact hs.beginPoll l _ _
      · exact hs
  · exact hs

theorem endTurn (l : Nat) (t : Turn) : (s.endTurn l t).tablesCanonical :=
  ite (hs.modifyLine l _) ((hs.modifyLine l _).modifyHead _ _)

theorem groupSent (l : Nat) : (s.groupSent l).tablesCanonical := by
  unfold State.groupSent
  split
  · exact ite hs ((hs.endTurn l _).modifyLine l _)
  · exact hs

theorem missTurn (h : HeadId) : (s.missTurn h).tablesCanonical := by
  unfold State.missTurn
  split
  · exact hs
  · exact ite (ite ((hs.modifyHead h _).faultHead h _ _) (hs.modifyHead h _)) hs

theorem resendTune (h : HeadId) : (s.resendTune h).tablesCanonical := by
  unfold State.resendTune
  split
  · exact hs
  · exact ite (hs.enqueueTune h _) hs

theorem frameFailed (h : HeadId) (dropped : Bool) (f : OutFrame) : (s.frameFailed h dropped f).tablesCanonical := by
  unfold State.frameFailed
  split
  · exact hs.indicatorLost _
  · exact ite hs (hs.failPush h)
  · exact ite hs (hs.resendTune h)
  all_goals exact hs

theorem failTurn (l : Nat) (t : Turn) : (s.failTurn l t).tablesCanonical := by
  have ended := ((hs.endTurn l t).count l (fun c => { c with failed := bump c.failed })).giveBackPoll l t.holds
  have missed : (if t.dropped then _ else State.missTurn _ _).tablesCanonical := ite ended (ended.missTurn ⟨l, t.target⟩)
  unfold State.failTurn
  dsimp only
  split
  · exact missed.frameFailed _ _ _
  all_goals exact missed

theorem failAttempt (l : Nat) (t : Turn) : (s.failAttempt l t).tablesCanonical :=
  ite (hs.failTurn l t) ((hs.modifyLine l _).count l _)

theorem routeEvent (h : HeadId) (hd : Head) (holds : Option HeadClass) (kind : Nat) (p : List Byte) :
    (s.routeEvent h hd holds kind p).tablesCanonical := by
  refine ite ((hs.giveBackPoll _ holds).faultHead h _ _) ?_
  split
  · exact hs.enterIntake h _ _
  · exact (hs.giveBackPoll _ holds).count _ _

theorem takeEvent (h : HeadId) (hd : Head) (holds : Option HeadClass) (seq lost kind : Nat) (p : List Byte) :
    (s.takeEvent h hd holds seq lost kind p).tablesCanonical :=
  ite ((hs.giveBackPoll _ holds).count _ _) (((hs.modifyHead h _).count _ _).routeEvent h hd holds kind p)

theorem takeIdent (h : HeadId) (hd : Head) (code : Nat) : (s.takeIdent h hd code).tablesCanonical :=
  ite (ite (hs.modifyHead h _).attemptStarts ((hs.modifyHead h _).faultHead h _ _)) hs

theorem takeStale (h : HeadId) (hd : Head) (x : FrameContent) : (s.takeStale h hd x).tablesCanonical := by
  unfold State.takeStale
  split
  · exact hs.modifyHead h _
  · exact hs.releaseTagged h _
  · exact hs.staleCrossing _ _
  · exact hs.staleCrossing _ _
  · exact hs

theorem takeSegmentAck (h : HeadId) (more : Bool) : (s.takeSegmentAck h more).tablesCanonical := by
  unfold State.takeSegmentAck
  split
  · exact hs
  · exact ite hs (ite (hs.modifyLine _ _) ((hs.modifyLine _ _).modifyHead h _))

theorem takeAck (h : HeadId) (x : FrameContent) : (s.takeAck h x).tablesCanonical := by
  unfold State.takeAck
  split
  · exact hs.takeSegmentAck h _
  all_goals exact hs

theorem takeAnswer (h : HeadId) (hd : Head) (t : Turn) (a : HeadAnswer) : (s.takeAnswer h hd t a).tablesCanonical := by
  cases a with
  | noEvent => exact hs.giveBackPoll _ _
  | event seq lost kind p => exact ite (hs.takeEvent h hd _ seq lost kind p) (hs.giveBackPoll _ _)
  | tuning => exact hs
  | tuneDone low high field => exact ite (hs.finishTune h hd low high field) hs
  | ident code => exact hs.takeIdent h hd code
  | taken => exact hs
  | stale =>
    unfold State.takeAnswer
    dsimp only
    split
    · exact ite (hs.takeStale h hd _) hs
    · exact hs
  | ack =>
    unfold State.takeAnswer
    dsimp only
    split
    · exact hs.takeAck h _
    · exact hs

theorem goodAnswer (l : Nat) (t : Turn) (a : HeadAnswer) : (s.goodAnswer l t a).tablesCanonical := by
  have ended := hs.endTurn l t
  unfold State.goodAnswer
  dsimp only
  split
  · exact ended.giveBackPoll l _
  · exact (ended.modifyHead _ _).takeAnswer _ _ t a

theorem receiveAnswer (l : Nat) (bytes : List Byte) : (s.receiveAnswer l bytes).tablesCanonical := by
  unfold State.receiveAnswer
  split
  · exact hs
  · split
    · exact hs.goodAnswer l _ _
    all_goals exact (hs.count l _).failAttempt l _

theorem answerLate (l : Nat) : (s.answerLate l).tablesCanonical := by
  unfold State.answerLate
  split
  · exact hs
  · exact hs.failAttempt l _

end Sys2Proof.Machine.State.tablesCanonical
end

section
/-! PROOFS. Every command keeps the tables canonical, and so does every step. -/

namespace Sys2Proof.Machine

open Sys2Proof

/-- The state after power-on reset has canonical tables. -/
theorem State.reset_tablesCanonical : State.reset.tablesCanonical := ⟨rfl, rfl, rfl, rfl, rfl, rfl, rfl, rfl, rfl⟩

namespace State.tablesCanonical

/-- Every command answers a next state, and keeps the tables canonical. -/
theorem exec {s : State} (hs : s.tablesCanonical) (c : Instr) : ∃ u, exec c s = .next u ∧ u.tablesCanonical := by
  cases c with
  | powerOnReset => exact ⟨_, rfl, reset_tablesCanonical⟩
  | requestFrameTaken bytes => exact ⟨_, rfl, hs.transact bytes⟩
  | truncatedFrame bytes => exact ⟨_, rfl, hs.transact bytes⟩
  | readTransaction count => exact ⟨_, rfl, ite hs (hs.readMessage _)⟩
  | noticeQueued => exact ⟨_, rfl, hs.queueNotice⟩
  | shipClockTick => exact ⟨_, rfl, hs.passTime _⟩
  | clockSet tag time => exact ⟨_, rfl, hs.serve _ (fun hu => hu.clockSetWork time)⟩
  | clockGet tag => exact ⟨_, rfl, hs.serveRead _ (fun u => u.clockGetWork_state)⟩
  | paramSet tag ident value => exact ⟨_, rfl, hs.serve _ (fun hu => hu.paramSetWork ident value)⟩
  | paramGet tag ident => exact ⟨_, rfl, hs.serveRead _ (fun u => u.paramGetWork_state ident)⟩
  | noticeMask tag classes => exact ⟨_, rfl, hs.serve _ (fun hu => hu.noticeMaskWork classes)⟩
  | noticeClear tag classes => exact ⟨_, rfl, hs.serve _ (fun hu => hu.noticeClearWork classes)⟩
  | statusGet tag => exact ⟨_, rfl, hs.serveRead _ (fun u => u.statusGetWork_state)⟩
  | restart tag => exact ⟨_, rfl, hs.serve _ (fun hu => hu.restartWork)⟩
  | personPut tag slot fields => exact ⟨_, rfl, hs.serve _ (fun hu => hu.personPutWork slot fields)⟩
  | personGet tag selector value => exact ⟨_, rfl, hs.serveRead _ (fun u => u.personGetWork_state selector value)⟩
  | personDrop tag slot => exact ⟨_, rfl, hs.serve _ (fun hu => hu.personDropWork slot)⟩
  | cardEnrol tag uid slot issue state => exact ⟨_, rfl, hs.serve _ (fun hu => hu.cardEnrolWork uid slot issue state)⟩
  | cardRevoke tag uid issue => exact ⟨_, rfl, hs.serve _ (fun hu => hu.cardChange _ _ _)⟩
  | cardSuspend tag uid issue => exact ⟨_, rfl, hs.serve _ (fun hu => hu.cardChange _ _ _)⟩
  | cardResume tag uid issue => exact ⟨_, rfl, hs.serve _ (fun hu => hu.cardChange _ _ _)⟩
  | cardFind tag uid => exact ⟨_, rfl, hs.serveRead _ (fun u => u.cardFindWork_state uid)⟩
  | cardPurge tag => exact ⟨_, rfl, hs.serve _ (fun hu => hu.cardPurgeWork)⟩
  | cabinPut tag number zone => exact ⟨_, rfl, hs.serve _ (fun hu => hu.cabinPutWork number zone)⟩
  | cabinGet tag number => exact ⟨_, rfl, hs.serveRead _ (fun u => u.cabinGetWork_state number)⟩
  | cabinDrop tag number => exact ⟨_, rfl, hs.serve _ (fun hu => hu.cabinDropWork number)⟩
  | privacySet tag number value => exact ⟨_, rfl, hs.serve _ (fun hu => hu.privacySetWork number value)⟩
  | indicatorOnRoom line => exact ⟨_, rfl, hs.serveOwed line⟩
  | folioPut tag slot fields => exact ⟨_, rfl, hs.serve _ (fun hu => hu.folioPutWork slot fields)⟩
  | reconcileScanStep => exact ⟨_, rfl, hs.scanStep⟩
  | folioLimit tag slot limit => exact ⟨_, rfl, hs.serve _ (fun hu => hu.folioLimitWork slot limit)⟩
  | folioState tag slot state => exact ⟨_, rfl, hs.serve _ (fun hu => hu.folioStateWork slot state)⟩
  | folioGet tag selector value => exact ⟨_, rfl, hs.serveRead _ (fun u => u.folioGetWork_state selector value)⟩
  | folioFree tag slot => exact ⟨_, rfl, hs.serve _ (fun hu => hu.folioFreeWork slot)⟩
  | venuePut tag venue rate eligible => exact ⟨_, rfl, hs.serve _ (fun hu => hu.venuePutWork venue rate eligible)⟩
  | upstreamSet tag value => exact ⟨_, rfl, hs.serve _ (fun hu => hu.upstreamSetWork value)⟩
  | journalBase tag number => exact ⟨_, rfl, hs.serve _ (fun hu => hu.journalBaseWork number)⟩
  | chargesRead tag start count => exact ⟨_, rfl, hs.serveRead _ (fun u => u.chargesReadWork_state start count)⟩
  | chargesRetire tag number => exact ⟨_, rfl, hs.serve _ (fun hu => hu.chargesRetireWork number)⟩
  | lanePut tag lane direction mode => exact ⟨_, rfl, hs.serve _ (fun hu => hu.lanePutWork lane direction mode)⟩
  | laneOpen tag lane => exact ⟨_, rfl, hs.serve _ (fun hu => hu.laneOpenWork lane)⟩
  | laneHold tag lane => exact ⟨_, rfl, hs.serve _ (fun hu => hu.laneHoldWork lane)⟩
  | laneRelease tag lane => exact ⟨_, rfl, hs.serve _ (fun hu => hu.laneReleaseWork lane)⟩
  | laneClose tag lane => exact ⟨_, rfl, hs.serve _ (fun hu => hu.laneCloseWork lane)⟩
  | laneGet tag lane => exact ⟨_, rfl, hs.serveRead _ (fun u => u.laneGetWork_state lane)⟩
  | bankFlush tag => exact ⟨_, rfl, hs.serve _ (fun hu => hu.bankFlushWork)⟩
  | crossingsRead tag start count => exact ⟨_, rfl, hs.serveRead _ (fun u => u.crossingsReadWork_state start count)⟩
  | bankRelease tag bank => exact ⟨_, rfl, hs.serve _ (fun hu => hu.bankReleaseWork bank)⟩
  | crossingBase tag number => exact ⟨_, rfl, hs.serve _ (fun hu => hu.crossingBaseWork number)⟩
  | presenceSet tag slot presence => exact ⟨_, rfl, hs.serve _ (fun hu => hu.presenceSetWork slot presence)⟩
  | censusGet tag => exact ⟨_, rfl, hs.serveRead _ (fun u => u.censusGetWork_state)⟩
  | allaboardStart tag => exact ⟨_, rfl, hs.serve _ (fun hu => hu.allaboardStartWork)⟩
  | sweepStep => exact ⟨_, rfl, hs.sweep⟩
  | missingRead tag start count => exact ⟨_, rfl, hs.serveRead _ (fun u => u.missingReadWork_state start count)⟩
  | lineStart tag line => exact ⟨_, rfl, hs.serve _ (fun hu => hu.lineStartWork line)⟩
  | lineStop tag line => exact ⟨_, rfl, hs.serve _ (fun hu => hu.lineStopWork line)⟩
  | lineGet tag line => exact ⟨_, rfl, hs.serveRead _ (fun u => u.lineGetWork_state line)⟩
  | headPut tag line address fields => exact ⟨_, rfl, hs.serve _ (fun hu => hu.headPutWork ⟨line, address⟩ fields)⟩
  | headDrop tag line address => exact ⟨_, rfl, hs.serve _ (fun hu => hu.headDropWork ⟨line, address⟩)⟩
  | headGet tag line address => exact ⟨_, rfl, hs.serveRead _ (fun u => u.headGetWork_state ⟨line, address⟩)⟩
  | headTune tag line address kind => exact ⟨_, rfl, hs.serve _ (fun hu => hu.headTuneWork ⟨line, address⟩ kind)⟩
  | settingsPush tag line dest page map => exact ⟨_, rfl, hs.serve _ (fun hu => hu.settingsPushWork line dest page map)⟩
  | settingsPushEnqueue line => exact ⟨_, rfl, hs.enqueuePush line⟩
  | turnStart line => exact ⟨_, rfl, hs.startTurn line⟩
  | groupFrameSent line => exact ⟨_, rfl, hs.groupSent line⟩
  | answerReceived line bytes => exact ⟨_, rfl, hs.receiveAnswer line bytes⟩
  | answerTimeout line => exact ⟨_, rfl, hs.answerLate line⟩
  | doorTap =>
    refine ⟨_, rfl, hs.takeOldest _ fun h hu => ?_⟩
    split at h <;> cases h
    exact hu.decideDoor _ _ _
  | opened =>
    refine ⟨_, rfl, hs.takeOldest _ fun h hu => ?_⟩
    split at h <;> cases h
    exact hu.applyOpened _ _
  | notOpened =>
    refine ⟨_, rfl, hs.takeOldest _ fun h hu => ?_⟩
    split at h <;> cases h
    exact hu.modifyHead _ _
  | privacyOn =>
    refine ⟨_, rfl, hs.takeOldest _ fun h hu => ?_⟩
    split at h <;> cases h
    exact hu.applyPrivacy _ _
  | privacyOff =>
    refine ⟨_, rfl, hs.takeOldest _ fun h hu => ?_⟩
    split at h <;> cases h
    exact hu.applyPrivacy _ _
  | deadboltOn =>
    refine ⟨_, rfl, hs.takeOldest _ fun h hu => ?_⟩
    split at h <;> cases h
    exact hu.applyDeadbolt _ _
  | deadboltOff =>
    refine ⟨_, rfl, hs.takeOldest _ fun h hu => ?_⟩
    split at h <;> cases h
    exact hu.applyDeadbolt _ _
  | purchaseTap =>
    refine ⟨_, rfl, hs.takePurchase fun h hu => ?_⟩
    split at h <;> cases h
    exact hu.decidePurchase _ _ _ _
  | confirm => exact ⟨_, rfl, hs.takeConfirm⟩
  | void =>
    refine ⟨_, rfl, hs.takePurchase fun h hu => ?_⟩
    split at h <;> cases h
    exact hu.releaseTagged _ _
  | holdExpiry line address => exact ⟨_, rfl, hs.expireHold ⟨line, address⟩⟩
  | laneTap =>
    refine ⟨_, rfl, hs.takeOldest _ fun h hu => ?_⟩
    split at h <;> cases h
    exact hu.decideLane _ _ _
  | passed =>
    refine ⟨_, rfl, hs.takeOldest _ fun h hu => ?_⟩
    split at h <;> cases h
    exact hu.applyPassed _
  | officerAccept =>
    refine ⟨_, rfl, hs.takeOldest _ fun h hu => ?_⟩
    split at h <;> cases h
    exact hu.applyAccept _
  | officerReject =>
    refine ⟨_, rfl, hs.takeOldest _ fun h hu => ?_⟩
    split at h <;> cases h
    exact hu.applyReject _
  | pendingTimeout lane => exact ⟨_, rfl, hs.expirePending lane⟩
  | officerWaitExpiry lane => exact ⟨_, rfl, hs.expireOfficer lane⟩
  | tuneStart => exact ⟨_, rfl, hs.scheduleOne⟩
  | tuneFrameEnqueue line address => exact ⟨_, rfl, hs.enqueueWaitingTune ⟨line, address⟩⟩
  | tuneTimeout line address => exact ⟨_, rfl, hs.expireTune ⟨line, address⟩⟩
  | faultRetryExpiry line address => exact ⟨_, rfl, hs.expireRetry ⟨line, address⟩⟩
  | headDueForTune line address => exact ⟨_, rfl, hs.becomeDue ⟨line, address⟩⟩
  | tuneOverdue line address => exact ⟨_, rfl, hs.becomeOverdue ⟨line, address⟩⟩

end State.tablesCanonical

/-- Settles O55: the command at the front of the queue keeps the tables canonical, and the passing of a millisecond touches none. -/
theorem stepKeepsTablesCanonical : Obligations.StepKeepsTablesCanonical := by
  intro s t hs h
  unfold step at h
  split at h
  · cases h
    exact hs.passTime 1
  · rename_i c rest _
    have queued : ({ s with pending := rest } : State).tablesCanonical := hs
    obtain ⟨u, next, hu⟩ := queued.exec c
    rw [next] at h
    cases h
    exact hu

end Sys2Proof.Machine
end

section
/-! PROOFS. What searching, keeping and rewriting give of a table in its canonical form, and how a served request is refused or done. -/

namespace Sys2Proof.Machine

open Sys2Proof

/-! ## Tables -/

section Tables

variable {α : Type} {t : Table α}

/-- No place is found exactly when no record passes. -/
theorem Table.findKey_eq_none {p : α → Bool} : t.findKey p = none ↔ ∀ c ∈ t.cells, p c.2 = false := by
  simp [Table.findKey]

/-- In the canonical form the place found holds a record that passes. -/
theorem Table.get_of_findKey {p : α → Bool} {k : Nat} (hw : t.wf = true) (h : t.findKey p = some k) :
    ∃ v, t.get k = some v ∧ p v = true := by
  obtain ⟨⟨k', v⟩, found, rfl⟩ := Option.map_eq_some_iff.1 h
  exact ⟨v, (Table.get_iff_mem hw).2 (List.mem_of_find?_eq_some found), (List.find?_eq_some_iff_append.1 found).1⟩

/-- In the canonical form the records kept are those that pass. -/
theorem Table.get_keep {p : Nat → α → Bool} {k : Nat} {v : α} (hw : t.wf = true) :
    (t.keep p).get k = some v ↔ t.get k = some v ∧ p k v = true := by
  rw [Table.get_iff_mem (Table.wf_keep p hw), Table.get_iff_mem hw]
  exact List.mem_filter

/-- The records that pass and those kept without them are all records. -/
theorem Table.count_add_size_keep (p : α → Bool) : t.count p + (t.keep (fun _ v => !p v)).size = t.size := by
  simp only [Table.count, Table.keep, Table.size, ← List.countP_eq_length_filter]
  rw [List.length_eq_countP_add_countP (fun c => p c.2)]
  simp only [Bool.not_eq_true, Bool.decide_eq_false]

theorem Table.insertCells_of_lookup {l : List (Nat × α)} {low k : Nat} {v w : α} (hr : Table.risingFrom low l = true)
    (hv : Table.lookupCells l k = some v) : Table.insertCells l k w = l.map (fun c => if c.1 = k then (k, w) else c) := by
  induction l generalizing low with
  | nil => cases hv
  | cons c rest ih =>
    obtain ⟨j, x⟩ := c
    simp only [Table.risingFrom, Bool.and_eq_true, decide_eq_true_eq] at hr
    simp only [Table.lookupCells] at hv
    by_cases hj : j = k
    · subst hj
      have rest_same : rest.map (fun c => if c.1 = j then (j, w) else c) = rest := by
        refine (List.map_congr_left fun c hc => if_neg fun hcj => ?_).trans (List.map_id rest)
        have := (Table.lookupCells_iff_mem hr.2).2 hc
        rw [hcj, Table.lookupCells_below hr.2 (by omega)] at this
        cases this
      simp [Table.insertCells, rest_same]
    · rw [if_neg hj] at hv
      have hjk : ¬ k < j := fun hlt => by
        rw [Table.lookupCells_below hr.2 (by omega)] at hv
        cases hv
      simp [Table.insertCells, hj, hjk, ih hr.2 hv]

/-- Core's `List.filter_congr`, for the first element that passes: Mathlib's `List.find?_congr` is out of a module's reach. -/
theorem find?_eq_of_alike {l : List α} {p q : α → Bool} (alike : ∀ x ∈ l, p x = q x) : l.find? p = l.find? q := by
  rw [← List.head?_filter, List.filter_congr alike, List.head?_filter]

/-- In the canonical form a search finds the same place after a record is rewritten by one that passes alike. -/
theorem Table.findKey_set {p : α → Bool} {k : Nat} {v w : α} (hw : t.wf = true) (hv : t.get k = some v) (same : p w = p v) :
    (t.set k w).findKey p = t.findKey p := by
  have alike : ∀ c ∈ t.cells, p (if c.1 = k then (k, w) else c).2 = p c.2 := by
    rintro ⟨j, x⟩ hc
    by_cases hj : j = k
    · subst hj
      rw [← Table.get_iff_mem hw, hv] at hc
      cases hc
      simpa using same
    · simp [hj]
  have keys : ((·.1) : Nat × α → Nat) ∘ (fun c => if c.1 = k then (k, w) else c) = (·.1) := by
    funext c
    by_cases hc : c.1 = k <;> simp [hc]
  calc (t.set k w).findKey p
      = ((t.cells.map (fun c => if c.1 = k then (k, w) else c)).find? (fun c => p c.2)).map (·.1) := by
        rw [← Table.insertCells_of_lookup hw hv]
        rfl
    _ = t.findKey p := by
        rw [List.find?_map, Option.map_map, keys]
        exact congrArg _ (find?_eq_of_alike alike)

end Tables

/-- The first element of a rising list that passes has none before it that does. -/
theorem find?_lowest {l : List Nat} {p : Nat → Bool} {k : Nat} (rising : l.Pairwise (· < ·)) (h : l.find? p = some k) :
    ∀ j ∈ l, j < k → p j = false := by
  obtain ⟨-, before, after, rfl, none_before⟩ := List.find?_eq_some_iff_append.1 h
  intro j hj hlt
  rw [List.pairwise_append, List.pairwise_cons] at rising
  obtain ⟨-, ⟨above, -⟩, -⟩ := rising
  rcases List.mem_append.1 hj with hj | hj
  · simpa using none_before j hj
  · rcases List.mem_cons.1 hj with rfl | hj
    · exact absurd hlt (Nat.lt_irrefl _)
    · exact absurd (above j hj) (Nat.lt_asymm hlt)

/-! ## A table of the state is replaced -/

theorem withPersons_keeps (s : State) (t : Table Person) : Keeps [.persons] s { s with persons := t } := by
  intro p hp; cases p <;> first | rfl | simp at hp

theorem withCards_keeps (s : State) (t : Table CardEntry) : Keeps [.cards] s { s with cards := t } := by
  intro p hp; cases p <;> first | rfl | simp at hp

/-! ## Requests -/

section Requests

variable {c : Instr} {s t : State} {work : State → Answer} {kind : Nat} {tag : Byte}

/-- A ready request whose work refuses is refused. -/
theorem refused_of_serve {status : Status} (hr : requestOf c = some (kind, tag)) (h : s.ready c = true)
    (he : exec c s = .next (s.serve c work)) (hw : work s = s.refuse status) : Refused c s status :=
  answers_of_serve hr h he hw

/-- A ready request whose work is done is answered OK. -/
theorem answers_ok_of_serve {body : List Byte} (hr : requestOf c = some (kind, tag)) (h : s.ready c = true)
    (he : exec c s = .next (s.serve c work)) (hw : work s = t.done body) : Answers c s t .OK body :=
  answers_of_serve hr h he hw

end Requests

end Sys2Proof.Machine
end


section
/-! PROOFS. The Card Index: what its lookup returns, what each card request makes of the card it finds, and which place an enrolment
takes (R13 to R21). -/

namespace Sys2Proof.Machine

open Sys2Proof

variable {s t : State} {u : RawUid} {uid : Uid} {issue k : Nat} {e : CardEntry}

/-! ## Buckets and the lookup -/

theorem mem_bucketKeys {b : Nat} : k ∈ bucketKeys b ↔ ∃ pos, pos < 8 ∧ k = 8 * b + pos := by
  simp [bucketKeys, cardKey, eq_comm]

/-- The keys of a bucket rise with the position. -/
theorem bucketKeys_rising (b : Nat) : (bucketKeys b).Pairwise (· < ·) := by
  simp [bucketKeys, cardKey, List.pairwise_map, List.pairwise_lt_range]

theorem cardKeyOf_eq_some (h : s.cardKeyOf uid = some k) :
    k ∈ bucketKeys (s.bucketOf uid) ∧ ∃ e, s.cards.get k = some e ∧ e.uid = uid := by
  refine ⟨List.mem_of_find?_eq_some h, ?_⟩
  have found := (List.find?_eq_some_iff_append.1 h).1
  simpa [Option.any_eq_true] using found

theorem cardKeyOf_eq_none :
    s.cardKeyOf uid = none ↔ ∀ k ∈ bucketKeys (s.bucketOf uid), ∀ e, s.cards.get k = some e → e.uid ≠ uid := by
  simp [State.cardKeyOf, Option.any_eq_false]

theorem lookup_of_cardKeyOf (h : s.cardKeyOf uid = some k) : s.lookup uid = s.cards.get k := by
  rw [State.lookup, h]
  rfl

theorem lookup_eq_none : s.lookup uid = none ↔ s.cardKeyOf uid = none := by
  cases h : s.cardKeyOf uid with
  | none => simp [State.lookup, h]
  | some k =>
    obtain ⟨-, e, held, -⟩ := cardKeyOf_eq_some h
    simp [lookup_of_cardKeyOf h, held]

/-! ## A card found by UID and issue number -/

theorem cardIssued_of_get (hk : s.cardKeyOf uid = some k) (he : s.cards.get k = some e) (hi : e.issue = issue) :
    s.cardIssued uid issue = some (k, e) := by
  simp [State.cardIssued, hk, he, hi]

theorem cardIssued_eq_none (h : ∀ e, s.lookup uid = some e → e.issue ≠ issue) : s.cardIssued uid issue = none := by
  unfold State.cardIssued
  split
  · rfl
  · rename_i k hk
    rw [lookup_of_cardKeyOf hk] at h
    split
    · rfl
    · rename_i e he
      exact if_neg (h e he)

section Change

variable {change : CardEntry → Except Status CardState}

theorem cardChange_of_badUid (hu : uidOf u = none) : s.cardChange u issue change = s.refuse .OUT_OF_RANGE := by
  simp [State.cardChange, hu]

theorem cardChange_of_unknown (hu : uidOf u = some uid) (h : s.cardIssued uid issue = none) :
    s.cardChange u issue change = s.refuse .NOT_FOUND := by
  simp [State.cardChange, hu, h]

theorem cardChange_of_ok {st : CardState} (hu : uidOf u = some uid) (h : s.cardIssued uid issue = some (k, e))
    (hc : change e = .ok st) : s.cardChange u issue change = (s.setCardState k st).done := by
  simp [State.cardChange, hu, h, hc]

theorem cardChange_of_error {status : Status} (hu : uidOf u = some uid) (h : s.cardIssued uid issue = some (k, e))
    (hc : change e = .error status) : s.cardChange u issue change = s.refuse status := by
  simp [State.cardChange, hu, h, hc]

end Change

/-- CARD PURGE answers by how many entries the Card Index has shrunk. -/
theorem cardPurge_count (cards : Table CardEntry) :
    cards.count (fun e => decide (e.state = .REVOKED))
      = cards.size - (cards.keep (fun _ e => decide (e.state ≠ .REVOKED))).size := by
  have whole := Table.count_add_size_keep (t := cards) (fun e => decide (e.state = .REVOKED))
  simp only [← decide_not] at whole
  exact Nat.eq_sub_of_add_eq whole

/-- Settles O16: CARD REVOKE, SUSPEND and RESUME are one change of the card that is found, and differ in what they make of its state. -/
theorem cardStateChanges : Obligations.CardStateChanges := by
  refine ⟨fun s tag u issue => ⟨fun hu => ?_, fun uid hu other => ?_, fun uid k e hu hk he hi => ?_⟩, fun s tag ready wf => ?_⟩
  · have refused := fun change => cardChange_of_badUid (s := s) (issue := issue) (change := change) hu
    exact ⟨fun r => refused_of_serve rfl r rfl (refused _), fun r => refused_of_serve rfl r rfl (refused _),
      fun r => refused_of_serve rfl r rfl (refused _)⟩
  · have refused := fun change => cardChange_of_unknown (change := change) hu (cardIssued_eq_none other)
    exact ⟨fun r => refused_of_serve rfl r rfl (refused _), fun r => refused_of_serve rfl r rfl (refused _),
      fun r => refused_of_serve rfl r rfl (refused _)⟩
  · have found := cardIssued_of_get hk he hi
    refine ⟨fun r => ?revoke, fun r => ⟨fun live => ?suspend, fun revoked => ?suspendRevoked⟩,
      fun r => ⟨fun may => ?resume, fun mayNot => ?resumeNot⟩⟩
    case revoke => exact answers_ok_of_serve rfl r rfl (cardChange_of_ok hu found rfl)
    case suspend =>
      refine answers_ok_of_serve rfl r rfl (cardChange_of_ok hu found ?_)
      cases he : e.state <;> simp_all
    case suspendRevoked =>
      exact refused_of_serve rfl r rfl (cardChange_of_error hu found (by simp [revoked]))
    case resume =>
      refine answers_ok_of_serve rfl r rfl (cardChange_of_ok hu found ?_)
      rcases may with active | ⟨suspended, alone⟩
      · simp [active]
      · simp [suspended, alone]
    case resumeNot =>
      refine refused_of_serve rfl r rfl (cardChange_of_error hu found ?_)
      rcases mayNot with revoked | ⟨suspended, other⟩
      · simp [revoked]
      · simp [suspended, Option.isSome_iff_ne_none.2 other]
  · refine ⟨{ s with cards := s.cards.keep (fun _ e => decide (e.state ≠ .REVOKED)) },
      answers_ok_of_serve rfl ready rfl ?_, withCards_keeps s _, fun k e => ?_⟩
    · rw [← cardPurge_count]
      rfl
    · simp [Table.get_keep wf]

/-! ## The place of an enrolment -/

section Enrol

variable {b : Nat}

/-- The place taken is the lowest free one of the bucket, or else that of its lowest REVOKED entry. -/
theorem enrolKey_place (h : s.enrolKey b = some k) : k ∈ bucketKeys b
    ∧ ((s.cards.get k = none ∧ ∀ j ∈ bucketKeys b, j < k → s.cards.get j ≠ none)
      ∨ ((∀ j ∈ bucketKeys b, s.cards.get j ≠ none) ∧ (∃ e, s.cards.get k = some e ∧ e.state = .REVOKED)
          ∧ ∀ j ∈ bucketKeys b, j < k → ∀ e, s.cards.get j = some e → e.state ≠ .REVOKED)) := by
  unfold State.enrolKey at h
  split at h
  · rename_i free found
    cases h
    have lowest := find?_lowest (bucketKeys_rising b) found
    have empty := (List.find?_eq_some_iff_append.1 found).1
    exact ⟨List.mem_of_find?_eq_some found, .inl ⟨by simpa using empty, fun j hj hlt => by simpa [Option.isSome_iff_ne_none] using lowest j hj hlt⟩⟩
  · rename_i full
    have lowest := find?_lowest (bucketKeys_rising b) h
    have revoked := (List.find?_eq_some_iff_append.1 h).1
    exact ⟨List.mem_of_find?_eq_some h, .inr ⟨by simpa using full, by simpa [Option.any_eq_true] using revoked,
      fun j hj hlt => by simpa [Option.any_eq_false] using lowest j hj hlt⟩⟩

/-- A bucket of live entries has no place. -/
theorem enrolKey_eq_none (h : ∀ k ∈ bucketKeys b, ∃ e, s.cards.get k = some e ∧ e.state ≠ .REVOKED) : s.enrolKey b = none := by
  have occupied : (bucketKeys b).find? (fun k => (s.cards.get k).isNone) = none := by
    refine List.find?_eq_none.2 fun k hk => ?_
    obtain ⟨e, he, -⟩ := h k hk
    simp [he]
  have live : (bucketKeys b).find? (fun k => (s.cards.get k).any (fun e => decide (e.state = .REVOKED))) = none := by
    refine List.find?_eq_none.2 fun k hk => ?_
    obtain ⟨e, he, hs⟩ := h k hk
    simp [he, hs]
  simp only [State.enrolKey, occupied, live]

/-- A bucket with a free place or a REVOKED entry has a place. -/
theorem exists_enrolKey (h : ∃ k ∈ bucketKeys b, ∀ e, s.cards.get k = some e → e.state = .REVOKED) :
    ∃ k, s.enrolKey b = some k := by
  obtain ⟨k, hk, revoked⟩ := h
  unfold State.enrolKey
  split
  · exact ⟨_, rfl⟩
  · rename_i full
    obtain ⟨e, he⟩ := Option.ne_none_iff_exists'.1 (by simpa using List.find?_eq_none.1 full k hk)
    refine Option.isSome_iff_exists.1 (List.find?_isSome.2 ⟨k, hk, ?_⟩)
    simp [he, revoked e he]

end Enrol

theorem enrolled_keeps (s : State) (k : Nat) (e : CardEntry) : Keeps [.cards] s (s.enrolled k e) := by
  unfold State.enrolled
  dsimp only
  split
  · exact (withCards_keeps s _).trans (withCards_keeps _ _)
  · exact withCards_keeps s _

/-- After an enrolment at a place that holds no live entry, every other place holds what it held, but that an ACTIVE enrolment has
revoked the person's ACTIVE card. -/
theorem enrolled_get (wf : s.cards.wf = true) (place : ∀ old, s.cards.get k = some old → old.state = .REVOKED) (j : Nat) :
    (s.enrolled k e).cards.get j = if j = k then some e else
      (s.cards.get j).map (fun x => if e.state = .ACTIVE ∧ s.activeCard e.slot = some j then { x with state := .REVOKED } else x) := by
  unfold State.enrolled
  dsimp only
  split
  · rename_i o active former
    have elsewhere : o ≠ k := by
      rintro rfl
      obtain ⟨old, held, was⟩ := Table.get_of_findKey wf former
      have := place old held
      simp_all
    by_cases hj : j = k
    · subst hj
      simp [State.setCardState, Table.get_modify, elsewhere.symm]
    · by_cases ho : j = o
      · subst ho
        simp [State.setCardState, Table.get_modify, hj, active, former]
      · simp [State.setCardState, Table.get_modify, hj, ho, former, Ne.symm ho]
  · rename_i none_revoked
    have kept : ¬ (e.state = .ACTIVE ∧ s.activeCard e.slot = some j) := fun ⟨active, former⟩ => none_revoked j active former
    simp [kept]

/-- A card enrolled under a UID that the lookup did not find is found at its place. -/
theorem enrolled_cardKeyOf (wf : s.cards.wf = true) (place : ∀ old, s.cards.get k = some old → old.state = .REVOKED)
    (unknown : s.cardKeyOf e.uid = none) (hk : k ∈ bucketKeys (s.bucketOf e.uid)) :
    (s.enrolled k e).cardKeyOf e.uid = some k := by
  have bucket : (s.enrolled k e).bucketOf e.uid = s.bucketOf e.uid := by
    have params : (s.enrolled k e).params = s.params := enrolled_keeps s k e .params (by simp)
    simp [State.bucketOf, params]
  cases found : (s.enrolled k e).cardKeyOf e.uid with
  | none => exact absurd rfl (cardKeyOf_eq_none.1 found k (by rwa [bucket]) e (by rw [enrolled_get wf place, if_pos rfl]))
  | some j =>
    obtain ⟨hj, x, held, same⟩ := cardKeyOf_eq_some found
    rw [bucket] at hj
    rw [enrolled_get wf place] at held
    by_cases here : j = k
    · rw [here]
    · rw [if_neg here] at held
      obtain ⟨old, was, rfl⟩ := Option.map_eq_some_iff.1 held
      refine absurd ?_ (cardKeyOf_eq_none.1 unknown j hj old was)
      rw [← same]
      split <;> rfl

/-! ## CARD ENROL by its checks -/

theorem cardState_of_lt {state : Nat} (h : state < 2) :
    CardState.ofCode state = some (if state = 0 then .ACTIVE else .SUSPENDED) := by
  obtain rfl | rfl : state = 0 ∨ state = 1 := by omega
  all_goals rfl

theorem cardState_of_le {state : Nat} (h : 2 ≤ state) : CardState.ofCode state = none := by
  obtain ⟨n, rfl⟩ := Nat.exists_eq_add_of_le' h
  rfl

theorem cardEnrolWork_of_range {slot state : Nat} (h : uidOf u = none ∨ 8192 ≤ slot ∨ 2 ≤ state) :
    s.cardEnrolWork u slot issue state = s.refuse .OUT_OF_RANGE := by
  unfold State.cardEnrolWork
  split
  · rename_i hu hst
    have slots : Config.personSlots ≤ slot := by
      rcases h with h | h | h
      · simp [h] at hu
      · exact h
      · simp [cardState_of_le h] at hst
    exact if_pos slots
  · rfl

/-- CARD ENROL with its operands in range: the checks of R16, then the place. -/
theorem cardEnrolWork_of_inRange {slot state : Nat} (hu : uidOf u = some uid) (hslot : slot < 8192) (hst : state < 2) :
    s.cardEnrolWork u slot issue state =
      if (s.persons.get slot).isNone then s.refuse .NOT_FOUND
      else if (s.cardKeyOf uid).isSome then s.refuse .EXISTS
      else
        match s.enrolKey (s.bucketOf uid) with
        | none => s.refuse .FULL
        | some k => (s.enrolled k ⟨uid, slot, issue, if state = 0 then .ACTIVE else .SUSPENDED⟩).done := by
  unfold State.cardEnrolWork
  simp only [hu, cardState_of_lt hst]
  exact if_neg (by simpa using hslot)

/-- Settles O15: the lookup is a search of the eight places of one bucket, and an enrolment takes the first place that holds no live
entry. -/
theorem lookupAndEnrol : Obligations.LookupAndEnrol := by
  refine ⟨fun s u => ⟨fun k hk => ?_, ?_, lookup_eq_none⟩, fun s tag u slot issue state ready => ⟨fun bad => ?_, fun uid hu hslot hst => ?_⟩⟩
  · obtain ⟨hmem, e, held, same⟩ := cardKeyOf_eq_some hk
    obtain ⟨pos, hpos, rfl⟩ := mem_bucketKeys.1 hmem
    exact ⟨pos, e, hpos, rfl, held, same, (lookup_of_cardKeyOf hk).trans held⟩
  · rw [cardKeyOf_eq_none]
    constructor
    · exact fun h pos e hpos => h _ (mem_bucketKeys.2 ⟨pos, hpos, rfl⟩) e
    · rintro h k hk e
      obtain ⟨pos, hpos, rfl⟩ := mem_bucketKeys.1 hk
      exact h pos e hpos
  · exact refused_of_serve rfl ready rfl (cardEnrolWork_of_range bad)
  · have work := cardEnrolWork_of_inRange (s := s) (issue := issue) hu hslot hst
    refine ⟨fun nobody => ?_, fun person known => ?_, fun person unknown full => ?_, fun person unknown wf room => ?_⟩
    · exact refused_of_serve rfl ready rfl (work.trans (by simp [nobody]))
    · exact refused_of_serve rfl ready rfl (work.trans (by simp [person, Option.isSome_iff_ne_none.2 known]))
    · exact refused_of_serve rfl ready rfl (work.trans (by simp [person, unknown, enrolKey_eq_none full]))
    · obtain ⟨k, hk⟩ := exists_enrolKey room
      obtain ⟨hmem, place⟩ := enrolKey_place hk
      have dead : ∀ old, s.cards.get k = some old → old.state = .REVOKED := by
        intro old held
        rcases place with ⟨free, -⟩ | ⟨-, ⟨e, he, revoked⟩, -⟩
        · simp [free] at held
        · simp_all
      refine ⟨s.enrolled k ⟨uid, slot, issue, if state = 0 then .ACTIVE else .SUSPENDED⟩, k,
        answers_ok_of_serve rfl ready rfl (work.trans (by simp [person, unknown, hk])), enrolled_keeps s k _, hmem, place, ?_,
        enrolled_cardKeyOf (e := ⟨uid, slot, issue, _⟩) wf dead unknown hmem, fun j hj => ?_⟩
      · simp [enrolled_get wf dead]
      · have active : (if state = 0 then CardState.ACTIVE else .SUSPENDED) = .ACTIVE ↔ state = 0 := by
          by_cases h : state = 0 <;> simp [h]
        simp only [enrolled_get wf dead, if_neg hj, active]

end Sys2Proof.Machine
end

section
/-! PROOFS. Which fields of a PERSON PUT are a person's (R2), and the checks of PERSON PUT in order (R6). -/

namespace Sys2Proof.Machine

open Sys2Proof

/-! ## Enumerations and flags -/

theorem category_ofCode_eq_some {n : Nat} {c : Category} : Category.ofCode n = some c ↔ n = c.ctorIdx := by
  constructor
  · unfold Category.ofCode
    split <;> rintro ⟨⟩ <;> rfl
  · rintro rfl
    cases c <;> rfl

theorem exists_category {n : Nat} : (∃ c, Category.ofCode n = some c) ↔ n ≤ 2 := by
  simp only [category_ofCode_eq_some]
  constructor
  · rintro ⟨c, rfl⟩
    cases c <;> decide
  · intro h
    match n, h with
    | 0, _ => exact ⟨.GUEST, rfl⟩
    | 1, _ => exact ⟨.CREW, rfl⟩
    | 2, _ => exact ⟨.VISITOR, rfl⟩

theorem yesNo_eq_some {n : Nat} {b : Bool} : yesNo n = some b ↔ n ≤ 1 ∧ b = decide (n = 1) := by
  match n with
  | 0 => simp [yesNo, eq_comm]
  | 1 => simp [yesNo, eq_comm]
  | n + 2 => simp [yesNo]

/-! ## The fields of R2 -/

theorem noRepeats_iff (l : List Nat) : noRepeats l = true ↔ l.Nodup := by
  induction l with
  | nil => simp [noRepeats]
  | cons x rest ih => simp [noRepeats, ih]

theorem shiftInRange_iff (w : Option (Nat × Nat)) :
    shiftInRange w = true ↔ ∀ a b, w = some (a, b) → a ≤ 86399 ∧ b ≤ 86399 ∧ a ≠ b := by
  rcases w with _ | ⟨a, b⟩
  · simp [shiftInRange]
  · simp [shiftInRange, and_assoc]

theorem stayInRange_iff (w : Option (Nat × Nat)) :
    stayInRange w = true ↔ ∀ a b, w = some (a, b) → a ≤ b ∧ b ≤ 4294967295 := by
  rcases w with _ | ⟨a, b⟩
  · simp [stayInRange]
  · simp [stayInRange]

/-- The ranges and conditions of R2 for a person of a category. -/
theorem personInRange_iff (f : PersonFields) (c : Category) : personInRange f c = true ↔
    f.id ≤ 4294967295 ∧ f.zones ≤ 4294967295 ∧ f.roles ≤ 3 ∧ (c ≠ .CREW → f.roles = 0)
    ∧ (∀ a b, f.shift = some (a, b) → a ≤ 86399 ∧ b ≤ 86399 ∧ a ≠ b)
    ∧ (∀ a b, f.stay = some (a, b) → a ≤ b ∧ b ≤ 4294967295)
    ∧ f.cabins.length ≤ 2 ∧ (∀ n ∈ f.cabins, 1 ≤ n ∧ n ≤ 9999) ∧ f.cabins.Nodup ∧ (c = .VISITOR → f.cabins = [])
    ∧ (∀ n, f.folio = some n → n ≤ 4095) ∧ (∀ n, f.childCap = some n → n ≤ 99999999) := by
  have crew : (decide (c = .CREW) || decide (f.roles = 0)) = true ↔ (c ≠ .CREW → f.roles = 0) := by
    by_cases h : c = .CREW <;> simp [h]
  have visitor : (decide (c ≠ .VISITOR) || f.cabins.isEmpty) = true ↔ (c = .VISITOR → f.cabins = []) := by
    by_cases h : c = .VISITOR <;> simp [h]
  simp only [personInRange, Bool.and_eq_true, shiftInRange_iff, stayInRange_iff, noRepeats_iff, crew, visitor,
    List.all_eq_true, Option.all_eq_true, decide_eq_true_eq, Nat.lt_succ_iff, and_assoc]

/-- The identity that fields in range name, for a person of the category they name. -/
def identityFor (f : PersonFields) (category : Category) : Identity where
  id          := f.id
  category    := category
  service     := bitOf f.roles 0
  emergency   := bitOf f.roles 1
  zones       := BitVec.ofNat 32 f.zones
  shift       := f.shift
  stay        := f.stay
  cabins      := f.cabins
  folio       := f.folio
  alcohol     := decide (f.alcohol = 1)
  childCap    := f.childCap
  chargeHold  := decide (f.chargeHold = 1)
  gangwayHold := decide (f.gangwayHold = 1)
  excused     := decide (f.excused = 1)

/-- Fields name an identity exactly when their enumerations name values and the rest of R2 holds for the category. -/
theorem identityOf_eq_some {f : PersonFields} {i : Identity} : identityOf f = some i ↔
    ∃ c, Category.ofCode f.category = some c ∧ (f.alcohol ≤ 1 ∧ f.chargeHold ≤ 1 ∧ f.gangwayHold ≤ 1 ∧ f.excused ≤ 1)
      ∧ personInRange f c = true ∧ identityFor f c = i := by
  unfold identityOf
  split
  · rename_i c alcohol chargeHold gangwayHold excused hc ha hch hg he
    rw [yesNo_eq_some] at ha hch hg he
    obtain ⟨ha, rfl⟩ := ha
    obtain ⟨hch, rfl⟩ := hch
    obtain ⟨hg, rfl⟩ := hg
    obtain ⟨he, rfl⟩ := he
    simp only [hc, ha, hch, hg, he, Option.some.injEq, exists_eq_left', true_and]
    split
    · rename_i inRange
      simp only [inRange, true_and, Option.some.injEq]
      exact Iff.rfl
    · rename_i outOfRange
      simp [outOfRange]
  · rename_i notAll
    constructor
    · intro h
      cases h
    · rintro ⟨c, hc, ⟨ha, hch, hg, he⟩, -⟩
      exact (notAll c _ _ _ _ hc (yesNo_eq_some.2 ⟨ha, rfl⟩) (yesNo_eq_some.2 ⟨hch, rfl⟩) (yesNo_eq_some.2 ⟨hg, rfl⟩)
        (yesNo_eq_some.2 ⟨he, rfl⟩)).elim

theorem ctorIdx_ne_crew {c : Category} : c.ctorIdx ≠ 1 ↔ c ≠ .CREW := by cases c <;> decide

theorem ctorIdx_eq_visitor {c : Category} : c.ctorIdx = 2 ↔ c = .VISITOR := by cases c <;> decide

/-- R2 for the fields of a PERSON PUT, whatever category they name. -/
theorem exists_identity (f : PersonFields) : (∃ i, identityOf f = some i) ↔
    f.category ≤ 2 ∧ f.alcohol ≤ 1 ∧ f.chargeHold ≤ 1 ∧ f.gangwayHold ≤ 1 ∧ f.excused ≤ 1 ∧ f.id ≤ 4294967295
      ∧ f.zones ≤ 4294967295 ∧ f.roles ≤ 3 ∧ (f.category ≠ 1 → f.roles = 0)
      ∧ (∀ a b, f.shift = some (a, b) → a ≤ 86399 ∧ b ≤ 86399 ∧ a ≠ b)
      ∧ (∀ a b, f.stay = some (a, b) → a ≤ b ∧ b ≤ 4294967295)
      ∧ f.cabins.length ≤ 2 ∧ (∀ n ∈ f.cabins, 1 ≤ n ∧ n ≤ 9999) ∧ f.cabins.Nodup ∧ (f.category = 2 → f.cabins = [])
      ∧ (∀ n, f.folio = some n → n ≤ 4095) ∧ (∀ n, f.childCap = some n → n ≤ 99999999) := by
  have named : (∃ i, identityOf f = some i) ↔ ∃ c, Category.ofCode f.category = some c
      ∧ (f.alcohol ≤ 1 ∧ f.chargeHold ≤ 1 ∧ f.gangwayHold ≤ 1 ∧ f.excused ≤ 1) ∧ personInRange f c = true := by
    simp only [identityOf_eq_some]
    constructor
    · rintro ⟨_, c, hc, flags, inRange, -⟩
      exact ⟨c, hc, flags, inRange⟩
    · rintro ⟨c, hc, flags, inRange⟩
      exact ⟨_, c, hc, flags, inRange, rfl⟩
  rw [named]
  constructor
  · rintro ⟨c, hc, ⟨ha, hch, hg, he⟩, inRange⟩
    rw [personInRange_iff, ← ctorIdx_ne_crew, ← ctorIdx_eq_visitor, ← category_ofCode_eq_some.1 hc] at inRange
    exact ⟨exists_category.1 ⟨c, hc⟩, ha, hch, hg, he, inRange⟩
  · rintro ⟨hcat, ha, hch, hg, he, inRange⟩
    obtain ⟨c, hc⟩ := exists_category.2 hcat
    refine ⟨c, hc, ⟨ha, hch, hg, he⟩, ?_⟩
    rw [personInRange_iff, ← ctorIdx_ne_crew, ← ctorIdx_eq_visitor, ← category_ofCode_eq_some.1 hc]
    exact inRange

/-- What R2 says of the cabins of a person's identity. -/
theorem nodup_cabins_of_identity {f : PersonFields} {i : Identity} (h : identityOf f = some i) : i.cabins.Nodup := by
  obtain ⟨c, -, -, inRange, rfl⟩ := identityOf_eq_some.1 h
  obtain ⟨-, -, -, -, -, -, -, -, nodup, -⟩ := (personInRange_iff f c).1 inRange
  exact nodup

/-! ## The checks of R6 -/

section Checks

variable {s : State} {slot : Nat} {f : PersonFields} {i : Identity}

theorem personIdElsewhere_iff {id : Nat} :
    s.personIdElsewhere slot id = true ↔ ∃ cell ∈ s.persons.cells, cell.1 ≠ slot ∧ cell.2.ident.id = id := by
  simp [State.personIdElsewhere]

theorem namesExist_eq_false : s.namesExist i = false ↔
    (∃ n ∈ i.cabins, s.cabinSlot n = none) ∨ (∃ n, i.folio = some n ∧ s.folios.get n = none) := by
  rw [← Bool.not_eq_true, State.namesExist, Bool.and_eq_true, Classical.not_and_iff_not_or_not]
  cases i.folio <;> simp

theorem idChanged_iff {p : Option Person} {id : Nat} :
    p.any (fun p => decide (p.ident.id ≠ id)) = true ↔ ∃ q, p = some q ∧ q.ident.id ≠ id := by
  simp [Option.any_eq_true]

theorem joinsFullCabin_iff {cabins : List Nat} : s.joinsFullCabin slot cabins = true ↔
    ∃ n ∈ cabins, n ∉ s.presentCabins slot ∧ ∃ cb, s.cabin? n = some cb ∧ 6 ≤ cb.occupants.length := by
  simp [State.joinsFullCabin, Option.any_eq_true]

theorem personPutRefusal_of_range (h : 8192 ≤ slot ∨ identityOf f = none) : s.personPutRefusal slot f = some .OUT_OF_RANGE := by
  unfold State.personPutRefusal
  split
  · rfl
  · rename_i named
    exact if_pos (h.resolve_right (by simp [named]))

/-- The checks of R6 after the ranges, in order. -/
theorem personPutRefusal_of_identity (hslot : slot < 8192) (hi : identityOf f = some i) : s.personPutRefusal slot f =
    if s.personIdElsewhere slot i.id then some .EXISTS
    else if (s.persons.get slot).any (fun p => decide (p.ident.id ≠ i.id)) then some .WRONG_STATE
    else if s.crossingNames slot || s.holdNames slot then some .IN_USE
    else if !s.namesExist i then some .NOT_FOUND
    else if s.joinsFullCabin slot i.cabins then some .FULL
    else none := by
  simp only [State.personPutRefusal, hi]
  exact if_neg (Nat.not_le.2 hslot)

theorem personPutWork_refused {status : Status} (h : s.personPutRefusal slot f = some status) :
    s.personPutWork slot f = s.refuse status := by
  simp [State.personPutWork, h]

theorem personPutWork_accepted (h : s.personPutRefusal slot f = none) (hi : identityOf f = some i) :
    s.personPutWork slot f = (s.personWritten slot i).done := by
  simp [State.personPutWork, h, hi]

end Checks

/-- Settles O12: the ranges of R2 decide first, and each later check is reached when those before it have passed. -/
theorem personPutRefusals : Obligations.PersonPutRefusals := by
  intro s tag slot f ready
  have refused : ∀ {status}, s.personPutRefusal slot f = some status → Refused (.personPut tag slot f) s status :=
    fun h => refused_of_serve rfl ready rfl (personPutWork_refused h)
  refine ⟨exists_identity f, fun i hi => ?_, fun bad => refused (personPutRefusal_of_range bad), fun i hslot hi => ?_⟩
  · obtain ⟨c, hc, -, -, rfl⟩ := identityOf_eq_some.1 hi
    exact ⟨rfl, (category_ofCode_eq_some.1 hc).symm, rfl, rfl, rfl, rfl, rfl, rfl, rfl, rfl, rfl, rfl, rfl, rfl⟩
  · have checks := personPutRefusal_of_identity (s := s) hslot hi
    simp only [← personIdElsewhere_iff, ← idChanged_iff, ← namesExist_eq_false, ← joinsFullCabin_iff, ← Bool.or_eq_true]
    refine ⟨fun elsewhere => refused (checks.trans ?_), fun elsewhere another => refused (checks.trans ?_),
      fun elsewhere another inUse => refused (checks.trans ?_),
      fun elsewhere another inUse missing => refused (checks.trans ?_),
      fun elsewhere another inUse missing full => refused (checks.trans ?_),
      fun elsewhere another inUse missing full => ⟨_, answers_ok_of_serve rfl ready rfl
        (personPutWork_accepted (checks.trans ?_) hi)⟩⟩
    · rw [if_pos elsewhere]
    · rw [if_neg elsewhere, if_pos another]
    · rw [if_neg elsewhere, if_neg another, if_pos inUse]
    · rw [if_neg elsewhere, if_neg another, if_neg inUse, if_pos (by simpa using missing)]
    · rw [if_neg elsewhere, if_neg another, if_neg inUse, if_neg (by simpa using missing), if_pos full]
    · rw [if_neg elsewhere, if_neg another, if_neg inUse, if_neg (by simpa using missing), if_neg full]

end Sys2Proof.Machine
end

section
/-! PROOFS. What a change handed to the cabins of a list makes of each cabin (R26, R27): each cabin named by the list is changed once, but
that a count fallen to 0 may also open its privacy and settle its owed flag; every other cabin is as it was. -/

namespace Sys2Proof.Machine

open Sys2Proof

/-- The cabin `d` is the cabin `c` but for its privacy and its owed flag, the fields that a privacy lapse writes (R27, R28). -/
def Cabin.AgreesWith (c d : Cabin) : Prop := ∃ privacy owed, d = { c with privacy := privacy, owed := owed }

/-- What becomes of a cabin that is handed a change: the changed record, with a privacy lapse only when its aboard count fell from 1
to 0. -/
def Cabin.ChangedBy (change : Cabin → Cabin) (c d : Cabin) : Prop :=
  (change c).AgreesWith d ∧ (¬ (c.aboard = 1 ∧ (change c).aboard = 0) → d = change c)

variable {s : State} {change : Cabin → Cabin} {k n : Nat} {c : Cabin}

theorem cabinBecomes_cabins (k : Nat) (c : Cabin) :
    ∃ d, (s.cabinBecomes k c (change c)).cabins = s.cabins.set k d ∧ Cabin.ChangedBy change c d := by
  have lapsed : ∀ owed, c.aboard = 1 ∧ (change c).aboard = 0 →
      Cabin.ChangedBy change c { change c with privacy := .OPEN, owed := owed } :=
    fun owed fell => ⟨⟨.OPEN, owed, rfl⟩, fun stayed => absurd fell stayed⟩
  unfold State.cabinBecomes
  split
  · rename_i lapse
    have fell : c.aboard = 1 ∧ (change c).aboard = 0 := ⟨lapse.1, lapse.2.1⟩
    split
    · exact ⟨_, rfl, lapsed _ fell⟩
    · split <;> exact ⟨_, rfl, lapsed _ fell⟩
  · exact ⟨change c, rfl, ⟨(change c).privacy, (change c).owed, rfl⟩, fun _ => rfl⟩

/-! ## One cabin number -/

theorem cabin_of_cabinSlot (wf : s.cabins.wf = true) (h : s.cabinSlot n = some k) :
    ∃ c, s.cabins.get k = some c ∧ c.number = n := by
  simpa using Table.get_of_findKey wf h

theorem cabinsChanged_cons (change : Cabin → Cabin) (n : Nat) (ns : List Nat) :
    s.cabinsChanged change (n :: ns) = (s.cabinsChanged change [n]).cabinsChanged change ns := rfl

theorem cabinsChanged_of_noCabin (h : s.cabinSlot n = none) : s.cabinsChanged change [n] = s := by
  simp [State.cabinsChanged, h]

theorem cabinsChanged_of_cabin (h : s.cabinSlot n = some k) (hc : s.cabins.get k = some c) :
    s.cabinsChanged change [n] = s.cabinBecomes k c (change c) := by
  simp [State.cabinsChanged, h, hc]

/-- The cabin that a number finds is changed by it, and no other cabin is. -/
theorem cabin_changedOne (wf : s.cabins.wf = true) (n : Nat) (hc : s.cabins.get k = some c) :
    ∃ d, (s.cabinsChanged change [n]).cabins.get k = some d
      ∧ (c.number = n ∧ s.cabinSlot n = some k → Cabin.ChangedBy change c d)
      ∧ (¬ (c.number = n ∧ s.cabinSlot n = some k) → d = c) := by
  cases h : s.cabinSlot n with
  | none =>
    rw [cabinsChanged_of_noCabin h]
    exact ⟨c, hc, fun found => by simp at found, fun _ => rfl⟩
  | some j =>
    obtain ⟨x, hx, named⟩ := cabin_of_cabinSlot wf h
    obtain ⟨d, cabins, changed⟩ := cabinBecomes_cabins (s := s) (change := change) j x
    rw [cabinsChanged_of_cabin h hx, cabins, Table.get_set]
    by_cases here : k = j
    · subst here
      obtain rfl : x = c := Option.some.inj (hx.symm.trans hc)
      exact ⟨d, if_pos rfl, fun _ => changed, fun other => absurd ⟨named, rfl⟩ other⟩
    · exact ⟨c, (if_neg here).trans hc, fun found => absurd (Option.some.inj found.2).symm here, fun _ => rfl⟩

theorem noCabin_changedOne (wf : s.cabins.wf = true) (n : Nat) (hc : s.cabins.get k = none) :
    (s.cabinsChanged change [n]).cabins.get k = none := by
  cases h : s.cabinSlot n with
  | none => rwa [cabinsChanged_of_noCabin h]
  | some j =>
    obtain ⟨x, hx, -⟩ := cabin_of_cabinSlot wf h
    obtain ⟨d, cabins, -⟩ := cabinBecomes_cabins (s := s) (change := change) j x
    have elsewhere : k ≠ j := by
      rintro rfl
      simp [hc] at hx
    rwa [cabinsChanged_of_cabin h hx, cabins, Table.get_set, if_neg elsewhere]

theorem noCabin_changed (wf : s.cabins.wf = true) (ns : List Nat) (hc : s.cabins.get k = none) :
    (s.cabinsChanged change ns).cabins.get k = none := by
  induction ns generalizing s with
  | nil => exact hc
  | cons n ns ih => exact ih (cabinsChanged_wf s change [n] wf) (noCabin_changedOne wf n hc)

/-! ## The cabins of a list -/

variable (number : ∀ c, (change c).number = c.number)

include number

theorem Cabin.ChangedBy.number_eq {d : Cabin} (h : Cabin.ChangedBy change c d) : d.number = c.number := by
  obtain ⟨⟨privacy, owed, rfl⟩, -⟩ := h
  exact number c

/-- A change that keeps the cabin numbers keeps what each number finds. -/
theorem cabinSlot_changedOne (wf : s.cabins.wf = true) (n m : Nat) :
    (s.cabinsChanged change [n]).cabinSlot m = s.cabinSlot m := by
  cases h : s.cabinSlot n with
  | none => rw [cabinsChanged_of_noCabin h]
  | some k =>
    obtain ⟨c, hc, -⟩ := cabin_of_cabinSlot wf h
    obtain ⟨d, cabins, changed⟩ := cabinBecomes_cabins (s := s) (change := change) k c
    rw [cabinsChanged_of_cabin h hc, State.cabinSlot, cabins]
    exact Table.findKey_set wf hc (by rw [changed.number_eq number])

theorem cabinSlot_changed (wf : s.cabins.wf = true) (ns : List Nat) (m : Nat) :
    (s.cabinsChanged change ns).cabinSlot m = s.cabinSlot m := by
  induction ns generalizing s with
  | nil => rfl
  | cons n ns ih =>
    rw [cabinsChanged_cons, ih (cabinsChanged_wf s change [n] wf), cabinSlot_changedOne number wf]

/-- A list without repeats changes each cabin that its numbers find once, and no other cabin. -/
theorem cabin_changed (wf : s.cabins.wf = true) {ns : List Nat} (nodup : ns.Nodup) (hc : s.cabins.get k = some c) :
    ∃ d, (s.cabinsChanged change ns).cabins.get k = some d
      ∧ (c.number ∈ ns ∧ s.cabinSlot c.number = some k → Cabin.ChangedBy change c d)
      ∧ (¬ (c.number ∈ ns ∧ s.cabinSlot c.number = some k) → d = c) := by
  induction ns generalizing s c with
  | nil => exact ⟨c, hc, fun found => absurd found.1 List.not_mem_nil, fun _ => rfl⟩
  | cons n ns ih =>
    obtain ⟨fresh, nodup⟩ := List.nodup_cons.1 nodup
    obtain ⟨d, hd, changed, same⟩ := cabin_changedOne wf n hc
    obtain ⟨e, he, changedLater, sameLater⟩ := ih (cabinsChanged_wf s change [n] wf) nodup hd
    rw [cabinSlot_changedOne number wf] at changedLater sameLater
    refine ⟨e, he, ?_⟩
    by_cases first : c.number = n ∧ s.cabinSlot n = some k
    · have hcd := changed first
      have later : e = d := sameLater fun found => fresh (by rw [← first.1, ← hcd.number_eq number]; exact found.1)
      rw [later]
      exact ⟨fun _ => hcd, fun other => absurd ⟨by simp [first.1], by rw [first.1]; exact first.2⟩ other⟩
    · obtain rfl : d = c := same first
      have onlyLater : d.number ∈ n :: ns ∧ s.cabinSlot d.number = some k ↔ d.number ∈ ns ∧ s.cabinSlot d.number = some k := by
        constructor
        · rintro ⟨mem, found⟩
          rcases List.mem_cons.1 mem with rfl | mem
          · exact absurd ⟨rfl, found⟩ first
          · exact ⟨mem, found⟩
        · exact fun ⟨mem, found⟩ => ⟨List.mem_cons_of_mem _ mem, found⟩
      rw [onlyLater]
      exact ⟨changedLater, sameLater⟩

omit number

/-! ## What a hand-off to the cabins reads and leaves -/

theorem cabinBecomes_keeps (s : State) (k : Nat) (c d : Cabin) : Keeps [.cabins, .lines] s (s.cabinBecomes k c d) := by
  unfold State.cabinBecomes
  split
  · split
    · intro p hp; cases p <;> first | rfl | simp at hp
    · split <;> (intro p hp; cases p <;> first | rfl | simp at hp)
  · intro p hp; cases p <;> first | rfl | simp at hp

theorem cabinsChanged_keeps (s : State) (change : Cabin → Cabin) (ns : List Nat) :
    Keeps [.cabins, .lines] s (s.cabinsChanged change ns) := by
  refine keeps_foldl _ (fun u n => ?_) ns s
  split
  · exact keeps_refl _ u
  · split
    · exact keeps_refl _ u
    · exact cabinBecomes_keeps u _ _ _

/-- A hand-off to a cabin neither reads nor writes persons and cards. -/
theorem cabinBecomes_with (persons : Table Person) (cards : Table CardEntry) (k : Nat) (c d : Cabin) :
    ({ s with persons := persons, cards := cards } : State).cabinBecomes k c d
      = { s.cabinBecomes k c d with persons := persons, cards := cards } := by
  unfold State.cabinBecomes
  dsimp only
  split
  · cases c.doorHead with
    | none => rfl
    | some h =>
      have online : ({ s with persons := persons, cards := cards } : State).online h = s.online h := rfl
      have line : ({ s with persons := persons, cards := cards } : State).line h.line = s.line h.line := rfl
      simp only [online, line]
      split <;> rfl
  · rfl

/-- A hand-off to the cabins of a list neither reads nor writes persons and cards. -/
theorem cabinsChanged_with (persons : Table Person) (cards : Table CardEntry) (change : Cabin → Cabin) (ns : List Nat) :
    ({ s with persons := persons, cards := cards } : State).cabinsChanged change ns
      = { s.cabinsChanged change ns with persons := persons, cards := cards } := by
  induction ns generalizing s with
  | nil => rfl
  | cons n ns ih =>
    rw [cabinsChanged_cons, cabinsChanged_cons (s := s), ← ih]
    congr 1
    have slot : ({ s with persons := persons, cards := cards } : State).cabinSlot n = s.cabinSlot n := rfl
    cases h : s.cabinSlot n with
    | none => rw [cabinsChanged_of_noCabin h, cabinsChanged_of_noCabin (slot.trans h)]
    | some k =>
      cases hc : s.cabins.get k with
      | none => simp [State.cabinsChanged, slot, h, hc]
      | some c => rw [cabinsChanged_of_cabin h hc, cabinsChanged_of_cabin (slot.trans h) hc, cabinBecomes_with]

theorem cabinsChanged_withPersons (persons : Table Person) (change : Cabin → Cabin) (ns : List Nat) :
    ({ s with persons := persons } : State).cabinsChanged change ns = { s.cabinsChanged change ns with persons := persons } := by
  have cards : (s.cabinsChanged change ns).cards = s.cards := cabinsChanged_keeps s change ns .cards (by simp)
  exact (cabinsChanged_with persons s.cards change ns).trans (by rw [← cards])

theorem cabinsChanged_withCards (cards : Table CardEntry) (change : Cabin → Cabin) (ns : List Nat) :
    ({ s with cards := cards } : State).cabinsChanged change ns = { s.cabinsChanged change ns with cards := cards } := by
  have persons : (s.cabinsChanged change ns).persons = s.persons := cabinsChanged_keeps s change ns .persons (by simp)
  exact (cabinsChanged_with s.persons cards change ns).trans (by rw [← persons])

end Sys2Proof.Machine
end

section
/-! PROOFS. What an accepted PERSON PUT writes and hands over (R7, R8), and what an accepted PERSON DROP takes away (R10). -/

namespace Sys2Proof.Machine

open Sys2Proof

variable {s : State} {slot k : Nat}

/-! ## A person leaves and joins cabins -/

/-- The hand-offs of R8 to the cabins: the person leaves those dropped from the list and then joins those added to it. -/
def State.cabinsMoved (s : State) (slot : Nat) (p : Presence) (old new : List Nat) : State :=
  (s.cabinsChanged (Cabin.left slot p) (old.filter (fun n => decide (n ∉ new)))).cabinsChanged (Cabin.joined slot p)
    (new.filter (fun n => decide (n ∉ old)))

theorem moveCabins_eq (p : Presence) (old new : List Nat) : s.moveCabins slot p old new = s.cabinsMoved slot p old new := by
  simp [State.moveCabins, State.cabinsMoved, leaveCabins_eq, joinCabins_eq]

theorem cabinsMoved_keeps (s : State) (slot : Nat) (p : Presence) (old new : List Nat) :
    Keeps [.cabins, .lines] s (s.cabinsMoved slot p old new) :=
  (cabinsChanged_keeps s _ _).trans (cabinsChanged_keeps _ _ _)

/-- A new person joins every cabin of the list. -/
theorem cabinsMoved_nil (p : Presence) (new : List Nat) :
    s.cabinsMoved slot p [] new = s.cabinsChanged (Cabin.joined slot p) new := by
  have all : new.filter (fun n => decide (n ∉ ([] : List Nat))) = new := List.filter_eq_self.2 fun n _ => by simp
  rw [State.cabinsMoved, all]
  rfl

/-- What a cabin that the person leaves becomes, whatever a privacy lapse makes of it. -/
theorem Cabin.ChangedBy.of_left {p : Presence} {c d : Cabin} (h : Cabin.ChangedBy (Cabin.left slot p) c d) :
    d.number = c.number ∧ d.ring = c.ring ∧ d.deadbolt = c.deadbolt ∧ d.occupants = c.occupants.erase slot
      ∧ d.aboard = if p = .ABOARD then c.aboard - 1 else c.aboard := by
  obtain ⟨⟨privacy, owed, rfl⟩, -⟩ := h
  exact ⟨rfl, rfl, rfl, rfl, rfl⟩

/-- A cabin that a person joins is changed by the joining alone: its aboard count does not fall. -/
theorem Cabin.ChangedBy.of_joined {p : Presence} {c d : Cabin} (h : Cabin.ChangedBy (Cabin.joined slot p) c d) :
    d = Cabin.joined slot p c := by
  refine h.2 ?_
  rintro ⟨one, zero⟩
  simp only [Cabin.joined, one] at zero
  split at zero <;> cases zero

/-- Each cabin after the hand-offs of R8: left, joined or as it was, by the two lists. -/
theorem cabin_moved {p : Presence} {old new : List Nat} (wf : s.cabins.wf = true) (hold : old.Nodup) (hnew : new.Nodup) {c : Cabin}
    (hc : s.cabins.get k = some c) :
    ∃ d, (s.cabinsMoved slot p old new).cabins.get k = some d
      ∧ ((s.cabinSlot c.number = some k ∧ c.number ∈ old ∧ c.number ∉ new ∧ Cabin.ChangedBy (Cabin.left slot p) c d)
        ∨ (s.cabinSlot c.number = some k ∧ c.number ∉ old ∧ c.number ∈ new ∧ d = Cabin.joined slot p c)
        ∨ ((s.cabinSlot c.number = some k → (c.number ∈ old ↔ c.number ∈ new)) ∧ d = c)) := by
  have numbers : ∀ c, (Cabin.left slot p c).number = c.number := fun _ => rfl
  obtain ⟨d, hd, left, notLeft⟩ := cabin_changed numbers wf (hold.filter (fun n => decide (n ∉ new))) hc
  obtain ⟨e, he, joined, notJoined⟩ := cabin_changed (change := Cabin.joined slot p) (fun _ => rfl) (cabinsChanged_wf s _ _ wf)
    (hnew.filter (fun n => decide (n ∉ old))) hd
  rw [cabinSlot_changed numbers wf] at joined notJoined
  simp only [List.mem_filter, decide_eq_true_eq] at left notLeft joined notJoined
  refine ⟨e, he, ?_⟩
  by_cases leaves : (c.number ∈ old ∧ c.number ∉ new) ∧ s.cabinSlot c.number = some k
  · have hcd := left leaves
    have later : e = d := notJoined fun found => leaves.1.2 ((hcd.number_eq numbers) ▸ found.1.1)
    exact .inl ⟨leaves.2, leaves.1.1, leaves.1.2, later ▸ hcd⟩
  · obtain rfl : d = c := notLeft leaves
    by_cases joins : (d.number ∈ new ∧ d.number ∉ old) ∧ s.cabinSlot d.number = some k
    · exact .inr (.inl ⟨joins.2, joins.1.2, joins.1.1, (joined joins).of_joined⟩)
    · refine .inr (.inr ⟨fun found => ?_, notJoined joins⟩)
      constructor
      · exact fun ho => Decidable.byContradiction fun hn => leaves ⟨⟨ho, hn⟩, found⟩
      · exact fun hn => Decidable.byContradiction fun ho => joins ⟨⟨hn, ho⟩, found⟩

/-! ## PERSON PUT -/

/-- A person is written, moves between cabins, and the census and the Missing List get the old and new standing. -/
theorem writtenMovedHanded_eq (persons : Table Person) (p : Presence) (old new : List Nat) (a b : Option Standing) :
    (({ s with persons := persons } : State).moveCabins slot p old new).censusHandoff slot a b
      = { s.cabinsMoved slot p old new with persons := persons, census := s.census.handed a b, sweeper := s.sweeper.handed slot a b } := by
  have moved := cabinsMoved_keeps s slot p old new
  have census : (s.cabinsMoved slot p old new).census = s.census := moved .census (by simp)
  have sweeper : (s.cabinsMoved slot p old new).sweeper = s.sweeper := moved .sweeper (by simp)
  have withPersons : ({ s with persons := persons } : State).cabinsMoved slot p old new
      = { s.cabinsMoved slot p old new with persons := persons } := by
    simp only [State.cabinsMoved, cabinsChanged_withPersons]
  rw [moveCabins_eq, withPersons]
  simp only [State.censusHandoff, census, sweeper]

/-- R7: what an accepted PERSON PUT makes of an empty slot. -/
theorem personWritten_of_empty {i : Identity} (h : s.persons.get slot = none) : s.personWritten slot i =
    { s.cabinsChanged (Cabin.joined slot .UNKNOWN) i.cabins with
      persons := s.persons.set slot (Person.fresh i)
      census := s.census.handed none (some (Person.fresh i).standing) } := by
  have unlisted : s.sweeper.handed slot none (some (Person.fresh i).standing) = s.sweeper := by
    simp [Sweeper.handed, Standing.missing, Person.standing, Person.fresh]
  have sweeper : (s.cabinsChanged (Cabin.joined slot .UNKNOWN) i.cabins).sweeper = s.sweeper :=
    cabinsChanged_keeps s _ _ .sweeper (by simp)
  simp only [State.personWritten, h]
  rw [writtenMovedHanded_eq, cabinsMoved_nil, unlisted, ← sweeper]
  rfl

/-- R8: what an accepted PERSON PUT makes of an occupied slot. -/
theorem personWritten_of_occupied {i : Identity} {old : Person} (h : s.persons.get slot = some old) : s.personWritten slot i =
    { s.cabinsMoved slot old.presence old.ident.cabins i.cabins with
      persons := s.persons.set slot { old with ident := i }
      census := s.census.handed (some old.standing) (some ⟨i.category, old.presence, i.excused⟩)
      sweeper := s.sweeper.handed slot (some old.standing) (some ⟨i.category, old.presence, i.excused⟩) } := by
  simp only [State.personWritten, h]
  exact writtenMovedHanded_eq _ _ _ _ _ _

/-- Joining cabins with no one ABOARD touches no line: no aboard count falls. -/
theorem joinedUnknown_keeps (s : State) (slot : Nat) (ns : List Nat) :
    Keeps [.cabins] s (s.cabinsChanged (Cabin.joined slot .UNKNOWN) ns) := by
  rw [← joinCabins_eq]
  exact keeps_foldl _ (fun u n => joinCabin_keeps u slot .UNKNOWN n) ns s

/-- The census counts a new person UNKNOWN in its category, and nothing else. -/
theorem census_fresh (w : Census) (i : Identity) : w.handed none (some (Person.fresh i).standing) =
    match i.category with
    | .GUEST => { w with guest := { w.guest with unknown := w.guest.unknown + 1 } }
    | .CREW => { w with crew := { w.crew with unknown := w.crew.unknown + 1 } }
    | .VISITOR => { w with visitor := { w.visitor with unknown := w.visitor.unknown + 1 } } := by
  cases h : i.category <;>
    simp [Census.handed, Census.moved, Census.change, Buckets.change, countMoved, Standing.missing, Standing.visitorAboard,
      Person.standing, Person.fresh, h]

/-- Settles O13: on an empty slot every cabin of the list is joined; on an occupied one the person leaves the cabins dropped and joins
those added, and no cabin is both. -/
theorem personPutWrites : Obligations.PersonPutWrites := by
  refine ⟨fun s tag slot f i ready wf hi accepted empty => ?_, fun s tag slot f i old ready wf hi accepted occupied oldNodup => ?_⟩
  · have written := personWritten_of_empty (i := i) empty
    refine ⟨s.personWritten slot i, answers_ok_of_serve rfl ready rfl (personPutWork_accepted accepted hi), ?_⟩
    rw [written]
    refine ⟨?_, by simp [Person.fresh], fun k hk => by simp [hk], fun k => ?_, ?_⟩
    · refine ((joinedUnknown_keeps s slot i.cabins).weaken (by simp)).trans ?_
      intro p hp; cases p <;> first | rfl | simp at hp
    · cases hc : s.cabins.get k with
      | none => exact noCabin_changed wf i.cabins hc
      | some c =>
        obtain ⟨d, hd, joined, same⟩ := cabin_changed (change := Cabin.joined slot .UNKNOWN) (fun _ => rfl) wf
          (nodup_cabins_of_identity hi) hc
        refine hd.trans (congrArg some ?_)
        dsimp only
        split
        · rename_i joins
          rw [(joined joins).of_joined]
          simp [Cabin.joined]
        · rename_i stays
          exact same stays
    · simp only [census_fresh]
      cases i.category <;> simp
  · have written := personWritten_of_occupied (i := i) occupied
    refine ⟨s.personWritten slot i, answers_ok_of_serve rfl ready rfl (personPutWork_accepted accepted hi), ?_⟩
    rw [written]
    refine ⟨?_, by simp, fun k hk => by simp [hk], rfl, ?_, ⟨rfl, rfl⟩, fun k c hc => ?_⟩
    · refine ((cabinsMoved_keeps s slot old.presence old.ident.cabins i.cabins).weaken (by simp)).trans ?_
      intro p hp; cases p <;> first | rfl | simp at hp
    · simp [sweeper_handed, standing_missing, Person.standing]
    · obtain ⟨d, hd, ⟨-, was, isNot, left⟩ | ⟨-, wasNot, is, rfl⟩ | ⟨stays, rfl⟩⟩ :=
        cabin_moved (slot := slot) (p := old.presence) wf oldNodup (nodup_cabins_of_identity hi) hc
      · obtain ⟨number, ring, -, occupants, aboard⟩ := left.of_left
        exact ⟨d, hd, number, ring, fun _ _ _ => ⟨occupants, aboard⟩, fun _ wasNot => absurd was wasNot,
          fun same => absurd (same.1 was) isNot⟩
      · exact ⟨_, hd, rfl, rfl, fun _ was => absurd was wasNot, fun _ _ _ => ⟨rfl, rfl⟩, fun same => absurd (same.2 is) wasNot⟩
      · exact ⟨d, hd, rfl, rfl, fun found was isNot => absurd ((stays found).1 was) isNot,
          fun found wasNot is => absurd ((stays found).2 is) wasNot, fun _ => rfl⟩

/-! ## PERSON DROP -/

/-- R10: what an accepted PERSON DROP leaves. -/
theorem personDropped_eq (p : Person) : s.personDropped slot p =
    { s.cabinsChanged (Cabin.left slot p.presence) p.ident.cabins with
      cards := s.cards.keep (fun _ e => decide (e.slot ≠ slot))
      census := s.census.handed (some p.standing) none
      sweeper := s.sweeper.handed slot (some p.standing) none
      persons := s.persons.erase slot } := by
  have left := cabinsChanged_keeps s (Cabin.left slot p.presence) p.ident.cabins
  have census : (s.cabinsChanged (Cabin.left slot p.presence) p.ident.cabins).census = s.census := left .census (by simp)
  have sweeper : (s.cabinsChanged (Cabin.left slot p.presence) p.ident.cabins).sweeper = s.sweeper := left .sweeper (by simp)
  have persons : (s.cabinsChanged (Cabin.left slot p.presence) p.ident.cabins).persons = s.persons := left .persons (by simp)
  unfold State.personDropped
  dsimp only
  rw [leaveCabins_eq, cabinsChanged_withCards, ← census, ← sweeper, ← persons]
  rfl

theorem personDropWork_of_range (h : 8192 ≤ slot) : s.personDropWork slot = s.refuse .OUT_OF_RANGE := if_pos h

/-- PERSON DROP with its slot in range: the checks of R10, then its steps. -/
theorem personDropWork_of_inRange (h : slot < 8192) : s.personDropWork slot =
    match s.persons.get slot with
    | none => s.refuse .NOT_FOUND
    | some p => if s.crossingNames slot || s.holdNames slot then s.refuse .IN_USE else (s.personDropped slot p).done :=
  if_neg (Nat.not_le.2 h)

/-- Settles O14: what a dropped person leaves in the cards, the cabins, the census, the Missing List and the slot. -/
theorem personDropRemoves : Obligations.PersonDropRemoves := by
  refine fun s tag slot ready => ⟨fun bad => ?_, fun hslot empty => ?_, fun p hslot occupied named => ?_,
    fun p hslot occupied noCrossing noHold _ cardsWf wf nodup => ?_⟩
  · exact refused_of_serve rfl ready rfl (personDropWork_of_range bad)
  · exact refused_of_serve rfl ready rfl ((personDropWork_of_inRange hslot).trans (by simp [empty]))
  · exact refused_of_serve rfl ready rfl ((personDropWork_of_inRange hslot).trans (by simp [occupied, named]))
  · refine ⟨s.personDropped slot p, answers_ok_of_serve rfl ready rfl
      ((personDropWork_of_inRange hslot).trans (by simp [occupied, noCrossing, noHold])), ?_⟩
    rw [personDropped_eq]
    refine ⟨?_, by simp, fun k hk => by simp [hk], fun k e => ?_, rfl, ?_, ⟨rfl, rfl⟩, fun k cb hcb => ?_⟩
    · refine ((cabinsChanged_keeps s (Cabin.left slot p.presence) p.ident.cabins).weaken (by simp)).trans ?_
      intro q hq; cases q <;> first | rfl | simp at hq
    · simp [Table.get_keep cardsWf]
    · simp [sweeper_handed, standing_missing, Person.standing]
    · obtain ⟨d, hd, left, same⟩ := cabin_changed (change := Cabin.left slot p.presence) (fun _ => rfl) wf nodup hcb
      by_cases leaves : cb.number ∈ p.ident.cabins ∧ s.cabinSlot cb.number = some k
      · obtain ⟨number, ring, deadbolt, occupants, aboard⟩ := (left leaves).of_left
        exact ⟨d, hd, number, ring, deadbolt, fun _ _ => ⟨occupants, aboard⟩, fun other => absurd leaves.1 other⟩
      · obtain rfl := same leaves
        exact ⟨d, hd, rfl, rfl, rfl, fun found mem => absurd ⟨mem, found⟩ leaves, fun _ => rfl⟩

end Sys2Proof.Machine
end

section
/-! PROOFS. What each GET, FIND and READ answers: the refusals of what it cannot name, and its body otherwise. -/

namespace Sys2Proof.Machine

open Sys2Proof

/-! ## Naming a record by slot or by id (R9, R60) -/

section Named

variable {α : Type} {t : Table α} {bound selector value : Nat} {idOf : α → Nat}

theorem slotNamed_of_range (h : 1 < selector ∨ (selector = 0 ∧ bound ≤ value % 65536)) :
    slotNamed t bound idOf selector value = .error .OUT_OF_RANGE := by
  rcases h with h | ⟨rfl, h⟩
  · rw [slotNamed, if_neg (by omega), if_neg (by omega)]
  · rw [slotNamed, if_pos rfl, if_pos h]

theorem slotNamed_of_emptySlot (h : value % 65536 < bound) (empty : t.get (value % 65536) = none) :
    slotNamed t bound idOf 0 value = .error .NOT_FOUND := by
  simp [slotNamed, Nat.not_le.2 h, empty]

theorem slotNamed_of_slot {r : α} (h : value % 65536 < bound) (held : t.get (value % 65536) = some r) :
    slotNamed t bound idOf 0 value = .ok (value % 65536) := by
  simp [slotNamed, Nat.not_le.2 h, held]

theorem slotNamed_of_noId (h : ∀ x ∈ t.cells, idOf x.2 ≠ value) : slotNamed t bound idOf 1 value = .error .NOT_FOUND := by
  have unknown : t.findKey (fun r => idOf r = value) = none :=
    Table.findKey_eq_none.2 fun x hx => decide_eq_false (h x hx)
  simp [slotNamed, unknown]

theorem slotNamed_of_id {k : Nat} (h : t.findKey (fun r => idOf r = value) = some k) : slotNamed t bound idOf 1 value = .ok k := by
  simp [slotNamed, h]

/-- The answer of a GET that names its record by slot or by id (R9, R60): the record's body, or the refusal of what it cannot name. -/
def State.answerNamed (s : State) (t : Table α) (bound : Nat) (idOf : α → Nat) (body : Nat → α → List Byte) (selector value : Nat) :
    Answer :=
  match slotNamed t bound idOf selector value with
  | .error status => s.refuse status
  | .ok k =>
    match t.get k with
    | none => s.refuse .NOT_FOUND
    | some r => s.done (body k r)

theorem State.personGetWork_eq (s : State) (selector value : Nat) : s.personGetWork selector value =
    s.answerNamed s.persons Config.personSlots (fun p => p.ident.id) s.personBody selector value := by
  cases named : slotNamed s.persons Config.personSlots (fun p => p.ident.id) selector value with
  | error status => simp [State.personGetWork, State.answerNamed, named]
  | ok k => cases held : s.persons.get k <;> simp [State.personGetWork, State.answerNamed, named, held]

theorem State.folioGetWork_eq (s : State) (selector value : Nat) : s.folioGetWork selector value =
    s.answerNamed s.folios Config.folioSlots (fun f => f.id) s.folioBody selector value := by
  cases named : slotNamed s.folios Config.folioSlots (fun f => f.id) selector value with
  | error status => simp [State.folioGetWork, State.answerNamed, named]
  | ok k => cases held : s.folios.get k <;> simp [State.folioGetWork, State.answerNamed, named, held]

/-- A ready GET that names its record by slot or by id, by what its selector and value name. -/
theorem answerNamed_cases {c : Instr} {s : State} {work : State → Answer} {kind : Nat} {tag : Byte} {body : Nat → α → List Byte}
    (hr : requestOf c = some (kind, tag)) (ready : s.ready c = true) (he : exec c s = .next (s.serve c work))
    (hw : work s = s.answerNamed t bound idOf body selector value) :
    ((1 < selector ∨ (selector = 0 ∧ bound ≤ value % 65536)) → Refused c s .OUT_OF_RANGE)
    ∧ (selector = 0 → value % 65536 < bound →
        (t.get (value % 65536) = none → Refused c s .NOT_FOUND)
        ∧ (∀ r, t.get (value % 65536) = some r → Answers c s s .OK (body (value % 65536) r)))
    ∧ (selector = 1 →
        ((∀ x ∈ t.cells, idOf x.2 ≠ value) → Refused c s .NOT_FOUND)
        ∧ (∀ k r, t.findKey (fun r => idOf r = value) = some k → t.get k = some r → Answers c s s .OK (body k r))) := by
  have refused : ∀ {status}, slotNamed t bound idOf selector value = .error status → Refused c s status :=
    fun h => refused_of_serve hr ready he (hw.trans (by simp [State.answerNamed, h]))
  have answered : ∀ {k r}, slotNamed t bound idOf selector value = .ok k → t.get k = some r → Answers c s s .OK (body k r) :=
    fun h held => answers_ok_of_serve hr ready he (hw.trans (by simp [State.answerNamed, h, held]))
  refine ⟨fun bad => refused (slotNamed_of_range bad), ?_, ?_⟩
  · rintro rfl inRange
    exact ⟨fun empty => refused (slotNamed_of_emptySlot inRange empty), fun r held => answered (slotNamed_of_slot inRange held) held⟩
  · rintro rfl
    exact ⟨fun unknown => refused (slotNamed_of_noId unknown), fun k r found held => answered (slotNamed_of_id found) held⟩

end Named

variable {s : State} {n start count : Nat}

/-! ## The requests -/

theorem cabinNumber_iff : cabinNumber n = true ↔ 1 ≤ n ∧ n ≤ 9999 := by simp [cabinNumber]

theorem cabinGetWork_of_range (h : n = 0 ∨ 9999 < n) : s.cabinGetWork n = s.refuse .OUT_OF_RANGE := by
  refine if_pos ?_
  rw [Bool.not_eq_true', ← Bool.not_eq_true, cabinNumber_iff]
  omega

theorem cabinGetWork_of_inRange (h : 1 ≤ n ∧ n ≤ 9999) : s.cabinGetWork n =
    match s.cabinSlot n with
    | none => s.refuse .NOT_FOUND
    | some k =>
      match s.cabins.get k with
      | none => s.refuse .NOT_FOUND
      | some c => s.done (s.cabinBody k c) := by
  refine if_neg ?_
  rw [cabinNumber_iff.2 h]
  decide

theorem headGetWork_of_range {h : HeadId} (bad : 16 ≤ h.line ∨ h.address = 0 ∨ 200 < h.address) :
    s.headGetWork h = s.refuse .OUT_OF_RANGE := by
  refine if_pos ?_
  rw [Bool.not_eq_true', ← Bool.not_eq_true, HeadId.inRange_iff]
  omega

theorem headGetWork_of_none {h : HeadId} (inRange : h.line < 16 ∧ 1 ≤ h.address ∧ h.address ≤ 200) (absent : s.head? h = none) :
    s.headGetWork h = s.refuse .NOT_FOUND := by
  simp [State.headGetWork, (HeadId.inRange_iff h).2 inRange, absent]

theorem headGetWork_of_some {h : HeadId} {hd : Head} (held : s.head? h = some hd) : s.headGetWork h = s.done (s.headBody h hd) := by
  simp [State.headGetWork, State.inRange_of_head held, held]

theorem readable_eq_none (h0 : s.bank0.state ≠ .READABLE) (h1 : s.bank1.state ≠ .READABLE) : s.readable = none := by
  simp [State.readable, h0, h1]

theorem readable_of_bank (hn : n ≤ 1) (h : (s.bank n).state = .READABLE) (other : (s.bank (1 - n)).state ≠ .READABLE) :
    s.readable = some n := by
  obtain rfl | rfl : n = 0 ∨ n = 1 := by omega
  · have first : s.bank0.state = .READABLE := h
    simp [State.readable, first]
  · have second : s.bank1.state = .READABLE := h
    have notFirst : s.bank0.state ≠ .READABLE := other
    simp [State.readable, second, notFirst]

theorem crossingsReadWork_of_inRange (h : ¬ (511 < start ∨ count = 0 ∨ 32 < count)) : s.crossingsReadWork start count =
    match s.readable with
    | none => s.refuse .WRONG_STATE
    | some n =>
      s.done (u8 n ++ u16 (s.bank n).records.length ++ listOf encCrossing (((s.bank n).records.drop start).take count)) :=
  if_neg h

theorem paramGetWork_of_some {i : Nat} (h : i < 24) : s.paramGetWork (some i) = s.done (u8 1 ++ s.encParamRow i) := by
  simp [State.paramGetWork, h, listOf]

theorem statusGetWork_eq : s.statusGetWork = s.done
    (u8 s.clock.state.ctorIdx ++ u32 s.clock.time ++ u32 s.elapsed ++ u8 s.upstream.ctorIdx ++ u32 s.epoch
      ++ u16 s.link.unanswered ++ u16 s.link.outgoing.length
      ++ u32 s.link.overruns ++ u32 s.link.badFrames ++ u32 s.link.truncated
      ++ u16 s.mask ++ (NoticeClass.all.map (fun c => encLatch (s.latch c) ++ flag (s.latch c).owed)).flatten
      ++ u16 s.doorIn.entries.length ++ u16 s.doorIn.reserved ++ u16 s.purchaseIn.entries.length ++ u16 s.purchaseIn.reserved
      ++ u16 s.laneIn.entries.length ++ u16 s.laneIn.reserved ++ flag s.intakeWaits
      ++ ((List.range 16).map (fun l => u8 (s.line l).state.ctorIdx)).flatten
      ++ u16 s.journal.length ++ u16 s.openHolds.length ++ u16 s.deferred.length
      ++ flag s.scanner.isSome ++ u8 s.sweeper.state.ctorIdx) := by
  simp only [State.statusGetWork, encIntake, flag, List.append_assoc]

theorem censusGetWork_eq : s.censusGetWork = s.done
    (encCensus s.census ++ u16 s.persons.size ++ encSweeper s.sweeper ++ encBank s.bank0 ++ encBank s.bank1
      ++ u16 s.pendings.length ++ u32 s.nextCrossing) := by
  simp only [State.censusGetWork, State.encBanks, List.append_assoc]

/-- Settles O53: each request that only reads is answered from the state as it stands, and leaves it so. -/
theorem readsChangeNothing : Obligations.ReadsChangeNothing := by
  intro s tag
  refine ⟨fun r => ?status, fun r => ?census, fun i r => ?param, fun _ _ r => answerNamed_cases rfl r rfl (s.personGetWork_eq _ _), fun u r => ?card,
    fun n r => ?cabin, fun _ _ r => answerNamed_cases rfl r rfl (s.folioGetWork_eq _ _), fun start count r => ?charges, fun n r => ?lane,
    fun start count r => ?crossings, fun start count r => ?missing, fun l r => ?line, fun l a r => ?head⟩
  case status => exact answers_ok_of_serve rfl r rfl statusGetWork_eq
  case census => exact answers_ok_of_serve rfl r rfl censusGetWork_eq
  case param =>
    refine ⟨?_, ?_, ?_⟩
    · rintro rfl
      exact answers_ok_of_serve rfl r rfl rfl
    · rintro n rfl inRange
      exact answers_ok_of_serve rfl r rfl (paramGetWork_of_some inRange)
    · rintro n rfl outOfRange
      exact refused_of_serve rfl r rfl (if_neg (Nat.not_lt.2 outOfRange))
  case card =>
    refine ⟨fun bad => ?_, fun uid hu unknown => ?_, fun uid k e hu found held => ?_⟩
    · exact refused_of_serve rfl r rfl (by simp [State.cardFindWork, bad])
    · exact refused_of_serve rfl r rfl (by simp [State.cardFindWork, hu, unknown])
    · exact answers_ok_of_serve rfl r rfl (by simp [State.cardFindWork, hu, found, held])
  case cabin =>
    refine ⟨fun bad => ?_, fun low high unknown => ?_, fun k cb low high found held => ?_⟩
    · exact refused_of_serve rfl r rfl (cabinGetWork_of_range bad)
    · exact refused_of_serve rfl r rfl ((cabinGetWork_of_inRange ⟨low, high⟩).trans (by simp [unknown]))
    · exact answers_ok_of_serve rfl r rfl ((cabinGetWork_of_inRange ⟨low, high⟩).trans (by simp [found, held]))
  case charges =>
    exact ⟨fun bad => refused_of_serve rfl r rfl (if_pos bad),
      fun low high => answers_ok_of_serve rfl r rfl (if_neg (by omega))⟩
  case lane =>
    exact ⟨fun bad => refused_of_serve rfl r rfl (if_pos bad),
      fun inRange => answers_ok_of_serve rfl r rfl (if_neg (Nat.not_le.2 inRange))⟩
  case crossings =>
    refine ⟨fun bad => refused_of_serve rfl r rfl (if_pos bad), fun inRange h0 h1 => ?_, fun n inRange hn h other => ?_⟩
    · exact refused_of_serve rfl r rfl ((crossingsReadWork_of_inRange inRange).trans (by rw [readable_eq_none h0 h1]))
    · exact answers_ok_of_serve rfl r rfl ((crossingsReadWork_of_inRange inRange).trans (by rw [readable_of_bank hn h other]))
  case missing =>
    exact ⟨fun bad => refused_of_serve rfl r rfl (if_pos bad), fun inRange => answers_ok_of_serve rfl r rfl (if_neg inRange)⟩
  case line =>
    exact ⟨fun bad => refused_of_serve rfl r rfl (if_pos bad),
      fun inRange => answers_ok_of_serve rfl r rfl (if_neg (Nat.not_le.2 inRange))⟩
  case head =>
    exact ⟨fun bad => refused_of_serve rfl r rfl (headGetWork_of_range bad),
      fun line low high absent => refused_of_serve rfl r rfl (headGetWork_of_none ⟨line, low, high⟩ absent),
      fun hd held => answers_ok_of_serve rfl r rfl (headGetWork_of_some held)⟩

end Sys2Proof.Machine
end

section
/-! PROOFS. What a job unit makes of an entry that it takes (R158), and the checks of the door decision order (R4, R33, R34). -/

namespace Sys2Proof.Machine

open Sys2Proof

/-! ## An entry that is taken -/

section Taken

variable {s : State} {c : HeadClass} {e : Entry} {rest : List Entry}

theorem oldest_of_takeable (h : s.takeable c e rest) : s.oldest c = some e := by
  obtain ⟨entries, -⟩ := h
  simp [State.oldest, entries]

theorem dropOldest_of_takeable (h : s.takeable c e rest) : s.dropOldest c = s.setIntake c ⟨rest, (s.intake c).reserved⟩ := by
  obtain ⟨entries, -⟩ := h
  simp [State.dropOldest, entries]

theorem entryGone_of_takeable (h : s.takeable c e rest) : s.entryGone e = false := by
  obtain ⟨-, stays, online, -⟩ := h
  simp [State.entryGone, stays, online]

theorem entryLate_of_takeable (h : s.takeable c e rest) : s.entryLate c e = false := by
  obtain ⟨-, -, -, inTime⟩ := h
  simpa [State.entryLate] using inTime

/-- R158: an entry that is neither gone nor late leaves its intake, and is decided or applied. -/
theorem takeEntry_of_takeable (h : s.takeable c e rest) (apply : State → State) :
    s.takeEntry c e apply = apply (s.setIntake c ⟨rest, (s.intake c).reserved⟩) := by
  simp [State.takeEntry, entryGone_of_takeable h, entryLate_of_takeable h, dropOldest_of_takeable h]

/-- A command whose event is that of the entry taken does what the event asks, on the state that the entry has left. -/
theorem gives_of_takeable {i : Instr} {handle : Entry → Option (State → State)} {apply : State → State} (h : s.takeable c e rest)
    (he : exec i s = .next (s.takeOldest c handle)) (known : handle e = some apply) :
    Gives i s (apply (s.setIntake c ⟨rest, (s.intake c).reserved⟩)) := by
  rw [Gives, he, State.takeOldest, oldest_of_takeable h]
  simp only [known, takeEntry_of_takeable h]

end Taken

/-! ## The windows of R4 -/

theorem stayContains_iff (w : Option (Nat × Nat)) (t : Nat) :
    stayContains w t = true ↔ ∀ first last, w = some (first, last) → first ≤ t ∧ t ≤ last := by
  rcases w with _ | ⟨first, last⟩ <;> simp [stayContains]

/-- A shift window whose ends are equal would contain every second, by the test of R4 as by its two cases. -/
theorem shiftContains_iff (w : Option (Nat × Nat)) (sec : Nat) :
    shiftContains w sec = true ↔ ∀ start stop, w = some (start, stop) →
      (start < stop → start ≤ sec ∧ sec < stop) ∧ (stop < start → start ≤ sec ∨ sec < stop) := by
  rcases w with _ | ⟨start, stop⟩
  · simp [shiftContains]
  · have windows : shiftContains (some (start, stop)) sec = true ↔
        (start < stop → start ≤ sec ∧ sec < stop) ∧ (stop < start → start ≤ sec ∨ sec < stop) := by
      rcases Nat.lt_trichotomy start stop with h | rfl | h
      · simp [shiftContains, h, Nat.lt_asymm h]
      · simpa [shiftContains] using (Nat.lt_or_ge sec start).symm
      · simp [shiftContains, h, Nat.lt_asymm h]
    rw [windows]
    constructor
    · rintro h _ _ ⟨⟩
      exact h
    · exact fun h => h start stop rfl

/-! ## The steps of R33 -/

section Verdict

variable {s : State} {cabin : Option Cabin} {c : Cabin} {u : RawUid} {e : CardEntry} {p : Person} {slot : Nat}

theorem emergencyCard_iff (card : Option CardEntry) : s.emergencyCard card = true ↔
    ∃ e p, card = some e ∧ e.state = .ACTIVE ∧ s.persons.get e.slot = some p ∧ p.ident.emergency = true := by
  cases card <;> simp [State.emergencyCard, Option.any_eq_true]

theorem doorVerdict_of_unset (unset : s.clock.state = .UNSET) (other : s.emergencyCard (s.lookupRaw u) = false) :
    s.doorVerdict cabin u = denied .CLOCK_UNSET := by
  simp [State.doorVerdict, unset, other]

theorem doorVerdict_of_unknown (set : s.clock.state = .SET) (unknown : s.lookupRaw u = none) :
    s.doorVerdict cabin u = denied .UNKNOWN_CARD := by
  simp [State.doorVerdict, set, unknown]

theorem doorVerdict_of_suspended (set : s.clock.state = .SET) (found : s.lookupRaw u = some e) (he : e.state = .SUSPENDED) :
    s.doorVerdict cabin u = denied .SUSPENDED := by
  simp [State.doorVerdict, set, found, he]

theorem doorVerdict_of_revoked (set : s.clock.state = .SET) (found : s.lookupRaw u = some e) (he : e.state = .REVOKED) :
    s.doorVerdict cabin u = ⟨.DENY .REVOKED, e.slot, some .REVOKED_CARD⟩ := by
  simp [State.doorVerdict, set, found, he]

/-- An ACTIVE card leaves the decision to its person, while the clock is SET or the person has the EMERGENCY role. -/
theorem doorVerdict_of_active (found : s.lookupRaw u = some e) (he : e.state = .ACTIVE) (hp : s.persons.get e.slot = some p)
    (clock : s.clock.state = .SET ∨ p.ident.emergency = true) : s.doorVerdict cabin u = s.personVerdict cabin e.slot p := by
  rcases clock with set | role
  · simp [State.doorVerdict, found, he, hp, set]
  · simp [State.doorVerdict, found, he, hp, State.emergencyCard, role]

theorem personVerdict_of_emergency (role : p.ident.emergency = true) :
    s.personVerdict cabin slot p = ⟨.GRANT .EMERGENCY, slot, none⟩ := by
  simp [State.personVerdict, role]

theorem personVerdict_of_visitor (role : p.ident.emergency = false) (visitor : p.ident.category = .VISITOR) :
    s.personVerdict cabin slot p = denied .NOT_PERMITTED := by
  simp [State.personVerdict, role, visitor]

/-- Step 7 of R33: a crew member with the SERVICE role and the zone of the cabin. -/
theorem personVerdict_of_service (role : p.ident.emergency = false) (free : c.deadbolt ≠ .ENGAGED) (outside : slot ∉ c.occupants)
    (service : p.ident.category = .CREW ∧ p.ident.service = true ∧ p.ident.zones.getLsbD c.zone = true) :
    s.personVerdict (some c) slot p =
      if shiftContains p.ident.shift (s.clock.time % 86400) = false then denied .WINDOW
      else if c.privacy = .PRIVACY then denied .PRIVACY
      else ⟨.GRANT .SERVICE, slot, none⟩ := by
  simp [State.personVerdict, role, free, outside, service, State.secondOfDay]

section AtCabin

variable (role : p.ident.emergency = false) (resident : p.ident.category ≠ .VISITOR)

include role resident

theorem personVerdict_of_engaged (engaged : c.deadbolt = .ENGAGED) :
    s.personVerdict (some c) slot p = denied .DEADBOLT := by
  simp [State.personVerdict, role, resident, engaged]

theorem personVerdict_of_occupant (free : c.deadbolt ≠ .ENGAGED) (inside : slot ∈ c.occupants) :
    s.personVerdict (some c) slot p = s.occupantVerdict slot p := by
  simp [State.personVerdict, role, resident, free, inside]

theorem personVerdict_of_noRight (free : c.deadbolt ≠ .ENGAGED) (outside : slot ∉ c.occupants)
    (noService : ¬ (p.ident.category = .CREW ∧ p.ident.service = true ∧ p.ident.zones.getLsbD c.zone = true)) :
    s.personVerdict (some c) slot p = denied .NOT_PERMITTED := by
  simp only [State.personVerdict, role, resident, free, noService, if_false, List.contains_iff_mem, outside, Bool.false_eq_true]

end AtCabin

theorem occupantVerdict_of_outsideStay (outside : stayContains p.ident.stay s.clock.time = false) :
    s.occupantVerdict slot p = denied .WINDOW := by
  simp [State.occupantVerdict, outside]

theorem occupantVerdict_of_notAshore (inside : stayContains p.ident.stay s.clock.time = true) (present : p.presence ≠ .ASHORE) :
    s.occupantVerdict slot p = ⟨.GRANT .KEYED, slot, none⟩ := by
  simp [State.occupantVerdict, inside, present]

/-- R34: an occupant who is ASHORE is decided by the door presence policy. -/
theorem occupantVerdict_of_ashore (inside : stayContains p.ident.stay s.clock.time = true) (ashore : p.presence = .ASHORE) :
    (s.params.doorPolicy = .GRANT_AND_NOTIFY → s.occupantVerdict slot p = ⟨.GRANT .KEYED, slot, some .PRESENCE_CONFLICT⟩)
    ∧ (s.params.doorPolicy = .DENY → s.occupantVerdict slot p = denied .PRESENCE) := by
  constructor <;> intro policy <;> simp [State.occupantVerdict, inside, ashore, policy]

end Verdict

/-- Settles O18: the card decides first, then the person's role and category, then the cabin's deadbolt, its occupants and the service
right. -/
theorem doorDecisionOrder : Obligations.DoorDecisionOrder := by
  intro s cabin u
  refine ⟨fun unset other => doorVerdict_of_unset unset ?_, doorVerdict_of_unknown,
    fun e set found => ⟨doorVerdict_of_suspended set found, doorVerdict_of_revoked set found⟩,
    fun e p found active person => ⟨fun role => ?emergency, fun set role => ?_⟩⟩
  · rwa [← Bool.not_eq_true, emergencyCard_iff]
  case emergency =>
    exact (doorVerdict_of_active found active person (.inr role)).trans (personVerdict_of_emergency role)
  rw [doorVerdict_of_active found active person (.inl set)]
  refine ⟨personVerdict_of_visitor role, ?_⟩
  rintro c rfl resident
  refine ⟨personVerdict_of_engaged role resident, fun free inside => ?occupant, fun free outside => ?other⟩
  case occupant =>
    rw [personVerdict_of_occupant role resident free inside]
    intro inStay
    have stay : stayContains p.ident.stay s.clock.time = true ↔ inStay := stayContains_iff _ _
    refine ⟨fun out => occupantVerdict_of_outsideStay ?_, fun within => ?_⟩
    · rwa [← Bool.not_eq_true, stay]
    · have byPolicy := occupantVerdict_of_ashore (s := s) (slot := e.slot) (stay.2 within)
      exact ⟨occupantVerdict_of_notAshore (stay.2 within), fun ashore => (byPolicy ashore).1, fun ashore => (byPolicy ashore).2⟩
  case other =>
    intro service sec inShift
    have shift : shiftContains p.ident.shift sec = true ↔ inShift := shiftContains_iff _ _
    have served := fun right : service => personVerdict_of_service (s := s) role free outside right
    refine ⟨fun right out => (served right).trans (if_pos ?_), fun right within priv => ?_, fun right within opened => ?_,
      personVerdict_of_noRight role resident free outside⟩
    · rwa [← Bool.not_eq_true, shift]
    · rw [served right, if_neg (by simpa using shift.2 within), if_pos priv]
      rfl
    · rw [served right, if_neg (by simpa using shift.2 within), if_neg (by simp [opened])]

end Sys2Proof.Machine
end

section
/-! PROOFS. What a door TAP and the door events make of the head, its cabin and its line (R30, R31, R35 to R38). -/

namespace Sys2Proof.Machine

open Sys2Proof

variable {s : State} {e : Entry} {rest : List Entry} {hd : Head} {cb : Cabin} {h : HeadId} {k tag : Nat}

/-- The state once the oldest entry of the door intake has been taken, with the entries that are left (R157). -/
def State.doorTaken (s : State) (rest : List Entry) : State := { s with doorIn := ⟨rest, s.doorIn.reserved⟩ }

theorem doorTaken_keeps (s : State) (rest : List Entry) : Keeps [.doorIn] s (s.doorTaken rest) := by
  intro p hp; cases p <;> first | rfl | simp at hp

/-- A DDU command whose event is that of the entry taken applies the event on the state with the entry gone. -/
theorem gives_of_doorTakeable {i : Instr} {handle : Entry → Option (State → State)} {apply : State → State}
    (taken : s.takeable .CABIN_DOOR e rest) (he : exec i s = .next (s.takeOldest .CABIN_DOOR handle)) (known : handle e = some apply) :
    Gives i s (apply (s.doorTaken rest)) :=
  gives_of_takeable taken he known

/-! ## The head -/

/-- A head that is changed reads as changed, and every other head as before. -/
theorem head_modifyHead_of_head (held : s.head? h = some hd) (f : Head → Head) :
    (s.modifyHead h f).head? h = some (f hd) ∧ ∀ g, g ≠ h → (s.modifyHead h f).head? g = s.head? g := by
  have read := s.head_modifyHead (HeadId.address_lt (State.inRange_of_head held)) f
  exact ⟨by simp [read, held], fun g other => by rw [read, if_neg other]⟩

theorem afterDecision_of_grant {v : DoorVerdict} {kind : GrantKind} (granted : v.decision = .GRANT kind) :
    hd.afterDecision tag v = { hd with lastGrant := some ⟨tag, v.slot, kind⟩ } := by
  simp [Head.afterDecision, granted]

theorem afterDecision_of_deny {v : DoorVerdict} {code : Denial} (refused : v.decision = .DENY code) : hd.afterDecision tag v = hd := by
  simp [Head.afterDecision, refused]

theorem grantAnswered_of_tag {g : Grant} (last : hd.lastGrant = some g) (same : g.tag = tag) :
    hd.grantAnswered tag = { hd with lastGrant := none } := by
  simp [Head.grantAnswered, last, same]

theorem grantAnswered_of_otherTag (other : ∀ g, hd.lastGrant = some g → g.tag ≠ tag) : hd.grantAnswered tag = hd := by
  unfold Head.grantAnswered
  split
  · rename_i g last
    exact if_neg (other g last)
  · rfl

theorem lastGrant_of_head (held : s.head? h = some hd) : s.lastGrant h = hd.lastGrant := by
  simp [State.lastGrant, held]

/-! ## The door TAP -/

theorem cabinOfHead_of_head (held : s.head? h = some hd) : s.cabinOfHead h = s.cabin? hd.bound := by
  simp [State.cabinOfHead, held]

/-- A decision frame takes the slot that is reserved for its entry. -/
theorem joinDecision_of_reserved {ln : Line} (f : OutFrame) (reserved : 0 < ln.reserved) :
    ln.joinDecision f = { ln with queue := ln.queue ++ [f], reserved := ln.reserved - 1 } := by
  simp [Line.joinDecision, reserved, Line.joined]

theorem raisePerson_keeps (s : State) (notice : Option NoticeClass) (slot : Nat) : Keeps [.latches] s (s.raisePerson notice slot) := by
  cases notice with
  | none => exact keeps_refl _ s
  | some c => exact raise_keeps s c _

theorem latch_raisePerson (notice : Option NoticeClass) (slot : Nat) (n : NoticeClass) :
    (s.raisePerson notice slot).latch n = if notice = some n then (s.latch n).raised (.person slot) s.clock.time else s.latch n := by
  cases notice with
  | none => rfl
  | some c =>
    by_cases h : n = c
    · subst h
      simp [State.raisePerson]
    · simp [State.raisePerson, h, Ne.symm h]

/-- R35: the answer of a door TAP on its line, at its head and in the latches, for the verdict `v`. -/
def State.doorAnswered (s : State) (e : Entry) (tag : Nat) (v : DoorVerdict) : State :=
  ((s.sendDecision e (.door tag v.decision)).modifyHead e.head (fun hd => hd.afterDecision tag v)).raisePerson v.notice v.slot

theorem decideDoor_eq (held : s.head? e.head = some hd) (u : RawUid) :
    s.decideDoor e u tag = s.doorAnswered e tag (s.doorVerdict (s.cabin? hd.bound) u) := by
  rw [← cabinOfHead_of_head held]
  rfl

section Answered

variable (v : DoorVerdict)

theorem doorAnswered_keeps : Keeps [.lines, .heads, .latches] s (s.doorAnswered e tag v) :=
  (((sendDecision_keeps s e _).weaken (by simp)).trans ((modifyHead_keeps _ _ _).weaken (by simp))).trans
    ((raisePerson_keeps _ _ _).weaken (by simp))

theorem line_doorAnswered (reserved : 0 < (s.line e.head.line).reserved) (m : Nat) :
    (s.doorAnswered e tag v).line m =
      if m = e.head.line then
        { s.line e.head.line with
          queue := (s.line e.head.line).queue ++ [⟨e.head.address, .door tag v.decision⟩],
          reserved := (s.line e.head.line).reserved - 1 }
      else s.line m := by
  have lines : (s.doorAnswered e tag v).lines = (s.sendDecision e (.door tag v.decision)).lines :=
    raisePerson_keeps _ v.notice v.slot .lines (by simp)
  rw [State.line_of_lines lines, State.sendDecision, State.line_modifyLine, joinDecision_of_reserved _ reserved]

theorem head_doorAnswered (held : s.head? e.head = some hd) :
    (s.doorAnswered e tag v).head? e.head = some (hd.afterDecision tag v)
      ∧ ∀ h, h ≠ e.head → (s.doorAnswered e tag v).head? h = s.head? h := by
  have heads : (s.doorAnswered e tag v).heads = (s.modifyHead e.head (fun hd => hd.afterDecision tag v)).heads :=
    raisePerson_keeps _ v.notice v.slot .heads (by simp)
  simp only [State.head_of_heads heads]
  exact head_modifyHead_of_head held _

theorem latch_doorAnswered (n : NoticeClass) : (s.doorAnswered e tag v).latch n =
    if v.notice = some n then (s.latch n).raised (.person v.slot) s.clock.time else s.latch n :=
  latch_raisePerson _ _ _

end Answered

/-- Neither the verdict nor the lookup of the head's cabin reads an intake. -/
theorem decideDoor_doorTaken (held : s.head? e.head = some hd) (u : RawUid) :
    (s.doorTaken rest).decideDoor e u tag = (s.doorTaken rest).doorAnswered e tag (s.doorVerdict (s.cabin? hd.bound) u) :=
  decideDoor_eq (s := s.doorTaken rest) held u

/-- Settles O19: the line, the head and the latches are answered with the verdict on the records as they stood. -/
theorem doorTapDecided : Obligations.DoorTapDecided := by
  intro s e rest u tag hd event taken held reserved v
  have gives := gives_of_doorTakeable (i := .doorTap) (apply := fun s => s.decideDoor e u tag) taken rfl (by simp only [event])
  rw [decideDoor_doorTaken held u] at gives
  have changed := doorAnswered_keeps (s := s.doorTaken rest) (e := e) (tag := tag) v
  have lines := line_doorAnswered (s := s.doorTaken rest) (tag := tag) v reserved
  obtain ⟨tapped, others⟩ := head_doorAnswered (s := s.doorTaken rest) (tag := tag) v held
  have latches := latch_doorAnswered (s := s.doorTaken rest) (e := e) (tag := tag) v
  refine ⟨_, gives, ((doorTaken_keeps s rest).weaken (by simp)).trans (changed.weaken (by simp)), changed .doorIn (by simp),
    (lines _).trans (if_pos rfl), fun m other => (lines m).trans (if_neg other), fun kind granted => ?_, fun code refused => ?_,
    others, fun n raised => (latches n).trans (if_pos raised), fun n silent => (latches n).trans (if_neg silent)⟩
  · rw [tapped, afterDecision_of_grant granted]
  · rw [tapped, afterDecision_of_deny refused]

/-! ## The cabin of the head -/

theorem modifyCabinOf_of_cabin (held : s.head? h = some hd) (bound : s.cabinSlot hd.bound = some k) (hcb : s.cabins.get k = some cb)
    (f : Cabin → Cabin) : s.modifyCabinOf h f = { s with cabins := s.cabins.set k (f cb) } := by
  simp [State.modifyCabinOf, held, bound, modifyCabin_of_get s hcb]

theorem modifyCabinOf_keeps (s : State) (h : HeadId) (f : Cabin → Cabin) : Keeps [.cabins] s (s.modifyCabinOf h f) := by
  unfold State.modifyCabinOf
  split
  · exact modifyCabin_keeps s _ f
  · exact keeps_refl _ s

/-! ## The audit record of an OPENED (R36) -/

theorem openingRecord_time (h : HeadId) (tag : Option Nat) : (s.openingRecord h tag).time = s.clock.time := by
  unfold State.openingRecord
  split
  · rfl
  · split
    · rfl
    · split
      · split <;> rfl
      · rfl

theorem openingRecord_of_grant {g : Grant} (last : s.lastGrant h = some g) (same : g.tag = tag) :
    (s.openingRecord h (some tag)).slot = some g.slot ∧ (s.openingRecord h (some tag)).kind.ctorIdx = g.kind.ctorIdx := by
  cases kind : g.kind <;> simp only [State.openingRecord, last, same, kind, if_true, true_and] <;> rfl

theorem openingRecord_of_otherTag (other : ∀ g, s.lastGrant h = some g → g.tag ≠ tag) :
    s.openingRecord h (some tag) = ⟨.UNMATCHED, none, s.clock.time⟩ := by
  unfold State.openingRecord
  dsimp only
  split
  · rfl
  · rename_i g last
    exact if_neg (other g last)

/-! ## An OPENED (R36) -/

theorem applyOpened_keeps (tag : Option Nat) : Keeps [.cabins, .heads] s (s.applyOpened e tag) := by
  have recorded := (modifyCabinOf_keeps s e.head (fun c => c.recorded (s.openingRecord e.head tag))).weaken
    (m := [.cabins, .heads]) (by simp)
  cases tag with
  | none => exact recorded
  | some t => exact recorded.trans ((modifyHead_keeps _ _ _).weaken (by simp))

/-- The record joins the ring of the head's cabin (R31). -/
theorem cabins_applyOpened (held : s.head? e.head = some hd) (bound : s.cabinSlot hd.bound = some k) (hcb : s.cabins.get k = some cb)
    (tag : Option Nat) : (s.applyOpened e tag).cabins = s.cabins.set k (cb.recorded (s.openingRecord e.head tag)) := by
  have recorded : (s.applyOpened e tag).cabins
      = (s.modifyCabinOf e.head (fun c => c.recorded (s.openingRecord e.head tag))).cabins := by
    cases tag <;> rfl
  rw [recorded, modifyCabinOf_of_cabin held bound hcb]

/-- An OPENED with a tag may answer the head's last grant; it changes no other head. -/
theorem head_applyOpened (held : s.head? e.head = some hd) (tag : Option Nat) :
    (s.applyOpened e tag).head? e.head = some (tag.elim hd hd.grantAnswered)
      ∧ ∀ h, h ≠ e.head → (s.applyOpened e tag).head? h = s.head? h := by
  have heads := fun f => modifyCabinOf_keeps s e.head f .heads (by simp)
  cases tag with
  | none => exact ⟨(State.head_of_heads (heads _) _).trans held, fun h _ => State.head_of_heads (heads _) h⟩
  | some t =>
    obtain ⟨answered, others⟩ := head_modifyHead_of_head ((State.head_of_heads (heads _) _).trans held) (fun hd => hd.grantAnswered t)
    exact ⟨answered, fun h other => (others h other).trans (State.head_of_heads (heads _) h)⟩

/-- Settles O20: an OPENED writes its record and may answer the last grant; the other events write one cabin. -/
theorem doorEventsApplied : Obligations.DoorEventsApplied := by
  refine ⟨fun s e rest tag hd k cb event taken held bound hcb => ?opened, fun s e rest hd k cb taken held bound hcb => ?keys⟩
  case opened =>
    have gives := gives_of_doorTakeable (i := .opened) (apply := fun s => s.applyOpened e tag) taken rfl (by simp only [event])
    have cabins := cabins_applyOpened (s := s.doorTaken rest) held bound hcb tag
    obtain ⟨answered, others⟩ := head_applyOpened (s := s.doorTaken rest) held tag
    have changed := applyOpened_keeps (s := s.doorTaken rest) (e := e) tag
    have last := lastGrant_of_head held
    refine ⟨_, s.openingRecord e.head tag, gives, ((doorTaken_keeps s rest).weaken (by simp)).trans (changed.weaken (by simp)),
      changed .doorIn (by simp), openingRecord_time _ _, ?_, fun j other => ?_, others, ?untagged, ?unmatched, ?matched⟩
    · rw [cabins, Table.get_set, if_pos rfl]
      rfl
    · rw [cabins, Table.get_set, if_neg other]
      rfl
    case untagged =>
      rintro rfl
      exact ⟨rfl, rfl, answered⟩
    case unmatched =>
      rintro n rfl other
      rw [answered, openingRecord_of_otherTag (last ▸ other)]
      exact ⟨rfl, rfl, congrArg some (grantAnswered_of_otherTag other)⟩
    case matched =>
      rintro n g rfl granted same
      obtain ⟨slot, kind⟩ := openingRecord_of_grant (last.trans granted) same
      exact ⟨slot, kind, answered.trans (congrArg some (grantAnswered_of_tag granted same))⟩
  case keys =>
    have after : ∀ f : Cabin → Cabin,
        (s.doorTaken rest).modifyCabinOf e.head f = { s.doorTaken rest with cabins := s.cabins.set k (f cb) } :=
      modifyCabinOf_of_cabin (s := s.doorTaken rest) held bound hcb
    have applied : ∀ {i : Instr} {handle : Entry → Option (State → State)} (f : Cabin → Cabin),
        exec i s = .next (s.takeOldest .CABIN_DOOR handle) → handle e = some (fun s => s.modifyCabinOf e.head f) →
        Gives i s { s.doorTaken rest with cabins := s.cabins.set k (f cb) } :=
      fun f he known => after f ▸ gives_of_doorTakeable taken he known
    refine ⟨fun event => ?_, fun event => ?_, fun event => ?_, fun event => ?_⟩
    · exact applied (fun c => { c with privacy := .PRIVACY, owed := false }) rfl (by simp only [event]; rfl)
    · exact applied (fun c => { c with privacy := .OPEN, owed := false }) rfl (by simp only [event]; rfl)
    · exact applied (fun c => { c with deadbolt := .ENGAGED }) rfl (by simp only [event]; rfl)
    · exact applied (fun c => { c with deadbolt := .RELEASED }) rfl (by simp only [event]; rfl)

/-- Settles O21: a NOT_OPENED changes its own head alone. -/
theorem notOpenedClearsGrant : Obligations.NotOpenedClearsGrant := by
  intro s e rest tag hd event taken held
  have gives := gives_of_doorTakeable (i := .notOpened) (apply := fun s => s.modifyHead e.head (fun hd => hd.grantAnswered tag))
    taken rfl (by simp only [event])
  obtain ⟨answered, others⟩ := head_modifyHead_of_head (s := s.doorTaken rest) held (fun hd => hd.grantAnswered tag)
  refine ⟨_, gives, ((doorTaken_keeps s rest).weaken (by simp)).trans ((modifyHead_keeps _ _ _).weaken (by simp)), rfl, others,
    fun g last same => ?_, fun other => ?_⟩
  · rw [answered, grantAnswered_of_tag last same]
  · rw [answered, grantAnswered_of_otherTag other]

end Sys2Proof.Machine
end

section
/-! PROOFS. The cabin requests (R40, R42, R43), and what the owed indicators of a line become when it has room (R29). -/

namespace Sys2Proof.Machine

open Sys2Proof

/-! ## Places of a table -/

section Places

variable {α : Type} {t : Table α}

/-- No place stands twice among the cells of the canonical form. -/
theorem Table.risingFrom_nodup {low : Nat} {l : List (Nat × α)} (rising : Table.risingFrom low l = true) : (l.map (·.1)).Nodup := by
  induction l generalizing low with
  | nil => exact List.nodup_nil
  | cons c rest ih =>
    simp only [Table.risingFrom, Bool.and_eq_true] at rising
    obtain ⟨-, above⟩ := rising
    refine List.nodup_cons.2 ⟨fun again => ?_, ih above⟩
    obtain ⟨d, hd, same⟩ := List.mem_map.1 again
    have twice := (Table.lookupCells_iff_mem above).2 hd
    rw [same, Table.lookupCells_below above (Nat.lt_succ_self _)] at twice
    cases twice

theorem Table.lowestEmptyFrom_eq_none {fuel low : Nat} (occupied : ∀ k, low ≤ k → k < low + fuel → t.get k ≠ none) :
    t.lowestEmptyFrom fuel low = none := by
  induction fuel generalizing low with
  | zero => rfl
  | succ fuel ih =>
    obtain ⟨v, hv⟩ := Option.ne_none_iff_exists'.1 (occupied low (Nat.le_refl _) (by omega))
    simp only [Table.lowestEmptyFrom, hv]
    exact ih fun k above below => occupied k (by omega) (by omega)

theorem Table.lowestEmptyFrom_eq_some {fuel low k : Nat} (above : low ≤ k) (below : k < low + fuel) (empty : t.get k = none)
    (lowest : ∀ j, low ≤ j → j < k → t.get j ≠ none) : t.lowestEmptyFrom fuel low = some k := by
  induction fuel generalizing low with
  | zero => omega
  | succ fuel ih =>
    rcases Nat.eq_or_lt_of_le above with rfl | later
    · simp [Table.lowestEmptyFrom, empty]
    · obtain ⟨v, hv⟩ := Option.ne_none_iff_exists'.1 (lowest low (Nat.le_refl _) later)
      simp only [Table.lowestEmptyFrom, hv]
      exact ih later (by omega) fun j hj => lowest j (by omega)

theorem Table.lowestEmpty_eq_none {bound : Nat} (full : ∀ k, k < bound → t.get k ≠ none) : t.lowestEmpty bound = none :=
  Table.lowestEmptyFrom_eq_none fun k _ below => full k (by omega)

theorem Table.lowestEmpty_eq_some {bound k : Nat} (below : k < bound) (empty : t.get k = none) (lowest : ∀ j, j < k → t.get j ≠ none) :
    t.lowestEmpty bound = some k :=
  Table.lowestEmptyFrom_eq_some (Nat.zero_le k) (by omega) empty fun j _ => lowest j

end Places

/-! ## The cabin requests -/

section Requests

variable {s : State} {n zone value k : Nat} {cb : Cabin}

theorem cabinNumber_eq_false : cabinNumber n = false ↔ n < 1 ∨ 9999 < n := by
  rw [← Bool.not_eq_true, cabinNumber_iff]
  omega

theorem cabinPutWork_of_range (bad : n < 1 ∨ 9999 < n ∨ 31 < zone) : s.cabinPutWork n zone = s.refuse .OUT_OF_RANGE := by
  refine if_pos ?_
  simp only [Bool.or_eq_true, Bool.not_eq_true', cabinNumber_eq_false, decide_eq_true_eq]
  omega

/-- CABIN PUT with its operands in range: a cabin of the number, or else the lowest empty slot (R40). -/
theorem cabinPutWork_of_inRange (number : 1 ≤ n ∧ n ≤ 9999) (hz : zone ≤ 31) : s.cabinPutWork n zone =
    match s.cabinSlot n with
    | some k => (s.modifyCabin k (fun c => { c with zone := zone })).done (u16 k)
    | none =>
      match s.cabins.lowestEmpty Config.cabinSlots with
      | none => s.refuse .FULL
      | some k => { s with cabins := s.cabins.set k (Cabin.fresh n zone) : State }.done (u16 k) := by
  refine if_neg ?_
  simp [cabinNumber_iff.2 number, hz]

theorem cabinDropWork_of_range (bad : n < 1 ∨ 9999 < n) : s.cabinDropWork n = s.refuse .OUT_OF_RANGE := by
  refine if_pos ?_
  rw [cabinNumber_eq_false.2 bad]
  rfl

theorem cabinDropWork_of_none (number : 1 ≤ n ∧ n ≤ 9999) (unknown : s.cabinSlot n = none) :
    s.cabinDropWork n = s.refuse .NOT_FOUND := by
  simp [State.cabinDropWork, cabinNumber_iff.2 number, unknown]

/-- CABIN DROP of a cabin that there is: refused while it has an occupant or a door head (R42). -/
theorem cabinDropWork_of_cabin (number : 1 ≤ n ∧ n ≤ 9999) (found : s.cabinSlot n = some k) (held : s.cabins.get k = some cb) :
    s.cabinDropWork n =
      if cb.occupants ≠ [] ∨ cb.doorHead ≠ none then s.refuse .IN_USE else { s with cabins := s.cabins.erase k : State }.done := by
  simp [State.cabinDropWork, cabinNumber_iff.2 number, found, held, Option.isSome_iff_ne_none]

/-- The privacy that the value of a PRIVACY SET names. -/
def privacyOf (value : Nat) : Privacy := if value = 0 then .OPEN else .PRIVACY

theorem privacy_of_le (h : value ≤ 1) : Privacy.ofCode value = some (privacyOf value) := by
  obtain rfl | rfl : value = 0 ∨ value = 1 := by omega
  all_goals rfl

theorem privacy_of_gt (h : 1 < value) : Privacy.ofCode value = none := by
  obtain ⟨n, rfl⟩ := Nat.exists_eq_add_of_le' h
  rfl

theorem privacySetWork_of_range (bad : n < 1 ∨ 9999 < n ∨ 1 < value) : s.privacySetWork n value = s.refuse .OUT_OF_RANGE := by
  by_cases hv : value ≤ 1
  · simp only [State.privacySetWork, privacy_of_le hv]
    exact if_pos (by rw [cabinNumber_eq_false.2 (by omega)]; rfl)
  · simp [State.privacySetWork, privacy_of_gt (Nat.not_le.1 hv)]

theorem privacySetWork_of_none (number : 1 ≤ n ∧ n ≤ 9999) (hv : value ≤ 1) (unknown : s.cabinSlot n = none) :
    s.privacySetWork n value = s.refuse .NOT_FOUND := by
  simp [State.privacySetWork, privacy_of_le hv, cabinNumber_iff.2 number, unknown]

theorem privacySetWork_of_cabin (number : 1 ≤ n ∧ n ≤ 9999) (hv : value ≤ 1) (found : s.cabinSlot n = some k) :
    s.privacySetWork n value =
      ((s.modifyCabin k (fun c => { c with privacy := privacyOf value })).indicatorWork k).done := by
  simp [State.privacySetWork, privacy_of_le hv, cabinNumber_iff.2 number, found]

/-- R43 and R28: the privacy is stored, and the indicator work is that of the cabin with it. -/
theorem indicatorWork_modifyCabin (held : s.cabins.get k = some cb) (p : Privacy) :
    (s.modifyCabin k (fun c => { c with privacy := p })).indicatorWork k =
      match cb.doorHead with
      | none => { s with cabins := s.cabins.set k { cb with privacy := p, owed := false } }
      | some h =>
        if s.online h = true ∧ 0 < (s.line h.line).free then
          { s with cabins := s.cabins.set k { cb with privacy := p, owed := false },
                   lines := s.lines.set h.line { s.line h.line with
                     queue := (s.line h.line).queue ++ [⟨h.address, .indicator cb.number p⟩] } }
        else { s with cabins := s.cabins.set k { cb with privacy := p, owed := true } } := by
  rw [modifyCabin_of_get s held, indicatorWork_of_get (c := { cb with privacy := p }) _ (by simp)]
  simp only [Table.set_set]
  rfl

end Requests

/-! ## The owed indicators of a line (R29) -/

/-- A line with a frame more has a free slot less. -/
theorem free_joined (ln : Line) (f : OutFrame) : (ln.joined f).free = ln.free - 1 := by
  by_cases h : ln.state = .RUNNING <;> simp [Line.free, Line.joined, Line.taken, h]
  omega

/-- The INDICATOR frame that line `l` owes the cabin in a slot, by R29: the cabin is owed it, and its door head is ONLINE on the line. -/
def State.owedFrame (s : State) (l : Nat) (x : Nat × Cabin) : Option (Nat × OutFrame) :=
  x.2.doorHead.bind (fun h =>
    if x.2.owed = true ∧ h.line = l ∧ s.online h = true then some (x.1, ⟨h.address, .indicator x.2.number x.2.privacy⟩) else none)

/-- What R29 makes of the state for the frames `served` on line `l`: they join the line's queue, and the cabins they are for are owed
nothing any more. -/
structure OwedServed (l : Nat) (served : List (Nat × OutFrame)) (s t : State) : Prop where
  keeps : Keeps [.cabins, .lines] s t
  line : t.line l = { s.line l with queue := (s.line l).queue ++ served.map (·.2) }
  otherLines : ∀ m, m ≠ l → t.line m = s.line m
  cabins : ∀ k, t.cabins.get k = (s.cabins.get k).map (fun c => if k ∈ served.map (·.1) then { c with owed := false } else c)

theorem OwedServed.refl (l : Nat) (s : State) : OwedServed l [] s s where
  keeps := keeps_refl _ s
  line := by simp
  otherLines _ _ := rfl
  cabins k := by simp

theorem OwedServed.trans {l : Nat} {a b : List (Nat × OutFrame)} {s t u : State} (h : OwedServed l a s t) (k : OwedServed l b t u) :
    OwedServed l (a ++ b) s u where
  keeps := h.keeps.trans k.keeps
  line := by simp [k.line, h.line]
  otherLines m hm := (k.otherLines m hm).trans (h.otherLines m hm)
  cabins j := by
    rw [k.cabins, h.cabins, Option.map_map]
    congr 1
    funext c
    by_cases ha : j ∈ a.map (·.1) <;> by_cases hb : j ∈ b.map (·.1) <;> simp [ha, hb]

section Owed

variable {s t : State} {l k : Nat} {c : Cabin} {x : Nat × Cabin}

theorem owedFrame_of_heads (h : t.heads = s.heads) : t.owedFrame l = s.owedFrame l := by
  funext x
  have online : t.online = s.online := funext fun d => by rw [State.online, State.online, State.head_of_heads h]
  rw [State.owedFrame, State.owedFrame, online]

theorem owedFrame_eq_some {a : Nat × OutFrame} : s.owedFrame l x = some a ↔
    ∃ h, x.2.doorHead = some h ∧ (x.2.owed = true ∧ h.line = l ∧ s.online h = true)
      ∧ (x.1, ⟨h.address, .indicator x.2.number x.2.privacy⟩) = a := by
  simp [State.owedFrame, Option.bind_eq_some_iff]

theorem owedFrame_fst {a : Nat × OutFrame} (owed : s.owedFrame l x = some a) : a.1 = x.1 := by
  obtain ⟨h, -, -, rfl⟩ := owedFrame_eq_some.1 owed
  rfl

/-- One cabin's turn in R29: its indicator work, when line `l` owes it a frame and has a free unreserved slot. -/
def State.serveCabin (l : Nat) (s : State) (k : Nat) : State :=
  match s.cabins.get k with
  | some c =>
    match c.doorHead with
    | some h => if c.owed && decide (h.line = l) && s.online h && decide (0 < (s.line l).free) then s.indicatorWork k else s
    | none => s
  | none => s

theorem serveOwed_eq (s : State) (l : Nat) : s.serveOwed l = s.cabins.keys.foldl (State.serveCabin l) s := rfl

theorem serveCabin_eq (held : s.cabins.get k = some c) : s.serveCabin l k =
    if (s.owedFrame l (k, c)).isSome ∧ 0 < (s.line l).free then s.indicatorWork k else s := by
  simp only [State.serveCabin, State.owedFrame, held]
  cases c.doorHead with
  | none => rfl
  | some h => by_cases owed : c.owed = true ∧ h.line = l ∧ s.online h = true <;> simp [owed, and_assoc]

/-- The frame that a cabin is owed joins the line, and the cabin is owed nothing any more. -/
theorem serveCabin_of_owed {a : Nat × OutFrame} (held : s.cabins.get k = some c) (owed : s.owedFrame l (k, c) = some a)
    (room : 0 < (s.line l).free) : OwedServed l [a] s (s.serveCabin l k) := by
  have work : s.serveCabin l k = s.indicatorWork k := (serveCabin_eq held).trans (if_pos ⟨by simp [owed], room⟩)
  obtain ⟨h, door, ⟨-, rfl, online⟩, rfl⟩ := owedFrame_eq_some.1 owed
  have bound : c.doorHead = some h := door
  have sent := indicatorWork_of_get s held
  simp only [bound, online, room, and_self, if_true] at sent
  rw [work]
  refine ⟨indicatorWork_keeps s k, ?_, fun m other => ?_, fun j => ?_⟩ <;> rw [sent]
  · exact (State.line_set rfl h.line).trans (if_pos rfl)
  · exact (State.line_set rfl m).trans (if_neg other)
  · by_cases hj : j = k
    · subst hj
      simp [held, bound]
    · simp [hj]

/-- R29 over cabins as they stand in the state, each in its turn. -/
theorem serveCabins_owedServed (cells : List (Nat × Cabin)) (nodup : (cells.map (·.1)).Nodup)
    (held : ∀ x ∈ cells, s.cabins.get x.1 = some x.2) :
    OwedServed l ((cells.filterMap (s.owedFrame l)).take (s.line l).free) s ((cells.map (·.1)).foldl (State.serveCabin l) s) := by
  induction cells generalizing s with
  | nil => simpa using OwedServed.refl l s
  | cons x rest ih =>
    obtain ⟨fresh, nodup⟩ := List.nodup_cons.1 nodup
    have here := held x List.mem_cons_self
    have later := fun y hy => held y (List.mem_cons_of_mem x hy)
    rw [List.map_cons, List.foldl_cons]
    cases owed : s.owedFrame l x with
    | none =>
      rw [List.filterMap_cons_none owed, (serveCabin_eq here).trans (if_neg (by simp [owed]))]
      exact ih nodup later
    | some a =>
      rw [List.filterMap_cons_some owed]
      cases free : (s.line l).free with
      | zero =>
        rw [(serveCabin_eq here).trans (if_neg (by simp [free])), List.take_zero]
        simpa only [free, List.take_zero] using ih nodup later
      | succ n =>
        have first := serveCabin_of_owed here owed (by omega)
        have heads : (s.serveCabin l x.1).heads = s.heads := first.keeps .heads (by simp)
        have left : ((s.serveCabin l x.1).line l).free = n := by
          have joined : (s.serveCabin l x.1).line l = (s.line l).joined a.2 := first.line
          rw [joined, free_joined, free, Nat.add_sub_cancel]
        have untouched : ∀ y ∈ rest, (s.serveCabin l x.1).cabins.get y.1 = some y.2 := by
          intro y hy
          have other : y.1 ≠ x.1 := fun same => fresh (List.mem_map.2 ⟨y, hy, same⟩)
          simp [first.cabins, later y hy, owedFrame_fst owed, other]
        have after := ih nodup untouched
        rw [owedFrame_of_heads heads, left] at after
        exact first.trans after

/-- R29: the frames served are those that the owed cabins are due, in slot order, while the line has a free unreserved slot. -/
theorem serveOwed_owedServed (s : State) (l : Nat) (wf : s.cabins.wf = true) :
    OwedServed l ((s.cabins.cells.filterMap (s.owedFrame l)).take (s.line l).free) s (s.serveOwed l) := by
  rw [serveOwed_eq]
  exact serveCabins_owedServed s.cabins.cells (Table.risingFrom_nodup wf) fun x hx => (Table.get_iff_mem wf).2 hx

end Owed

/-- Settles O17: each request is refused or done by its checks in order, and the owed cabins of a line are served in slot order. -/
theorem cabinRequestsAndIndicators : Obligations.CabinRequestsAndIndicators := by
  refine ⟨fun s tag n zone => ⟨fun ready => ⟨fun bad => ?putRange, fun low high hz => ?put⟩,
    fun ready => ⟨fun bad => ?dropRange, fun low high => ?drop⟩⟩,
    fun s tag n value ready => ⟨fun bad => ?privacyRange, fun low high hv => ?privacy⟩, fun s l wf => ?indicators⟩
  case putRange => exact refused_of_serve rfl ready rfl (cabinPutWork_of_range bad)
  case put =>
    have work := cabinPutWork_of_inRange (s := s) ⟨low, high⟩ hz
    refine ⟨fun k found => ?_, fun unknown full => ?_, fun k unknown below empty lowest => ?_⟩
    · exact answers_ok_of_serve rfl ready rfl (work.trans (by simp only [found]; rfl))
    · exact refused_of_serve rfl ready rfl (work.trans (by simp only [unknown, Table.lowestEmpty_eq_none full]))
    · exact answers_ok_of_serve rfl ready rfl
        (work.trans (by simp only [unknown, Table.lowestEmpty_eq_some below empty lowest]; rfl))
  case dropRange => exact refused_of_serve rfl ready rfl (cabinDropWork_of_range bad)
  case drop =>
    refine ⟨fun unknown => refused_of_serve rfl ready rfl (cabinDropWork_of_none ⟨low, high⟩ unknown), fun k cb found held => ?_⟩
    have work := cabinDropWork_of_cabin ⟨low, high⟩ found held
    exact ⟨fun used => refused_of_serve rfl ready rfl (work.trans (if_pos used)),
      fun nobody noDoor => answers_ok_of_serve rfl ready rfl (work.trans (if_neg (by simp [nobody, noDoor])))⟩
  case privacyRange => exact refused_of_serve rfl ready rfl (privacySetWork_of_range bad)
  case privacy =>
    refine ⟨fun unknown => refused_of_serve rfl ready rfl (privacySetWork_of_none ⟨low, high⟩ hv unknown), fun k cb found held => ?_⟩
    have work := privacySetWork_of_cabin ⟨low, high⟩ hv found
    rw [indicatorWork_modifyCabin held] at work
    refine ⟨fun door => ?_, fun h door online room => ?_, fun h door blocked => ?_⟩
    · exact answers_ok_of_serve rfl ready rfl (work.trans (by simp only [door]; rfl))
    · exact answers_ok_of_serve rfl ready rfl (work.trans (by simp only [door, online, room, and_self, if_true]; rfl))
    · have noFrame : ¬ (s.online h = true ∧ 0 < (s.line h.line).free) := by
        rintro ⟨online, room⟩
        rcases blocked with offline | full
        · simp [offline] at online
        · omega
      exact answers_ok_of_serve rfl ready rfl (work.trans (by simp only [door, noFrame, if_false]; rfl))
  case indicators =>
    have served := serveOwed_owedServed s l wf
    exact ⟨s.serveOwed l, rfl, served.keeps, served.line, served.otherLines, served.cabins⟩

end Sys2Proof.Machine
end

section
/-! PROOFS. FOLIO PUT: which fields are a folio's (R47, R49), its checks in order (R54), and what it makes of the slot and of the Reconcile
Scanner (R55, R56). -/

namespace Sys2Proof.Machine

open Sys2Proof

/-! ## The fields of R47 and R49 -/

theorem folioState_ofCode_eq_some {n : Nat} {st : FolioState} : FolioState.ofCode n = some st ↔ n = st.ctorIdx := by
  constructor
  · unfold FolioState.ofCode
    split <;> rintro ⟨⟩ <;> rfl
  · rintro rfl
    cases st <;> rfl

theorem exists_folioState {n : Nat} : (∃ st, FolioState.ofCode n = some st) ↔ n ≤ 2 := by
  constructor
  · rintro ⟨st, h⟩
    rw [folioState_ofCode_eq_some.1 h]
    cases st <;> decide
  · intro h
    match n, h with
    | 0, _ => exact ⟨.OPEN, rfl⟩
    | 1, _ => exact ⟨.HELD, rfl⟩
    | 2, _ => exact ⟨.CLOSED, rfl⟩

theorem exists_packageKind {n : Nat} : (∃ k, PackageKind.ofCode n = some k) ↔ n ≤ 1 := by
  match n with
  | 0 => exact iff_of_true ⟨.SOFT, rfl⟩ (by decide)
  | 1 => exact iff_of_true ⟨.FULL, rfl⟩ (by decide)
  | n + 2 => simp [PackageKind.ofCode]

/-- R49 for the package of a FOLIO PUT, when it carries one. -/
theorem exists_package (f : Option PackageFields) : (∃ p, packageOf f = some p) ↔
    ∀ p, f = some p → p.kind ≤ 1 ∧ p.cap ≤ 9999999 ∧ 1 ≤ p.units ∧ p.units ≤ 99 := by
  cases f with
  | none => simp [packageOf]
  | some p =>
    simp only [Option.some.injEq, forall_eq', ← exists_packageKind]
    unfold packageOf
    cases hk : PackageKind.ofCode p.kind with
    | none => simp [hk]
    | some kind => simp [hk]

/-- Fields are staged exactly when the state and the package name values and the other fields are in the ranges of R47. -/
theorem stagedOf_eq_some {f : FolioFields} {st : Staged} : stagedOf f = some st ↔
    ∃ state package, FolioState.ofCode f.state = some state ∧ packageOf f.package = some package
      ∧ (f.id ≤ 4294967295 ∧ f.limit ≤ 999999999 ∧ -999999999999 ≤ f.posted ∧ f.posted ≤ 999999999999 ∧ f.through ≤ 4294967295)
      ∧ ⟨state, f.limit, package, f.posted, f.through⟩ = st := by
  unfold stagedOf
  cases FolioState.ofCode f.state with
  | none => simp
  | some state =>
    cases packageOf f.package with
    | none => simp
    | some package => simp

/-- R47 and R49 for the fields of a FOLIO PUT. -/
theorem exists_staged (f : FolioFields) : (∃ st, stagedOf f = some st) ↔
    f.state ≤ 2 ∧ f.id ≤ 4294967295 ∧ f.limit ≤ 999999999 ∧ -999999999999 ≤ f.posted ∧ f.posted ≤ 999999999999
      ∧ f.through ≤ 4294967295
      ∧ ∀ p, f.package = some p → p.kind ≤ 1 ∧ p.cap ≤ 9999999 ∧ 1 ≤ p.units ∧ p.units ≤ 99 := by
  rw [← exists_folioState, ← exists_package]
  constructor
  · rintro ⟨st, h⟩
    obtain ⟨state, package, hs, hp, ⟨hid, hlimit, low, high, through⟩, -⟩ := stagedOf_eq_some.1 h
    exact ⟨⟨state, hs⟩, hid, hlimit, low, high, through, package, hp⟩
  · rintro ⟨⟨state, hs⟩, hid, hlimit, low, high, through, package, hp⟩
    exact ⟨_, stagedOf_eq_some.2 ⟨state, package, hs, hp, ⟨hid, hlimit, low, high, through⟩, rfl⟩⟩

/-- The staged limit, posted balance and posted-through are those of the request. -/
theorem staged_numbers {f : FolioFields} {st : Staged} (h : stagedOf f = some st) :
    st.limit = f.limit ∧ st.posted = f.posted ∧ st.through = f.through := by
  obtain ⟨_, _, -, -, -, rfl⟩ := stagedOf_eq_some.1 h
  exact ⟨rfl, rfl, rfl⟩

/-! ## The start and the end of a scan (R56, R57) -/

section Scan

variable {s : State} {sc : Scan}

theorem modifyFolio_of_get {k : Nat} {f : Folio} (held : s.folios.get k = some f) (g : Folio → Folio) :
    s.modifyFolio k g = { s with folios := s.folios.set k (g f) } := by
  unfold State.modifyFolio
  rw [Table.modify_of_get _ _ _ held]

theorem scanCheck_of_le (h : sc.cursor ≤ sc.last) : s.scanCheck sc = { s with scanner := some sc } :=
  if_neg (Nat.not_lt.2 h)

theorem scanCheck_of_lt (h : sc.last < sc.cursor) : s.scanCheck sc = s.completeReconcile sc := if_pos h

/-- Step 1 of R57: the posting is installed and RECONCILE_DONE raised, before any deferred CONFIRM is applied. -/
def State.folioPosted (s : State) (sc : Scan) : State :=
  (s.modifyFolio sc.slot (fun f => f.installed sc)).raise .RECONCILE_DONE (.folio sc.slot)

theorem completeReconcile_eq (s : State) (sc : Scan) : s.completeReconcile sc =
    { s.deferred.foldl State.applyDeferred (s.folioPosted sc) with deferred := [], scanner := none, intakeWaits := false } := rfl

/-- A reconcile that nothing waits for only installs its posting. -/
theorem completeReconcile_of_idle (noDeferred : s.deferred = []) (idle : s.scanner = none) (flows : s.intakeWaits = false) :
    s.completeReconcile sc = s.folioPosted sc := by
  obtain ⟨⟩ := s
  cases noDeferred
  cases idle
  cases flows
  rfl

theorem folioPosted_of_get {f : Folio} (held : s.folios.get sc.slot = some f) : s.folioPosted sc =
    ({ s with folios := s.folios.set sc.slot (f.installed sc) } : State).raise .RECONCILE_DONE (.folio sc.slot) := by
  rw [State.folioPosted, modifyFolio_of_get held]

end Scan

/-! ## The checks of R54 -/

section Checks

variable {s : State} {slot : Nat} {f : FolioFields} {st : Staged}

theorem folioIdElsewhere_iff {id : Nat} :
    s.folioIdElsewhere slot id = true ↔ ∃ cell ∈ s.folios.cells, cell.1 ≠ slot ∧ cell.2.id = id := by
  simp [State.folioIdElsewhere]

theorem journalNames_iff {id : Nat} : s.journalNames slot id = true ↔ ∃ e ∈ s.journal, e.folio = slot ∧ e.folioId = id := by
  simp [State.journalNames]

theorem folioPutRefusal_of_range (h : 4096 ≤ slot ∨ stagedOf f = none) : s.folioPutRefusal slot f = some .OUT_OF_RANGE := if_pos h

/-- A folio id that another slot holds (R54, check 2). -/
theorem folioPutRefusal_of_elsewhere (hslot : slot < 4096) (hst : stagedOf f = some st) (elsewhere : s.folioIdElsewhere slot f.id = true) :
    s.folioPutRefusal slot f = some .EXISTS := by
  simp [State.folioPutRefusal, Nat.not_le.2 hslot, hst, elsewhere]

/-- The check of a creation: no journal entry names the slot and the id (R54, check 7). -/
theorem folioPutRefusal_of_empty (hslot : slot < 4096) (hst : stagedOf f = some st) (nowhere : s.folioIdElsewhere slot f.id ≠ true)
    (empty : s.folios.get slot = none) :
    s.folioPutRefusal slot f = if s.journalNames slot f.id then some .IN_USE else none := by
  simp [State.folioPutRefusal, Nat.not_le.2 hslot, hst, nowhere, empty]

/-- The checks of a posting, in order (R54, checks 3 to 6). -/
theorem folioPutRefusal_of_occupied {live : Folio} (hslot : slot < 4096) (hst : stagedOf f = some st)
    (nowhere : s.folioIdElsewhere slot f.id ≠ true) (held : s.folios.get slot = some live) :
    s.folioPutRefusal slot f =
      if live.id ≠ f.id then some .WRONG_STATE
      else if s.scanner.isSome then some .BUSY
      else if f.through < s.retiredThrough then some .STALE_POSTING
      else if s.newestCharge < f.through then some .OUT_OF_RANGE
      else none := by
  simp [State.folioPutRefusal, Nat.not_le.2 hslot, hst, nowhere, held]

theorem folioPutWork_refused {status : Status} (h : s.folioPutRefusal slot f = some status) :
    s.folioPutWork slot f = s.refuse status := by
  simp [State.folioPutWork, h]

theorem folioPutWork_created (pass : s.folioPutRefusal slot f = none) (hst : stagedOf f = some st) (empty : s.folios.get slot = none) :
    s.folioPutWork slot f = { s with folios := s.folios.set slot (s.freshFolio f.id st) : State }.done := by
  simp [State.folioPutWork, pass, hst, empty]

theorem folioPutWork_posted {live : Folio} (pass : s.folioPutRefusal slot f = none) (hst : stagedOf f = some st)
    (held : s.folios.get slot = some live) :
    s.folioPutWork slot f = ⟨s.scanCheck (s.scanOf slot f.id st), .ACCEPTED, []⟩ := by
  simp [State.folioPutWork, pass, hst, held]

/-- A posting over a journal that holds an entry starts the scanner at the oldest one. -/
theorem scanCheck_scanOf_of_cons {id : Nat} {e : JournalEntry} {rest : List JournalEntry} (journal : s.journal = e :: rest)
    (last : e.number ≤ s.newestCharge) :
    s.scanCheck (s.scanOf slot id st) = { s with scanner := some ⟨slot, id, st, s.newestCharge, e.number, 0⟩ } := by
  have oldest : s.oldestCharge = e.number := by simp [State.oldestCharge, journal]
  rw [scanCheck_of_le (by simpa [State.scanOf, oldest] using last), State.scanOf, oldest]

/-- A posting over an empty journal completes at once. -/
theorem scanCheck_scanOf_of_nil {id : Nat} (journal : s.journal = []) :
    s.scanCheck (s.scanOf slot id st) = s.completeReconcile (s.scanOf slot id st) :=
  scanCheck_of_lt (by simp [State.scanOf, State.oldestCharge, journal])

end Checks

/-- Settles O23: the ranges and the ids decide first; an empty slot and an occupied one have each their own checks and their own work. -/
theorem folioPutByCase : Obligations.FolioPutByCase := by
  intro s tag slot f ready
  have refused {status : Status} (h : s.folioPutRefusal slot f = some status) : Refused (.folioPut tag slot f) s status :=
    refused_of_serve rfl ready rfl (folioPutWork_refused h)
  refine ⟨exists_staged f, fun h => refused (folioPutRefusal_of_range h), fun st hslot hst => ?_⟩
  rw [← folioIdElsewhere_iff]
  refine ⟨fun elsewhere => refused (folioPutRefusal_of_elsewhere hslot hst elsewhere), fun nowhere empty => ?empty,
    fun live nowhere held => ?occupied⟩
  case empty =>
    have check := folioPutRefusal_of_empty hslot hst nowhere empty
    refine ⟨fun named => refused (check.trans (if_pos (journalNames_iff.2 named))), fun free => ?_⟩
    have pass := check.trans (if_neg fun named => by
      obtain ⟨e, he, same⟩ := journalNames_iff.1 named
      exact free e he same)
    have work := folioPutWork_created pass hst empty
    obtain ⟨hlimit, hposted, -⟩ := staged_numbers hst
    rw [State.freshFolio, hlimit, hposted] at work
    exact answers_ok_of_serve rfl ready rfl work
  case occupied =>
    have check := folioPutRefusal_of_occupied hslot hst nowhere held
    refine ⟨fun other => refused (by simp [check, other]), fun same busy => refused (by simp [check, same, Option.isSome_iff_ne_none, busy]),
      fun same idle stale => refused (by simp [check, same, idle, stale]),
      fun same idle fresh above => refused (by simp [check, same, idle, Nat.not_lt.2 fresh, above]),
      fun same idle fresh upTo => ?_⟩
    have work := folioPutWork_posted (by simp [check, same, idle, Nat.not_lt.2 fresh, Nat.not_lt.2 upTo]) hst held
    refine ⟨fun e rest journal last => ?_, fun journal noDeferred flows => ?_⟩
    · rw [scanCheck_scanOf_of_cons journal last] at work
      exact answers_of_serve rfl ready rfl work
    · obtain ⟨hlimit, hposted, hthrough⟩ := staged_numbers hst
      rw [scanCheck_scanOf_of_nil journal, completeReconcile_of_idle noDeferred idle flows, folioPosted_of_get (f := live) held,
        Folio.installed, State.scanOf, hlimit, hposted, hthrough] at work
      exact answers_of_serve rfl ready rfl work

end Sys2Proof.Machine
end

section
/-! PROOFS. One step of the Reconcile Scanner (R57), and what the deferred CONFIRMs that a completion applies make of the journal and of the
latches (R92). -/

namespace Sys2Proof.Machine

open Sys2Proof

/-! ## Deferred CONFIRMs -/

section Confirms

variable {u v w : State} {c : NoticeClass}

theorem latch_evaluateJournal (u : State) (other : c ≠ .JOURNAL_HIGH) : u.evaluateJournal.latch c = u.latch c := by
  unfold State.evaluateJournal
  split
  · simp [other]
  · rfl

theorem latch_applyConfirm (u : State) (h : Hold) (other : c ≠ .JOURNAL_HIGH) : (u.applyConfirm h).latch c = u.latch c :=
  latch_evaluateJournal _ other

theorem journal_applyConfirm (u : State) (h : Hold) : (u.applyConfirm h).journal = u.journal ++ [u.entryOf h u.nextCharge] :=
  evaluateJournal_keeps _ .journal (by simp)

/-- A deferred CONFIRM finds no hold, which a carried one never does, or it is applied and may change its head and its line. -/
theorem applyDeferred_cases (u : State) (d : Deferred) :
    (d.carried = none ∧ u.applyDeferred d = u) ∨ ∃ h, Keeps [.heads, .lines] (u.applyConfirm h) (u.applyDeferred d) := by
  unfold State.applyDeferred
  cases d.carried with
  | some h => exact .inr ⟨h, keeps_refl _ _⟩
  | none =>
    cases (u.head? d.head).bind (·.hold) with
    | none => exact .inl ⟨rfl, rfl⟩
    | some h =>
      have taken : Keeps [.heads, .lines] (u.applyConfirm h) ((u.applyConfirm h).modifyHead d.head (fun hd => { hd with hold := none })) :=
        (modifyHead_keeps _ _ _).weaken (by simp)
      refine .inr ⟨h, ?_⟩
      dsimp only
      split
      · exact taken.trans ((modifyLine_keeps _ _ _).weaken (by simp))
      · exact taken

/-- What the deferred CONFIRMs `ds` make of the journal, which `new` joins, and of the latches. -/
structure ConfirmsApplied (ds : List Deferred) (new : List JournalEntry) (u v : State) : Prop where
  journal : v.journal = u.journal ++ new
  length_le : new.length ≤ ds.length
  length_eq : (∀ d ∈ ds, d.carried ≠ none) → new.length = ds.length
  latch : ∀ c, c ≠ .JOURNAL_HIGH → v.latch c = u.latch c

theorem ConfirmsApplied.refl (u : State) : ConfirmsApplied [] [] u u where
  journal := by simp
  length_le := Nat.le_refl _
  length_eq _ := rfl
  latch _ _ := rfl

theorem ConfirmsApplied.cons {d : Deferred} {ds : List Deferred} {a b : List JournalEntry} (h : ConfirmsApplied [d] a u v)
    (k : ConfirmsApplied ds b v w) : ConfirmsApplied (d :: ds) (a ++ b) u w where
  journal := by rw [k.journal, h.journal, List.append_assoc]
  length_le := by
    have ha := h.length_le
    have hb := k.length_le
    simp only [List.length_append, List.length_cons, List.length_nil] at *
    omega
  length_eq carried := by
    obtain ⟨hd, hds⟩ := List.forall_mem_cons.1 carried
    have ha := h.length_eq (by simpa using hd)
    have hb := k.length_eq hds
    simp only [List.length_append, List.length_cons, List.length_nil] at *
    omega
  latch c other := (k.latch c other).trans (h.latch c other)

/-- One deferred CONFIRM makes at most one entry, and one when it is carried. -/
theorem applyDeferred_confirmsApplied (u : State) (d : Deferred) : ∃ new, ConfirmsApplied [d] new u (u.applyDeferred d) := by
  rcases applyDeferred_cases u d with ⟨notCarried, same⟩ | ⟨h, applied⟩
  · rw [same]
    exact ⟨[], by simp, by simp, by simp [notCarried], fun _ _ => rfl⟩
  · refine ⟨[u.entryOf h u.nextCharge], ?_, Nat.le_refl _, fun _ => rfl, fun c other => ?_⟩
    · exact (applied .journal (by simp)).trans (journal_applyConfirm u h)
    · exact (State.latch_of_latches (applied .latches (by simp)) c).trans (latch_applyConfirm u h other)

theorem applyDeferreds_confirmsApplied (ds : List Deferred) (u : State) :
    ∃ new, ConfirmsApplied ds new u (ds.foldl State.applyDeferred u) := by
  induction ds generalizing u with
  | nil => exact ⟨[], ConfirmsApplied.refl u⟩
  | cons d ds ih =>
    obtain ⟨first, one⟩ := applyDeferred_confirmsApplied u d
    obtain ⟨later, rest⟩ := ih (u.applyDeferred d)
    exact ⟨first ++ later, one.cons rest⟩

end Confirms

/-! ## A step of the scan -/

/-- What the entry at the cursor adds to the sum, 0 when the journal has none (R57). -/
def Scan.counted (sc : Scan) (journal : List JournalEntry) : Nat :=
  match journal.find? (fun e => e.number = sc.cursor) with
  | some e => sc.added e
  | none => 0

theorem examined_eq (sc : Scan) (journal : List JournalEntry) :
    sc.examined journal = { sc with cursor := sc.cursor + 1, sum := sc.sum + sc.counted journal } := by
  unfold Scan.examined Scan.counted
  cases journal.find? (fun e => e.number = sc.cursor) <;> rfl

section Step

variable {s : State} {sc : Scan}

theorem scanStep_of_lt (scanning : s.scanner = some sc) (more : sc.cursor < sc.last) :
    s.scanStep = { s with scanner := some (sc.examined s.journal) } := by
  simp only [State.scanStep, scanning]
  exact scanCheck_of_le (by rw [examined_eq]; exact more)

theorem scanStep_of_ge (scanning : s.scanner = some sc) (last : sc.last ≤ sc.cursor) :
    s.scanStep = s.completeReconcile (sc.examined s.journal) := by
  simp only [State.scanStep, scanning]
  exact scanCheck_of_lt (by rw [examined_eq]; exact Nat.lt_succ_of_le last)

theorem latch_folioPosted : (s.folioPosted sc).latch .RECONCILE_DONE = (s.latch .RECONCILE_DONE).raised (.folio sc.slot) s.clock.time := by
  simp only [State.folioPosted, State.latch_raise, if_true]
  rfl

end Step

/-- Settles O24: a step adds the entry at the cursor, and the one that passes the end posts the folio and folds R92 over the deferred list. -/
theorem scanStepExaminesOneEntry : Obligations.ScanStepExaminesOneEntry := by
  refine fun s => ⟨fun idle => ?idle, fun sc scanning => ⟨fun more => ?more, fun last => ?last⟩⟩
  case idle => exact congrArg Host.Outcome.next (by simp only [State.scanStep, idle])
  case more =>
    have step := scanStep_of_lt scanning more
    rw [examined_eq] at step
    exact congrArg Host.Outcome.next step
  case last =>
    have step := scanStep_of_ge scanning last
    obtain ⟨new, applied⟩ := applyDeferreds_confirmsApplied s.deferred (s.folioPosted (sc.examined s.journal))
    refine ⟨s.completeReconcile (sc.examined s.journal), new, congrArg Host.Outcome.next step, ?_, completeReconcile_keeps s _,
      ?_, applied.journal, applied.length_le, applied.length_eq, fun f noDeferred held => ?_⟩
    · have confirmed : State.applyDeferred = _ := funext fun u => funext fun d => applyDeferred_eq u d
      rw [completeReconcile_eq, examined_eq, confirmed]
      rfl
    · have raised := (applied.latch .RECONCILE_DONE (by decide)).trans latch_folioPosted
      rw [examined_eq] at raised ⊢
      exact raised
    · have noEntry : new = [] := by simpa [noDeferred] using applied.length_le
      rw [completeReconcile_eq, noDeferred, examined_eq]
      exact ⟨noEntry, rfl, rfl, rfl, Table.modify_of_get _ _ _ held⟩

end Sys2Proof.Machine
end

section
/-! PROOFS. FOLIO LIMIT and FOLIO STATE change a folio and what is staged for it (R58 to R60), and FOLIO FREE empties its slot (R62). -/

namespace Sys2Proof.Machine

open Sys2Proof

section FolioRequests

variable {s : State} {slot limit state : Nat} {f : Folio} {st : FolioState}

/-! ## The folio and what is staged for it (R58) -/

theorem restage_of_other (other : ∀ sc, s.scanner = some sc → sc.slot ≠ slot) (g : Staged → Staged) : s.restage slot g = s := by
  have same : s.scanner.map (fun sc => if sc.slot = slot then { sc with staged := g sc.staged } else sc) = s.scanner := by
    cases h : s.scanner with
    | none => rfl
    | some sc => simp [other sc h]
  unfold State.restage
  rw [same]

theorem restage_of_same {sc : Scan} (scanning : s.scanner = some sc) (same : sc.slot = slot) (g : Staged → Staged) :
    s.restage slot g = { s with scanner := some { sc with staged := g sc.staged } } := by
  simp [State.restage, scanning, same]

/-- A folio that no reconcile works on is changed alone. -/
theorem folioEdited_of_other (held : s.folios.get slot = some f) (other : ∀ sc, s.scanner = some sc → sc.slot ≠ slot)
    (g : Folio → Folio) (h : Staged → Staged) :
    (s.modifyFolio slot g).restage slot h = { s with folios := s.folios.set slot (g f) } :=
  (restage_of_other (s := s.modifyFolio slot g) other h).trans (modifyFolio_of_get held g)

/-- A folio under reconcile is changed, and its staged fields with it. -/
theorem folioEdited_of_same {sc : Scan} (held : s.folios.get slot = some f) (scanning : s.scanner = some sc) (same : sc.slot = slot)
    (g : Folio → Folio) (h : Staged → Staged) : (s.modifyFolio slot g).restage slot h =
      { s with folios := s.folios.set slot (g f), scanner := some { sc with staged := h sc.staged } } := by
  rw [restage_of_same (s := s.modifyFolio slot g) scanning same h, modifyFolio_of_get held g]

/-! ## FOLIO LIMIT and FOLIO STATE (R59, R60) -/

theorem folioLimitWork_of_range (bad : 4096 ≤ slot ∨ 999999999 < limit) : s.folioLimitWork slot limit = s.refuse .OUT_OF_RANGE :=
  if_pos bad

/-- FOLIO LIMIT with its operands in range. -/
theorem folioLimitWork_of_inRange (hslot : slot < 4096) (hlimit : limit ≤ 999999999) : s.folioLimitWork slot limit =
    if (s.folios.get slot).isNone then s.refuse .NOT_FOUND
    else ((s.modifyFolio slot (fun f => { f with limit := limit })).restage slot (fun st => { st with limit := limit })).done :=
  if_neg (not_or.2 ⟨Nat.not_le.2 hslot, Nat.not_lt.2 hlimit⟩)

theorem folioStateWork_of_range (bad : 4096 ≤ slot ∨ 2 < state) : s.folioStateWork slot state = s.refuse .OUT_OF_RANGE := by
  unfold State.folioStateWork
  cases hs : FolioState.ofCode state with
  | none => rfl
  | some st =>
    have low := exists_folioState.1 ⟨st, hs⟩
    exact if_pos (bad.resolve_right (Nat.not_lt.2 low))

/-- FOLIO STATE with its operands in range. -/
theorem folioStateWork_of_inRange (hslot : slot < 4096) (hs : FolioState.ofCode state = some st) : s.folioStateWork slot state =
    if (s.folios.get slot).isNone then s.refuse .NOT_FOUND
    else ((s.modifyFolio slot (fun f => { f with state := st })).restage slot (fun x => { x with state := st })).done := by
  simp only [State.folioStateWork, hs]
  exact if_neg (Nat.not_le.2 hslot)

/-! ## FOLIO FREE (R62) -/

theorem underReconcile_iff {id : Nat} : s.underReconcile slot id = true ↔ ∃ sc, s.scanner = some sc ∧ sc.slot = slot ∧ sc.id = id := by
  unfold State.underReconcile
  cases s.scanner <;> simp

theorem personsNaming_ne_zero : s.personsNaming slot ≠ 0 ↔ ∃ cell ∈ s.persons.cells, cell.2.ident.folio = some slot := by
  simp [State.personsNaming, Table.count]

theorem folioFreeWork_of_range (bad : 4096 ≤ slot) : s.folioFreeWork slot = s.refuse .OUT_OF_RANGE := if_pos bad

theorem folioFreeWork_of_none (hslot : slot < 4096) (empty : s.folios.get slot = none) : s.folioFreeWork slot = s.refuse .NOT_FOUND := by
  simp [State.folioFreeWork, Nat.not_le.2 hslot, empty]

/-- FOLIO FREE of an occupied slot: the checks of R62, in order. -/
theorem folioFreeWork_of_some (hslot : slot < 4096) (held : s.folios.get slot = some f) : s.folioFreeWork slot =
    if s.underReconcile slot f.id then s.refuse .BUSY
    else if s.personsNaming slot ≠ 0 ∨ f.unposted ≠ 0 ∨ f.held ≠ 0 then s.refuse .IN_USE
    else { s with folios := s.folios.erase slot : State }.done := by
  simp only [State.folioFreeWork, held]
  exact if_neg (Nat.not_le.2 hslot)

end FolioRequests

/-- Settles O25: an edit writes the folio, and the staged fields of a scan that works on it; a free slot is left by the checks of R62. -/
theorem folioEditsAndFree : Obligations.FolioEditsAndFree := by
  refine ⟨fun s tag slot limit state => ⟨fun ready => ⟨fun bad => ?limitRange, fun hslot hlimit empty => ?limitNone,
      fun f hslot hlimit held => ?limit⟩,
    fun ready => ⟨fun bad => ?stateRange, fun hslot hstate empty => ?stateNone, fun f st hslot hs held => ?state⟩⟩,
    fun s tag slot ready => ⟨fun bad => ?freeRange, fun hslot empty => ?freeNone, fun f hslot held => ?free⟩⟩
  case limitRange => exact refused_of_serve rfl ready rfl (folioLimitWork_of_range bad)
  case limitNone => exact refused_of_serve rfl ready rfl ((folioLimitWork_of_inRange hslot hlimit).trans (if_pos (by simp [empty])))
  case limit =>
    have work := (folioLimitWork_of_inRange (s := s) hslot hlimit).trans (if_neg (by simp [held]))
    refine ⟨fun other => ?_, fun sc scanning same => ?_⟩
    · exact answers_ok_of_serve rfl ready rfl (work.trans (congrArg State.done (folioEdited_of_other held other _ _)))
    · exact answers_ok_of_serve rfl ready rfl (work.trans (congrArg State.done (folioEdited_of_same held scanning same _ _)))
  case stateRange => exact refused_of_serve rfl ready rfl (folioStateWork_of_range bad)
  case stateNone =>
    obtain ⟨st, hs⟩ := exists_folioState.2 hstate
    exact refused_of_serve rfl ready rfl ((folioStateWork_of_inRange hslot hs).trans (if_pos (by simp [empty])))
  case state =>
    have work := (folioStateWork_of_inRange (s := s) hslot (folioState_ofCode_eq_some.2 hs.symm)).trans (if_neg (by simp [held]))
    refine ⟨fun other => ?_, fun sc scanning same => ?_⟩
    · exact answers_ok_of_serve rfl ready rfl (work.trans (congrArg State.done (folioEdited_of_other held other _ _)))
    · exact answers_ok_of_serve rfl ready rfl (work.trans (congrArg State.done (folioEdited_of_same held scanning same _ _)))
  case freeRange => exact refused_of_serve rfl ready rfl (folioFreeWork_of_range bad)
  case freeNone => exact refused_of_serve rfl ready rfl (folioFreeWork_of_none hslot empty)
  case free =>
    have work := folioFreeWork_of_some hslot held
    rw [← underReconcile_iff, ← personsNaming_ne_zero]
    exact ⟨fun scanning => refused_of_serve rfl ready rfl (work.trans (if_pos scanning)),
      fun idle used => refused_of_serve rfl ready rfl (work.trans ((if_neg idle).trans (if_pos used))),
      fun idle unused => answers_ok_of_serve rfl ready rfl (work.trans ((if_neg idle).trans (if_neg unused)))⟩

end Sys2Proof.Machine
end

section
/-! PROOFS. VENUE PUT (R63), UPSTREAM SET (R52), JOURNAL BASE (R96) and CROSSING BASE (R132). -/

namespace Sys2Proof.Machine

open Sys2Proof

section Requests

variable {s : State} {venue rate eligible value n : Nat}

/-! ## VENUE PUT (R63) -/

theorem venuePutWork_of_range (bad : 64 ≤ venue ∨ 1 < eligible) : s.venuePutWork venue rate eligible = s.refuse .OUT_OF_RANGE := by
  unfold State.venuePutWork
  cases he : yesNo eligible with
  | none => rfl
  | some e =>
    obtain ⟨low, -⟩ := yesNo_eq_some.1 he
    exact if_pos (bad.resolve_right (Nat.not_lt.2 low))

/-- VENUE PUT with its operands in range. -/
theorem venuePutWork_of_inRange (hv : venue < 64) (he : eligible ≤ 1) : s.venuePutWork venue rate eligible =
    ⟨{ s with venues := s.venues.set venue ⟨min rate 3000, decide (eligible = 1)⟩ }, if 3000 < rate then .OK_CLAMPED else .OK,
      u16 (min rate 3000)⟩ := by
  simp only [State.venuePutWork, yesNo_eq_some.2 ⟨he, rfl⟩]
  exact if_neg (Nat.not_le.2 hv)

/-! ## UPSTREAM SET (R52) -/

theorem upstreamSetWork_of_gt (h : 1 < value) : s.upstreamSetWork value = s.refuse .OUT_OF_RANGE := by
  obtain ⟨k, rfl⟩ := Nat.exists_eq_add_of_le' h
  rfl

/-- UPSTREAM SET of a state of the link is answered with the state and the epoch it leaves. -/
theorem upstreamSetWork_of_code {u : Upstream} (h : Upstream.ofCode value = some u) : s.upstreamSetWork value =
    (s.withUpstream u).done (u8 (s.withUpstream u).upstream.ctorIdx ++ u32 (s.withUpstream u).epoch) := by
  simp only [State.upstreamSetWork, h]

theorem withUpstream_offline (s : State) : s.withUpstream .OFFLINE = { s with upstream := .OFFLINE } := by
  unfold State.withUpstream
  cases h : s.upstream with
  | ONLINE => rfl
  | OFFLINE => simp only [← h]

theorem withUpstream_online_of_online (h : s.upstream = .ONLINE) : s.withUpstream .ONLINE = s := by
  simp [State.withUpstream, h]

theorem withUpstream_online_of_offline (h : s.upstream = .OFFLINE) : s.withUpstream .ONLINE =
    { s with upstream := .ONLINE, epoch := if s.epoch = 4294967295 then 0 else s.epoch + 1 } := by
  simp [State.withUpstream, h]

/-! ## JOURNAL BASE (R96) -/

/-- A number that is in the range both bases check. -/
theorem not_outOfRange_of_number (low : 1 ≤ n) (high : n ≤ 4294967295) : ¬ (n = 0 ∨ max32 < n) :=
  not_or.2 ⟨Nat.ne_of_gt low, Nat.not_lt.2 high⟩

theorem journalBaseWork_of_range (bad : n = 0 ∨ 4294967295 < n) : s.journalBaseWork n = s.refuse .OUT_OF_RANGE := if_pos bad

/-- The journal starts at number `n`: every folio is posted through the number before it. -/
def State.journalBased (s : State) (n : Nat) : State :=
  { s with retiredThrough := n - 1, folios := s.folios.map (fun _ f => { f with through := n - 1 }) }

/-- JOURNAL BASE with its number in range: the checks of R96, in order. -/
theorem journalBaseWork_of_inRange (low : 1 ≤ n) (high : n ≤ 4294967295) : s.journalBaseWork n =
    if !s.journal.isEmpty then s.refuse .WRONG_STATE
    else if 4294967296 - n < s.openHolds.length then s.refuse .FULL
    else (s.journalBased n).evaluateJournal.done :=
  if_neg (not_outOfRange_of_number low high)

/-- An empty journal is below every high-water (R97). -/
theorem evaluateJournal_of_nil (empty : s.journal = []) (highWater : 1 ≤ s.params.highWater) : s.evaluateJournal = s :=
  if_neg (by rw [empty]; exact Nat.not_le.2 highWater)

theorem journalBased_keeps (s : State) (n : Nat) : Keeps [.retiredThrough, .folios] s (s.journalBased n) := by
  intro p hp; cases p <;> first | rfl | simp at hp

theorem nextCharge_of_nil (empty : s.journal = []) : s.nextCharge = s.retiredThrough + 1 := by
  simp [State.nextCharge, empty]

/-! ## CROSSING BASE (R132) -/

theorem crossingBaseWork_of_range (bad : n = 0 ∨ 4294967295 < n) : s.crossingBaseWork n = s.refuse .OUT_OF_RANGE := if_pos bad

/-- CROSSING BASE with its number in range: it is refused while a bank holds anything to number from. -/
theorem crossingBaseWork_of_inRange (low : 1 ≤ n) (high : n ≤ 4294967295) : s.crossingBaseWork n =
    if s.filling.records ≠ [] ∨ s.other.state ≠ .EMPTY then s.refuse .WRONG_STATE else { s with nextCrossing := n : State }.done := by
  simp [State.crossingBaseWork, not_outOfRange_of_number low high]

end Requests

/-- Settles O26: each request is refused or done by its checks in order. -/
theorem venueUpstreamAndBases : Obligations.VenueUpstreamAndBases := by
  refine ⟨fun s tag venue rate eligible value => ⟨fun ready => ⟨fun bad => ?venueRange, fun hv he => ?venue⟩, fun ready => ?upstream⟩,
    fun s tag n ready => ⟨fun bad => ?journalRange, fun low high => ?journal⟩,
    fun s tag n ready => ⟨fun bad => ?crossingRange, fun low high occupied => ?crossingWrong, fun low high empty free => ?crossing⟩⟩
  case venueRange => exact refused_of_serve rfl ready rfl (venuePutWork_of_range bad)
  case venue =>
    have work := venuePutWork_of_inRange (s := s) (rate := rate) hv he
    refine ⟨fun above => answers_of_serve rfl ready rfl ?_, fun within => answers_of_serve rfl ready rfl ?_⟩
    · rw [if_pos above, Nat.min_eq_right (Nat.le_of_lt above)] at work
      exact work
    · rw [if_neg (Nat.not_lt.2 within), Nat.min_eq_left within] at work
      exact work
  case upstream =>
    refine ⟨fun bad => refused_of_serve rfl ready rfl (upstreamSetWork_of_gt bad), ?_, ?_, ?_, ?_⟩ <;> rintro rfl
    · exact answers_ok_of_serve rfl ready rfl ((upstreamSetWork_of_code rfl).trans (by rw [withUpstream_offline]; rfl))
    · intro was
      exact answers_ok_of_serve rfl ready rfl
        ((upstreamSetWork_of_code rfl).trans (by rw [withUpstream_online_of_online was, was]; rfl))
    · intro was below
      exact answers_ok_of_serve rfl ready rfl
        ((upstreamSetWork_of_code rfl).trans (by rw [withUpstream_online_of_offline was, if_neg (Nat.ne_of_lt below)]; rfl))
    · intro was top
      exact answers_ok_of_serve rfl ready rfl
        ((upstreamSetWork_of_code rfl).trans (by rw [withUpstream_online_of_offline was, if_pos top]; rfl))
  case journalRange => exact refused_of_serve rfl ready rfl (journalBaseWork_of_range bad)
  case journal =>
    have work := journalBaseWork_of_inRange (s := s) low high
    refine ⟨fun occupied => refused_of_serve rfl ready rfl (work.trans (if_pos (by simp [occupied]))),
      fun empty full => refused_of_serve rfl ready rfl (by simp only [work, empty, full]; rfl), fun empty room highWater => ?_⟩
    have done := evaluateJournal_of_nil (s := s.journalBased n) empty highWater
    refine ⟨s.journalBased n, answers_ok_of_serve rfl ready rfl ?_, journalBased_keeps s n, ?_, rfl, fun k => Table.get_map _ _ k⟩
    · simp [work, empty, Nat.not_lt.2 room, done]
    · exact (nextCharge_of_nil (s := s.journalBased n) empty).trans (Nat.sub_add_cancel low)
  case crossingRange => exact refused_of_serve rfl ready rfl (crossingBaseWork_of_range bad)
  case crossingWrong => exact refused_of_serve rfl ready rfl ((crossingBaseWork_of_inRange low high).trans (if_pos occupied))
  case crossing => exact answers_ok_of_serve rfl ready rfl ((crossingBaseWork_of_inRange low high).trans (if_neg (by simp [empty, free])))

end Sys2Proof.Machine
end

section
/-! PROOFS. The figures of a purchase, and that units given out in descending order of their worth cover the most (R70 to R76). -/

namespace Sys2Proof.Machine

open Sys2Proof

/-! ## Sums -/

section Sums

variable {α : Type} {f g : α → Nat} {p : α → Bool}

theorem sum_map_filter_of_zero {l : List α} (zero : ∀ x ∈ l, p x = false → f x = 0) : ((l.filter p).map f).sum = (l.map f).sum := by
  induction l with
  | nil => rfl
  | cons x rest ih =>
    obtain ⟨here, zero⟩ := List.forall_mem_cons.1 zero
    rw [List.filter_cons, List.map_cons, List.sum_cons, ← ih zero]
    split
    · rw [List.map_cons, List.sum_cons]
    · rename_i fails
      rw [here (Bool.eq_false_iff.2 fails), Nat.zero_add]

theorem sum_map_filter_le (p : α → Bool) (l : List α) : ((l.filter p).map f).sum ≤ (l.map f).sum := by
  induction l with
  | nil => exact Nat.le_refl _
  | cons x rest ih =>
    rw [List.filter_cons, List.map_cons, List.sum_cons]
    split
    · rw [List.map_cons, List.sum_cons]
      exact Nat.add_le_add_left ih _
    · exact Nat.le_trans ih (Nat.le_add_left _ _)

theorem sum_map_add_sum_map (l : List α) : (l.map f).sum + (l.map g).sum = (l.map (fun x => f x + g x)).sum := by
  induction l with
  | nil => rfl
  | cons x rest ih =>
    simp only [List.map_cons, List.sum_cons, ← ih]
    omega

theorem sum_map_eq_zero {l : List α} (zero : ∀ x ∈ l, f x = 0) : (l.map f).sum = 0 :=
  List.sum_eq_zero_iff_forall_eq_nat.2 (List.forall_mem_map.2 zero)

end Sums

/-! ## The claims of the lines (R71, R73) -/

section Claims

variable {pkg : Option Package} {eligible : Bool} {n : Nat} {lines : List PurchaseLine}

/-- The order of R73: a claim may be served before one that is worth no more. -/
abbrev Claim.mayPrecede (c d : Claim) : Prop := d.value ≤ c.value

theorem insertClaim_perm (c : Claim) (claims : List Claim) : (insertClaim c claims).Perm (c :: claims) := by
  induction claims with
  | nil => exact .refl _
  | cons d rest ih =>
    unfold insertClaim
    split
    · exact .refl _
    · exact (ih.cons d).trans (.swap c d rest)

/-- A claim joins claims in descending order at its place among them. -/
theorem insertClaim_descending (c : Claim) {claims : List Claim} (descending : claims.Pairwise Claim.mayPrecede) :
    (insertClaim c claims).Pairwise Claim.mayPrecede := by
  induction claims with
  | nil => exact List.pairwise_singleton _ _
  | cons d rest ih =>
    obtain ⟨first, later⟩ := List.pairwise_cons.1 descending
    unfold insertClaim
    split
    · rename_i higher
      refine List.pairwise_cons.2 ⟨fun x hx => ?_, descending⟩
      rcases List.mem_cons.1 hx with rfl | hx
      · exact higher
      · exact Nat.le_trans (first x hx) higher
    · rename_i lower
      refine List.pairwise_cons.2 ⟨fun x hx => ?_, ih later⟩
      rcases List.mem_cons.1 ((insertClaim_perm c rest).mem_iff.1 hx) with rfl | hx
      · exact Nat.le_of_lt (Nat.lt_of_not_le lower)
      · exact first x hx

/-- The claim of a line with its place. -/
def claimOf (pkg : Option Package) (eligible : Bool) (x : PurchaseLine × Nat) : Claim := ⟨x.2, perUnit pkg eligible x.1, x.1.qty⟩

/-- The lines that may be given units, with their places. -/
def claimants (pkg : Option Package) (eligible : Bool) (n : Nat) (lines : List PurchaseLine) : List (PurchaseLine × Nat) :=
  (lines.zipIdx n).filter (fun x => decide (perUnit pkg eligible x.1 ≠ 0))

theorem claimsFrom_cons (l : PurchaseLine) : claimsFrom pkg eligible n (l :: lines) =
    if perUnit pkg eligible l = 0 then claimsFrom pkg eligible (n + 1) lines
    else insertClaim (claimOf pkg eligible (l, n)) (claimsFrom pkg eligible (n + 1) lines) := rfl

theorem claimants_cons (l : PurchaseLine) : claimants pkg eligible n (l :: lines) =
    if perUnit pkg eligible l = 0 then claimants pkg eligible (n + 1) lines
    else (l, n) :: claimants pkg eligible (n + 1) lines := by
  simp only [claimants, List.zipIdx_cons, List.filter_cons, decide_eq_true_eq, ne_eq, ite_not]

theorem claimsFrom_perm : (claimsFrom pkg eligible n lines).Perm ((claimants pkg eligible n lines).map (claimOf pkg eligible)) := by
  induction lines generalizing n with
  | nil => exact .refl _
  | cons l rest ih =>
    rw [claimsFrom_cons, claimants_cons]
    split
    · exact ih
    · exact (insertClaim_perm _ _).trans (ih.cons _)

theorem claimsFrom_descending : (claimsFrom pkg eligible n lines).Pairwise Claim.mayPrecede := by
  induction lines generalizing n with
  | nil => exact .nil
  | cons l rest ih =>
    rw [claimsFrom_cons]
    split
    · exact ih
    · exact insertClaim_descending _ ih

theorem mem_claimsFrom {c : Claim} : c ∈ claimsFrom pkg eligible n lines ↔
    ∃ x ∈ lines.zipIdx n, perUnit pkg eligible x.1 ≠ 0 ∧ claimOf pkg eligible x = c := by
  rw [claimsFrom_perm.mem_iff, List.mem_map]
  simp only [claimants, List.mem_filter, decide_eq_true_eq, and_assoc]

/-- No two lines have the same place. -/
theorem places_nodup : ((claimsFrom pkg eligible n lines).map Claim.place).Nodup := by
  have sub : ((claimants pkg eligible n lines).map Prod.snd).Sublist (List.range' n lines.length) :=
    List.zipIdx_map_snd n lines ▸ List.filter_sublist.map _
  have nodup := (List.nodup_range' (step := 1)).sublist sub
  rwa [(claimsFrom_perm.map Claim.place).nodup_iff, List.map_map]

theorem sum_claims (f : Claim → Nat) : ((claimsFrom pkg eligible n lines).map f).sum =
    ((claimants pkg eligible n lines).map (fun x => f (claimOf pkg eligible x))).sum := by
  rw [(claimsFrom_perm.map f).sum_nat, List.map_map]
  rfl

/-- A sum over the claims is one over all lines when a line without a claim adds nothing. -/
theorem sum_claims_of_free {f : Claim → Nat}
    (free : ∀ x ∈ lines.zipIdx n, perUnit pkg eligible x.1 = 0 → f (claimOf pkg eligible x) = 0) :
    ((claimsFrom pkg eligible n lines).map f).sum = ((lines.zipIdx n).map (fun x => f (claimOf pkg eligible x))).sum := by
  rw [sum_claims]
  exact sum_map_filter_of_zero fun x hx unpaid => free x hx (Decidable.not_not.1 (of_decide_eq_false unpaid))

theorem sum_claims_le (f : Claim → Nat) : ((claimsFrom pkg eligible n lines).map f).sum ≤
    ((lines.zipIdx n).map (fun x => f (claimOf pkg eligible x))).sum := by
  rw [sum_claims]
  exact sum_map_filter_le _ _

end Claims

/-! ## Giving out units (R73) -/

section Giving

variable {left p : Nat} {c : Claim} {claims : List Claim}

theorem unitsGiven_cons (left : Nat) (c : Claim) (claims : List Claim) (p : Nat) : unitsGiven (allocate left (c :: claims)) p =
    if c.place = p then min c.qty left else unitsGiven (allocate (left - c.qty) claims) p := by
  by_cases h : c.place = p <;> simp [unitsGiven, allocate, h]

theorem unitsGiven_of_noClaim (unclaimed : p ∉ claims.map Claim.place) : unitsGiven (allocate left claims) p = 0 := by
  induction claims generalizing left with
  | nil => rfl
  | cons c rest ih =>
    obtain ⟨other, unclaimed⟩ := not_or.1 (mt List.mem_cons.2 unclaimed)
    rw [unitsGiven_cons, if_neg (Ne.symm other), ih unclaimed]

/-- The units given to the place of each claim are those that its turn gave it. -/
theorem map_unitsGiven (nodup : (claims.map Claim.place).Nodup) (f : Claim → Nat → Nat) :
    claims.map (fun c => f c (unitsGiven (allocate left claims) c.place)) =
      (claims.zip (allocate left claims)).map (fun x => f x.1 x.2.2) := by
  induction claims generalizing left with
  | nil => rfl
  | cons c rest ih =>
    obtain ⟨fresh, nodup⟩ := List.nodup_cons.1 nodup
    have others : ∀ d ∈ rest, c.place ≠ d.place := fun d hd same => fresh (same ▸ List.mem_map_of_mem hd)
    have here : unitsGiven (allocate left (c :: rest)) c.place = min c.qty left := (unitsGiven_cons _ _ _ _).trans (if_pos rfl)
    have later : ∀ d ∈ rest, unitsGiven (allocate left (c :: rest)) d.place = unitsGiven (allocate (left - c.qty) rest) d.place :=
      fun d hd => (unitsGiven_cons _ _ _ _).trans (if_neg (others d hd))
    rw [List.map_cons, here, List.map_congr_left fun d hd => congrArg (f d) (later d hd), ih nodup]
    rfl

theorem unitsGiven_le (nodup : (claims.map Claim.place).Nodup) (hc : c ∈ claims) :
    unitsGiven (allocate left claims) c.place ≤ c.qty := by
  induction claims generalizing left with
  | nil => cases hc
  | cons d rest ih =>
    obtain ⟨fresh, nodup⟩ := List.nodup_cons.1 nodup
    rw [unitsGiven_cons]
    rcases List.mem_cons.1 hc with rfl | hc
    · rw [if_pos rfl]
      exact Nat.min_le_left _ _
    · rw [if_neg fun same : d.place = c.place => fresh (same ▸ List.mem_map_of_mem hc)]
      exact ih nodup hc

/-- No more units are given out than there are. -/
theorem sum_allocate_le : ((claims.zip (allocate left claims)).map (fun x => x.2.2)).sum ≤ left := by
  induction claims generalizing left with
  | nil => exact Nat.zero_le _
  | cons c rest ih =>
    have later := ih (left := left - c.qty)
    simp only [allocate, List.zip_cons_cons, List.map_cons, List.sum_cons]
    omega

/-! ## The most that units can cover (R73) -/

/-- What giving out `left` units to the claims in turn covers. -/
def claimsWorth (left : Nat) (claims : List Claim) : Nat := ((claims.zip (allocate left claims)).map (fun x => x.1.value * x.2.2)).sum

theorem claimsWorth_cons (left : Nat) (c : Claim) (claims : List Claim) :
    claimsWorth left (c :: claims) = c.value * min c.qty left + claimsWorth (left - c.qty) claims := by
  simp [claimsWorth, allocate]

/-- Each unit more adds at most the highest value. -/
theorem claimsWorth_add_le {v : Nat} (bound : ∀ c ∈ claims, c.value ≤ v) (more : Nat) :
    claimsWorth (left + more) claims ≤ claimsWorth left claims + v * more := by
  induction claims generalizing left more with
  | nil => exact Nat.zero_le _
  | cons c rest ih =>
    obtain ⟨head, tail⟩ := List.forall_mem_cons.1 bound
    obtain ⟨here, later, rfl, taken, rem⟩ : ∃ here later, more = here + later
        ∧ min c.qty (left + more) = min c.qty left + here ∧ left + more - c.qty = left - c.qty + later :=
      ⟨min c.qty (left + more) - min c.qty left, more - (min c.qty (left + more) - min c.qty left), by omega, by omega, by omega⟩
    rw [claimsWorth_cons, claimsWorth_cons, taken, rem]
    have := ih tail later (left := left - c.qty)
    have := Nat.mul_le_mul_right here head
    rw [Nat.mul_add, Nat.mul_add]
    omega

/-- The exchange argument of R73: in descending order of value no way to give the units covers more than giving them out in turn. -/
theorem sum_le_claimsWorth (descending : claims.Pairwise Claim.mayPrecede) {given : Nat → Nat}
    (within : ∀ c ∈ claims, given c.place ≤ c.qty) (total : (claims.map (fun c => given c.place)).sum ≤ left) :
    (claims.map (fun c => c.value * given c.place)).sum ≤ claimsWorth left claims := by
  induction claims generalizing left with
  | nil => exact Nat.zero_le _
  | cons c rest ih =>
    obtain ⟨first, descending⟩ := List.pairwise_cons.1 descending
    obtain ⟨here, within⟩ := List.forall_mem_cons.1 within
    simp only [List.map_cons, List.sum_cons] at total ⊢
    have later := ih descending within (left := left - given c.place) (by omega)
    obtain ⟨spare, taken, rem⟩ : ∃ spare, min c.qty left = given c.place + spare ∧ left - given c.place = left - c.qty + spare :=
      ⟨min c.qty left - given c.place, by omega, by omega⟩
    have exchanged := claimsWorth_add_le first spare (left := left - c.qty)
    rw [claimsWorth_cons, taken, Nat.mul_add]
    rw [rem] at later
    omega

end Giving

/-! ## The priced lines (R74) and the figures (R70, R75, R76) -/

section Figures

variable {pkg : Option Package} {eligible : Bool} {n available : Nat} {lines : List PurchaseLine}

/-- A line priced by the units given to its place. -/
def pricedLine (pkg : Option Package) (eligible : Bool) (given : List (Nat × Nat)) (x : PurchaseLine × Nat) : PricedLine :=
  ⟨x.1, unitsGiven given x.2, perUnit pkg eligible x.1 * unitsGiven given x.2⟩

theorem pricedFrom_eq (given : List (Nat × Nat)) :
    pricedFrom pkg eligible given n lines = (lines.zipIdx n).map (pricedLine pkg eligible given) := by
  induction lines generalizing n with
  | nil => rfl
  | cons l rest ih => rw [pricedFrom, ih, List.zipIdx_cons, List.map_cons, pricedLine]

theorem perUnit_le_price (l : PurchaseLine) : perUnit pkg eligible l ≤ l.price := by
  unfold perUnit
  split
  · exact Nat.zero_le _
  · split
    · exact Nat.min_le_left _ _
    · exact Nat.zero_le _

theorem perUnit_of_uncovered (h : pkg = none ∨ eligible = false) (l : PurchaseLine) : perUnit pkg eligible l = 0 := by
  rcases h with rfl | rfl
  · rfl
  · cases pkg <;> simp [perUnit]

/-- The units given to each place when the claims of the lines are served in turn. -/
abbrev dealt (pkg : Option Package) (eligible : Bool) (available : Nat) (lines : List PurchaseLine) : List (Nat × Nat) :=
  allocate available (claimsFrom pkg eligible 0 lines)

theorem unitsGiven_of_free {x : PurchaseLine × Nat} (hx : x ∈ lines.zipIdx) (free : perUnit pkg eligible x.1 = 0) :
    unitsGiven (dealt pkg eligible available lines) x.2 = 0 := by
  refine unitsGiven_of_noClaim fun claimed => ?_
  obtain ⟨c, hc, place⟩ := List.mem_map.1 claimed
  obtain ⟨y, hy, paid, rfl⟩ := mem_claimsFrom.1 hc
  have same : x.1 = y.1 := by
    rw [List.mem_zipIdx_iff_getElem?] at hx hy
    have place : y.2 = x.2 := place
    rw [place, hx] at hy
    exact Option.some.inj hy
  exact paid (same ▸ free)

/-- R73: no line is given more units than its quantity. -/
theorem unitsGiven_le_qty {x : PurchaseLine × Nat} (hx : x ∈ lines.zipIdx) :
    unitsGiven (dealt pkg eligible available lines) x.2 ≤ x.1.qty := by
  by_cases free : perUnit pkg eligible x.1 = 0
  · exact Nat.le_trans (Nat.le_of_eq (unitsGiven_of_free hx free)) (Nat.zero_le _)
  · exact unitsGiven_le (c := claimOf pkg eligible x) places_nodup (mem_claimsFrom.2 ⟨x, hx, free, rfl⟩)

theorem sum_unitsGiven : (lines.zipIdx.map (fun x => unitsGiven (dealt pkg eligible available lines) x.2)).sum ≤ available := by
  have claimed := sum_claims_of_free (pkg := pkg) (eligible := eligible) (n := 0) (lines := lines)
    (f := fun c => unitsGiven (dealt pkg eligible available lines) c.place) fun _ hx free => unitsGiven_of_free hx free
  rw [map_unitsGiven places_nodup fun _ units => units] at claimed
  exact claimed ▸ sum_allocate_le

theorem sum_covered : (lines.zipIdx.map (fun x => perUnit pkg eligible x.1 * unitsGiven (dealt pkg eligible available lines) x.2)).sum =
    claimsWorth available (claimsFrom pkg eligible 0 lines) := by
  have claimed := sum_claims_of_free (pkg := pkg) (eligible := eligible) (n := 0) (lines := lines)
    (f := fun c => c.value * unitsGiven (dealt pkg eligible available lines) c.place)
    fun x _ free => (congrArg (· * _) free).trans (Nat.zero_mul _)
  rw [map_unitsGiven places_nodup fun c units => c.value * units] at claimed
  exact claimed.symm

theorem sumOver_eq (f : PricedLine → Nat) (ls : List PricedLine) : sumOver f ls = (ls.map f).sum := List.sum_eq_foldl_nat.symm

/-- R75: RETAIL lines add nothing to the base. -/
theorem sumOver_gratuityBase (ls : List PricedLine) : sumOver PricedLine.gratuityBase ls =
    ((ls.filter (fun l => decide (l.line.cls ≠ .RETAIL))).map (fun l => l.line.gross - l.covered)).sum := by
  have retail : ∀ l ∈ ls, decide (l.line.cls ≠ .RETAIL) = false → l.gratuityBase = 0 := fun l _ is => by
    have is : l.line.cls = .RETAIL := Decidable.not_not.1 (of_decide_eq_false is)
    simp only [PricedLine.gratuityBase, is]
  rw [sumOver_eq, ← sum_map_filter_of_zero retail]
  refine congrArg List.sum (List.map_congr_left fun l hl => ?_)
  have other : l.line.cls ≠ .RETAIL := of_decide_eq_true (List.mem_filter.1 hl).2
  unfold PricedLine.gratuityBase
  split
  · rename_i is
    exact absurd is other
  all_goals rfl

/-- R74: covered and excess make up the gross. -/
theorem sumOver_excess {ls : List PricedLine} (within : ∀ l ∈ ls, l.covered ≤ l.line.gross) :
    sumOver PricedLine.excess ls + sumOver (·.covered) ls = sumOver (fun l => l.line.gross) ls := by
  rw [sumOver_eq, sumOver_eq, sumOver_eq, sum_map_add_sum_map]
  exact congrArg List.sum (List.map_congr_left fun l hl => Nat.sub_add_cancel (within l hl))

theorem covered_computeFigures (v : Venue) :
    (computeFigures pkg v available lines).covered = claimsWorth available (claimsFrom pkg v.eligible 0 lines) := by
  refine (sumOver_eq _ _).trans ?_
  rw [pricedFrom_eq, List.map_map]
  exact sum_covered

theorem zip_eq_zipIdx {given : List Nat} (same : given.length = lines.length) :
    lines.zip given = lines.zipIdx.map (fun x => (x.1, given.getD x.2 0)) := by
  refine List.ext_getElem (by simp [same]) fun i hi _ => ?_
  have below : i < given.length := Nat.lt_of_lt_of_le hi (List.length_zip ▸ Nat.min_le_right _ _)
  simp [List.getElem?_eq_getElem below]

/-- R73: no other way to give units to the lines covers more. -/
theorem covered_optimal {given : List Nat} (same : given.length = lines.length) (within : ∀ x ∈ lines.zip given, x.2 ≤ x.1.qty)
    (total : given.sum ≤ available) : ((lines.zip given).map (fun x => perUnit pkg eligible x.1 * x.2)).sum ≤
      claimsWorth available (claimsFrom pkg eligible 0 lines) := by
  have units : (lines.zipIdx.map (fun x => given.getD x.2 0)).sum = given.sum := by
    have snd := List.map_snd_zip (l₁ := lines) (Nat.le_of_eq same)
    rw [zip_eq_zipIdx same, List.map_map] at snd
    exact congrArg List.sum snd
  have covered := sum_claims_of_free (pkg := pkg) (eligible := eligible) (n := 0) (lines := lines)
    (f := fun c => c.value * given.getD c.place 0) fun x _ free => (congrArg (· * _) free).trans (Nat.zero_mul _)
  rw [zip_eq_zipIdx same] at within ⊢
  rw [List.map_map]
  refine Nat.le_trans (Nat.le_of_eq covered.symm)
    (sum_le_claimsWorth (given := fun place => given.getD place 0) claimsFrom_descending ?_ ?_)
  · intro c hc
    obtain ⟨x, hx, -, rfl⟩ := mem_claimsFrom.1 hc
    exact within _ (List.mem_map_of_mem hx)
  · exact Nat.le_trans (sum_claims_le fun c => given.getD c.place 0) (Nat.le_trans (Nat.le_of_eq units) total)

end Figures

/-- Settles O28: the figures are sums over the priced lines, and the units are given out to the claims in descending order of value. -/
theorem purchaseFiguresAndCoverage : Obligations.PurchaseFiguresAndCoverage := by
  refine ⟨fun pkg v available lines => ?_, fun pkg v available lines given same within total => ?optimal⟩
  · intro f priced base
    have hp : priced = lines.zipIdx.map (pricedLine pkg v.eligible (dealt pkg v.eligible available lines)) := pricedFrom_eq _
    have isLines : priced.map (·.line) = lines := by
      rw [hp, List.map_map]
      exact List.zipIdx_map_fst 0 lines
    have each : ∀ l ∈ priced,
        l.units ≤ l.line.qty ∧ l.covered = perUnit pkg v.eligible l.line * l.units ∧ l.covered ≤ l.line.gross := by
      rw [hp, List.forall_mem_map]
      exact fun x hx => ⟨unitsGiven_le_qty hx, rfl, Nat.mul_le_mul (perUnit_le_price _) (unitsGiven_le_qty hx)⟩
    have gross : f.gross = (lines.map (fun l => l.price * l.qty)).sum := by
      rw [← isLines, List.map_map]
      exact sumOver_eq _ _
    have units : f.units = (priced.map (·.units)).sum := sumOver_eq _ _
    have covered : f.covered = (priced.map (·.covered)).sum := sumOver_eq _ _
    have excess : sumOver PricedLine.excess priced + f.covered = f.gross := sumOver_excess fun l hl => (each l hl).2.2
    refine ⟨gross, isLines, each, units, ?_, covered, excess ▸ Nat.le_add_left _ _, ?_, ?_, fun uncovered => ⟨?_, ?_⟩⟩
    · rw [units, hp, List.map_map]
      exact sum_unitsGiven
    · exact congrArg (fun b => (b * v.rate + 5000) / 10000) (sumOver_gratuityBase priced)
    · exact congrArg (· + f.gratuity) (Nat.eq_sub_of_add_eq excess)
    · rw [covered, hp, List.map_map]
      exact sum_map_eq_zero fun x _ => (congrArg (· * _) (perUnit_of_uncovered uncovered x.1)).trans (Nat.zero_mul _)
    · rw [units, hp, List.map_map]
      exact sum_map_eq_zero fun x hx => unitsGiven_of_free hx (perUnit_of_uncovered uncovered _)
  case optimal => exact covered_computeFigures v ▸ covered_optimal same within total

end Sys2Proof.Machine
end

section
/-! PROOFS. The lines of a TAP (R66) and the checks of R67, in order. -/

namespace Sys2Proof.Machine

open Sys2Proof

/-! ## The lines of R66 -/

section Lines

variable {n : Nat} {r : RawLine} {rs : List RawLine} {l : PurchaseLine} {ls : List PurchaseLine}

theorem itemClass_ofCode_eq_some {c : ItemClass} : ItemClass.ofCode n = some c ↔ n = c.ctorIdx + 1 := by
  constructor
  · unfold ItemClass.ofCode
    split <;> rintro ⟨⟩ <;> rfl
  · rintro rfl
    cases c <;> rfl

theorem exists_itemClass : (∃ c, ItemClass.ofCode n = some c) ↔ 1 ≤ n ∧ n ≤ 5 := by
  simp only [itemClass_ofCode_eq_some]
  constructor
  · rintro ⟨c, rfl⟩
    cases c <;> decide
  · intro h
    match n, h with
    | 1, _ => exact ⟨.ALCOHOLIC, rfl⟩
    | 2, _ => exact ⟨.SOFT, rfl⟩
    | 3, _ => exact ⟨.FOOD, rfl⟩
    | 4, _ => exact ⟨.RETAIL, rfl⟩
    | 5, _ => exact ⟨.SERVICE, rfl⟩

theorem lineOf_eq_some : lineOf r = some l ↔
    ItemClass.ofCode r.cls = some l.cls ∧ r.price = l.price ∧ r.qty = l.qty ∧ r.price ≤ 9999999 ∧ 1 ≤ r.qty ∧ r.qty ≤ 99 := by
  obtain ⟨cls, price, qty⟩ := l
  unfold lineOf
  cases ItemClass.ofCode r.cls with
  | none => simp
  | some c =>
    simp only [Option.ite_none_right_eq_some, Option.some.injEq, PurchaseLine.mk.injEq]
    exact ⟨fun ⟨range, same, price, qty⟩ => ⟨same, price, qty, range⟩, fun ⟨same, price, qty, range⟩ => ⟨range, same, price, qty⟩⟩

theorem exists_line : (∃ l, lineOf r = some l) ↔ 1 ≤ r.cls ∧ r.cls ≤ 5 ∧ r.price ≤ 9999999 ∧ 1 ≤ r.qty ∧ r.qty ≤ 99 := by
  rw [← and_assoc, ← exists_itemClass]
  constructor
  · rintro ⟨l, hl⟩
    obtain ⟨cls, -, -, range⟩ := lineOf_eq_some.1 hl
    exact ⟨⟨_, cls⟩, range⟩
  · rintro ⟨⟨c, hc⟩, range⟩
    exact ⟨⟨c, r.price, r.qty⟩, lineOf_eq_some.2 ⟨hc, rfl, rfl, range⟩⟩

theorem allLines_cons_eq_some : allLines (r :: rs) = some ls ↔
    ∃ l rest, lineOf r = some l ∧ allLines rs = some rest ∧ l :: rest = ls := by
  cases hl : lineOf r <;> cases hrs : allLines rs <;> simp [allLines, hl, hrs]

theorem exists_allLines : (∃ ls, allLines rs = some ls) ↔ ∀ r ∈ rs, ∃ l, lineOf r = some l := by
  induction rs with
  | nil => simp [allLines]
  | cons r rest ih =>
    rw [List.forall_mem_cons, ← ih]
    simp only [allLines_cons_eq_some]
    constructor
    · rintro ⟨_, l, ls, hl, hls, -⟩
      exact ⟨⟨l, hl⟩, ls, hls⟩
    · rintro ⟨⟨l, hl⟩, ls, hls⟩
      exact ⟨_, l, ls, hl, hls, rfl⟩

/-- The lines keep the class, the price and the quantity that were sent, in their order. -/
theorem map_of_allLines (h : allLines rs = some ls) :
    ls.map (fun l => (l.cls.ctorIdx + 1, l.price, l.qty)) = rs.map (fun r => (r.cls, r.price, r.qty)) := by
  induction rs generalizing ls with
  | nil =>
    cases h
    rfl
  | cons r rest ih =>
    obtain ⟨l, later, hl, hlater, rfl⟩ := allLines_cons_eq_some.1 h
    obtain ⟨cls, price, qty, -⟩ := lineOf_eq_some.1 hl
    rw [List.map_cons, List.map_cons, ih hlater, itemClass_ofCode_eq_some.1 cls, price, qty]

theorem linesOf_eq_some : linesOf rs = some ls ↔ (1 ≤ rs.length ∧ rs.length ≤ 8) ∧ allLines rs = some ls := by
  simp [linesOf]

theorem exists_lines : (∃ ls, linesOf rs = some ls) ↔ 1 ≤ rs.length ∧ rs.length ≤ 8
    ∧ ∀ r ∈ rs, 1 ≤ r.cls ∧ r.cls ≤ 5 ∧ r.price ≤ 9999999 ∧ 1 ≤ r.qty ∧ r.qty ≤ 99 := by
  simp only [linesOf_eq_some, exists_and_left, exists_allLines, exists_line, and_assoc]

end Lines

section Checks

variable {s : State} {v : Venue} {u : RawUid} {raw : List RawLine} {e : CardEntry} {p : Person} {f : Folio} {slot k : Nat}
  {lines : List PurchaseLine} {fig : Figures}

/-! ## Steps 1 and 2 of R67 -/

theorem authorise_of_unset (unset : s.clock.state = .UNSET) : s.authorise v u raw = .error .CLOCK_UNSET := if_pos unset

theorem authorise_of_unknown (set : s.clock.state = .SET) (unknown : s.lookupRaw u = none) :
    s.authorise v u raw = .error .UNKNOWN_CARD := by
  simp [State.authorise, set, unknown]

theorem authorise_of_suspended (set : s.clock.state = .SET) (found : s.lookupRaw u = some e) (he : e.state = .SUSPENDED) :
    s.authorise v u raw = .error .SUSPENDED := by
  simp [State.authorise, set, found, he]

theorem authorise_of_revoked (set : s.clock.state = .SET) (found : s.lookupRaw u = some e) (he : e.state = .REVOKED) :
    s.authorise v u raw = .error .REVOKED := by
  simp [State.authorise, set, found, he]

/-- An ACTIVE card leaves the decision to its person. -/
theorem authorise_of_active (set : s.clock.state = .SET) (found : s.lookupRaw u = some e) (he : e.state = .ACTIVE)
    (hp : s.persons.get e.slot = some p) : s.authorise v u raw = s.personCheck v e.slot p raw := by
  simp [State.authorise, set, found, he, hp]

/-! ## Steps 3 to 7 -/

theorem personCheck_of_noFolio (h : p.ident.folio = none) : s.personCheck v slot p raw = .error .NO_FOLIO := by
  simp [State.personCheck, h]

/-- Steps 4 to 7 for a person with a folio. -/
theorem personCheck_of_folio (h : p.ident.folio = some k) (hf : s.folios.get k = some f) : s.personCheck v slot p raw =
    if p.ident.chargeHold then .error .PERSON_HOLD
    else if p.presence = .ASHORE ∧ s.params.chargePolicy = .REFUSE then .error .PRESENCE
    else if f.state ≠ .OPEN then .error .FOLIO_STATE
    else if s.underReconcile k f.id then .error .TRY_AGAIN
    else s.priceCheck v slot p k f raw := by
  simp only [State.personCheck, h, hf]

/-! ## Step 8 -/

theorem priceCheck_of_noLines (h : linesOf raw = none) : s.priceCheck v slot p k f raw = .error .AMOUNT_RANGE := by
  simp [State.priceCheck, h]

section Priced

variable (hl : linesOf raw = some lines) (hfig : computeFigures f.package v (unitsAvailable f.package p s.folioDay) lines = fig)

include hl hfig

theorem priceCheck_of_range (above : 99999999 < fig.total) : s.priceCheck v slot p k f raw = .error .AMOUNT_RANGE := by
  simp [State.priceCheck, hl, hfig, above]

theorem priceCheck_of_refusal (within : fig.total ≤ 99999999) {r : PurchaseRefusal} (refused : s.limitRefusal p f lines fig = some r) :
    s.priceCheck v slot p k f raw = .error r := by
  simp [State.priceCheck, hl, hfig, Nat.not_lt.2 within, refused]

theorem priceCheck_of_pass (within : fig.total ≤ 99999999) (passed : s.limitRefusal p f lines fig = none) :
    s.priceCheck v slot p k f raw = .ok ⟨slot, p, k, f.id, fig, decide (p.presence = .ASHORE)⟩ := by
  simp [State.priceCheck, hl, hfig, Nat.not_lt.2 within, passed]

end Priced

/-! ## Steps 9 to 13 -/

theorem journalRoom_iff : s.journalRoom = true ↔
    s.journal.length + s.openHolds.length < 4096 ∧ s.openHolds.length < 4294967296 - s.nextCharge := by
  simp [State.journalRoom, Config.journalEntries, mod32]

theorem childCapPasses_iff {day total : Nat} : childCapPasses p day total = true ↔
    ∀ c, p.ident.childCap = some c → (if p.childSpent.day = day then p.childSpent.value else 0) + p.childReserved + total ≤ c := by
  unfold childCapPasses
  cases p.ident.childCap with
  | none => simp
  | some cap => exact decide_eq_true_iff.trans (by simp [DayCounter.read])

theorem offlinePasses_iff {total : Nat} : s.offlinePasses f total = true ↔
    (s.upstream = .OFFLINE → (if f.offlineEpoch = s.epoch then f.offlineSpent else 0) + total ≤ s.params.offlineAllowance) := by
  unfold State.offlinePasses
  cases s.upstream with
  | ONLINE => simp
  | OFFLINE => exact decide_eq_true_iff.trans (by simp [Folio.offlineRead])

/-- A person who may not buy the alcohol among the lines (step 9). -/
def underAge (p : Person) (lines : List PurchaseLine) : Prop := (∃ l ∈ lines, l.cls = .ALCOHOLIC) ∧ p.ident.alcohol = false

theorem limitRefusal_of_underAge (age : underAge p lines) : s.limitRefusal p f lines fig = some .AGE :=
  if_pos (by simpa [underAge] using age)

/-- Steps 10 to 13 for a person who may buy the lines. -/
theorem limitRefusal_of_age (age : ¬ underAge p lines) : s.limitRefusal p f lines fig =
    if !s.journalRoom then some .JOURNAL_FULL
    else if fig.total = 0 then none
    else if !childCapPasses p s.folioDay fig.total then some .CHILD_CAP
    else if !s.offlinePasses f fig.total then some .OFFLINE_CAP
    else if f.headroom < (fig.total : Int) then some .LIMIT
    else none :=
  if_neg (by simpa [underAge] using age)

end Checks

/-- Settles O29: the checks of R67 stand in the model in their order. -/
theorem authChecksInOrder : Obligations.AuthChecksInOrder := by
  intro s v u raw gives
  refine ⟨exists_lines, fun lines sent => map_of_allLines (linesOf_eq_some.1 sent).2, authorise_of_unset, authorise_of_unknown,
    fun e set found => ⟨authorise_of_suspended set found, authorise_of_revoked set found, fun p active person => ?_⟩⟩
  have byPerson := authorise_of_active (v := v) (raw := raw) set found active person
  refine ⟨fun noFolio => byPerson.trans (personCheck_of_noFolio noFolio), fun k f charged folio => ?_⟩
  have checks := byPerson.trans (personCheck_of_folio charged folio)
  intro ashore scanning passes
  have reconcile : s.underReconcile k f.id = true ↔ scanning := underReconcile_iff
  have priced : passes → s.authorise v u raw = s.priceCheck v e.slot p k f raw := by
    rintro ⟨free, present, opened, idle⟩
    rw [checks, if_neg (by simp [free]), if_neg present, if_neg fun shut => shut opened, if_neg fun scan => idle (reconcile.1 scan)]
  refine ⟨fun hold => checks.trans (if_pos hold), fun free away => ?presence, fun free present shut => ?state,
    fun free present opened scan => ?reconcile, fun pass noLines => (priced pass).trans (priceCheck_of_noLines noLines),
    fun lines pass sent => ?_⟩
  case presence => exact checks.trans ((if_neg (by simp [free])).trans (if_pos away))
  case state => exact checks.trans ((if_neg (by simp [free])).trans ((if_neg present).trans (if_pos shut)))
  case reconcile =>
    exact checks.trans ((if_neg (by simp [free])).trans ((if_neg present).trans ((if_neg fun shut => shut opened).trans
      (if_pos (reconcile.2 scan)))))
  intro available fig age room cap offline headroom
  have hfig : computeFigures f.package v (unitsAvailable f.package p s.folioDay) lines = fig := rfl
  refine ⟨fun above => (priced pass).trans (priceCheck_of_range sent hfig above), fun within => ?_⟩
  have refused {r} (h : s.limitRefusal p f lines fig = some r) : gives r := (priced pass).trans (priceCheck_of_refusal sent hfig within h)
  have noRoom : (!s.journalRoom) = true ↔ ¬ room := by rw [Bool.not_eq_true', ← Bool.not_eq_true, journalRoom_iff]
  have overCap : (!childCapPasses p s.folioDay fig.total) = true ↔ ¬ cap := by
    rw [Bool.not_eq_true', ← Bool.not_eq_true, childCapPasses_iff]
  have overOffline : (!s.offlinePasses f fig.total) = true ↔ ¬ offline := by
    rw [Bool.not_eq_true', ← Bool.not_eq_true, offlinePasses_iff]
  have overLimit : f.headroom < (fig.total : Int) ↔ ¬ headroom := Int.not_le.symm
  have afterRoom (adult : ¬ age) (fits : room) :=
    (limitRefusal_of_age (s := s) (f := f) (fig := fig) adult).trans (if_neg fun full => noRoom.1 full fits)
  have afterFree (adult : ¬ age) (fits : room) (charge : 0 < fig.total) := (afterRoom adult fits).trans (if_neg (Nat.ne_of_gt charge))
  have afterCap (adult : ¬ age) (fits : room) (charge : 0 < fig.total) (inCap : cap) :=
    (afterFree adult fits charge).trans (if_neg fun above => overCap.1 above inCap)
  have afterOffline (adult : ¬ age) (fits : room) (charge : 0 < fig.total) (inCap : cap) (inOffline : offline) :=
    (afterCap adult fits charge inCap).trans (if_neg fun above => overOffline.1 above inOffline)
  refine ⟨fun young => refused (limitRefusal_of_underAge young),
    fun adult full => refused ((limitRefusal_of_age adult).trans (if_pos (noRoom.2 full))),
    fun adult fits charge above => refused ((afterFree adult fits charge).trans (if_pos (overCap.2 above))),
    fun adult fits charge inCap above => refused ((afterCap adult fits charge inCap).trans (if_pos (overOffline.2 above))),
    fun adult fits charge inCap inOffline above =>
      refused ((afterOffline adult fits charge inCap inOffline).trans (if_pos (overLimit.2 above))),
    fun adult fits pays => (priced pass).trans (priceCheck_of_pass sent hfig within ?_)⟩
  by_cases nothing : fig.total = 0
  · exact (afterRoom adult fits).trans (if_pos nothing)
  · obtain ⟨inCap, inOffline, inHeadroom⟩ := pays.resolve_left nothing
    exact (afterOffline adult fits (Nat.pos_of_ne_zero nothing) inCap inOffline).trans
      (if_neg fun above => overLimit.1 above inHeadroom)

end Sys2Proof.Machine
end

section
/-! PROOFS. What a terminal TAP that is taken does: its refusal, or its hold and its APPROVE frame (R65, R80, R82, R83). -/

namespace Sys2Proof.Machine

open Sys2Proof

variable {s : State} {e : Entry} {rest : List Entry} {u : RawUid} {tag venue : Nat} {raw : List RawLine} {hd : Head} {h : Hold}
  {id : HeadId} {f : Folio} {a : Approval}

/-! ## The entry of the TAP -/

/-- The state once the oldest entry of the purchase intake has been taken, with the entries that are left (R157). -/
def State.purchaseTaken (s : State) (rest : List Entry) : State := { s with purchaseIn := ⟨rest, s.purchaseIn.reserved⟩ }

theorem purchaseTaken_keeps (s : State) (rest : List Entry) : Keeps [.purchaseIn] s (s.purchaseTaken rest) := by
  intro p hp; cases p <;> first | rfl | simp at hp

/-- A TAP at the front of a purchase intake that does not wait is decided on the state with its entry gone. -/
theorem gives_of_purchaseTakeable (event : e.event = .purchaseTap u tag raw) (taken : s.takeable .VENUE_TERMINAL e rest)
    (flows : s.intakeWaits = false) : Gives .purchaseTap s ((s.purchaseTaken rest).decidePurchase e u tag raw) :=
  gives_of_takeable (apply := fun s => s.decidePurchase e u tag raw) taken (congrArg Host.Outcome.next (if_neg (by simp [flows])))
    (by simp only [event])

/-! ## The hold the terminal carries (R65) -/

theorem decidePurchase_of_noHold (held : s.head? e.head = some hd) (free : hd.hold = none) :
    s.decidePurchase e u tag raw = s.decideAuth e hd.bound u tag raw := by
  simp [State.decidePurchase, held, free]

theorem decidePurchase_of_confirming (held : s.head? e.head = some hd) (holds : hd.hold = some h) (confirming : h.confirming = true) :
    s.decidePurchase e u tag raw = s.sendDecision e (.purchase tag (.REFUSE .TRY_AGAIN)) := by
  simp [State.decidePurchase, held, holds, confirming]

theorem decidePurchase_of_open (held : s.head? e.head = some hd) (holds : hd.hold = some h) (waits : h.confirming = false) :
    s.decidePurchase e u tag raw = (s.releaseHold e.head h).decideAuth e hd.bound u tag raw := by
  simp [State.decidePurchase, held, holds, waits]

/-- A release takes the hold off its head, and leaves every other head as it was. -/
theorem head_releaseHold (held : s.head? id = some hd) (h : Hold) : (s.releaseHold id h).head? id = some { hd with hold := none }
    ∧ ∀ g, g ≠ id → (s.releaseHold id h).head? g = s.head? g :=
  head_modifyHead_of_head (s := s.releaseAmounts h) held _

theorem online_releaseHold (held : s.head? id = some hd) (h : Hold) : (s.releaseHold id h).online id = s.online id := by
  simp [State.online, head_releaseHold held, held]

/-- The release of the terminal's hold leaves its TAP to be taken. -/
theorem takeable_releaseHold (held : s.head? e.head = some hd) (h : Hold) (taken : s.takeable .VENUE_TERMINAL e rest) :
    (s.releaseHold e.head h).takeable .VENUE_TERMINAL e rest := by
  obtain ⟨entries, stays, online, inTime⟩ := taken
  exact ⟨entries, stays, (online_releaseHold held h).trans online, inTime⟩

/-! ## The decision frame (R159) -/

theorem sendDecision_of_reserved (reserved : 0 < (s.line e.head.line).reserved) (content : FrameContent) :
    s.sendDecision e content = { s with lines := s.lines.set e.head.line { s.line e.head.line with
      queue := (s.line e.head.line).queue ++ [⟨e.head.address, content⟩],
      reserved := (s.line e.head.line).reserved - 1 } } := by
  rw [State.sendDecision, State.modifyLine, joinDecision_of_reserved _ reserved, State.setLine]

theorem decideAuth_of_refusal {r : PurchaseRefusal} (verdict : s.authorise (s.venueOf venue) u raw = .error r) :
    s.decideAuth e venue u tag raw = s.sendDecision e (.purchase tag (.REFUSE r)) := by
  simp [State.decideAuth, verdict]

theorem decideAuth_of_approval (verdict : s.authorise (s.venueOf venue) u raw = .ok a) : s.decideAuth e venue u tag raw =
    (s.openHold e.head (s.holdOf tag venue a)).sendDecision e
      (.purchase tag (.APPROVE a.figures.gross a.figures.covered a.figures.gratuity a.figures.total)) := by
  simp [State.decideAuth, verdict]

/-! ## The hold and its reservations (R80, R82, R83) -/

theorem offlineAmount_eq (total : Nat) : s.offlineAmount total = if s.upstream = .OFFLINE then some (total, s.epoch) else none := by
  unfold State.offlineAmount
  cases s.upstream <;> rfl

theorem openHold_keeps (s : State) (id : HeadId) (h : Hold) : Keeps [.folios, .persons, .heads, .latches] s (s.openHold id h) := by
  have written := (((modifyFolio_keeps s h.folio (fun f => f.reserved h s.epoch)).weaken (m := [.folios, .persons, .heads, .latches])
    (by simp)).trans ((modifyPerson_keeps _ h.slot (fun p => p.reserved h)).weaken (by simp))).trans
    ((modifyHead_keeps _ id (fun hd => { hd with hold := some h })).weaken (by simp))
  unfold State.openHold
  split
  · exact written.trans ((raise_keeps _ _ _).weaken (by simp))
  · exact written

theorem openHold_folios : (s.openHold id h).folios = s.folios.modify h.folio (fun f => f.reserved h s.epoch) := by
  unfold State.openHold
  split <;> rfl

theorem openHold_persons : (s.openHold id h).persons = s.persons.modify h.slot (fun p => p.reserved h) := by
  unfold State.openHold
  split <;> rfl

theorem openHold_heads : (s.openHold id h).heads = s.heads.modify id.key (fun hd => { hd with hold := some h }) := by
  unfold State.openHold
  split <;> rfl

theorem head_openHold (held : s.head? id = some hd) (h : Hold) : (s.openHold id h).head? id = some { hd with hold := some h }
    ∧ ∀ g, g ≠ id → (s.openHold id h).head? g = s.head? g := by
  have heads : (s.openHold id h).heads = (s.modifyHead id (fun hd => { hd with hold := some h })).heads := openHold_heads
  simp only [State.head_of_heads heads]
  exact head_modifyHead_of_head held _

theorem latch_openHold_of_conflict (marked : h.conflict = true) :
    (s.openHold id h).latch .PRESENCE_CONFLICT = (s.latch .PRESENCE_CONFLICT).raised (.person h.slot) s.clock.time := by
  simp only [State.openHold, marked, if_true]
  exact (State.latch_raise _ _ _ _).trans (if_pos rfl)

theorem latches_openHold_of_noConflict (unmarked : h.conflict = false) : (s.openHold id h).latches = s.latches := by
  simp [State.openHold, unmarked]

/-- The folio of a hold keeps its limit and its balances; the total joins what is held. -/
theorem reserved_balances (f : Folio) (h : Hold) (epoch : Nat) : (f.reserved h epoch).held = f.held + h.total
    ∧ (f.reserved h epoch).posted = f.posted ∧ (f.reserved h epoch).unposted = f.unposted ∧ (f.reserved h epoch).limit = f.limit := by
  unfold Folio.reserved
  simp only
  split <;> exact ⟨rfl, rfl, rfl, rfl⟩

theorem reserved_offline_of_none (online : h.offline = none) (epoch : Nat) :
    (f.reserved h epoch).offlineSpent = f.offlineSpent ∧ (f.reserved h epoch).offlineEpoch = f.offlineEpoch := by
  simp [Folio.reserved, online]

/-- R53: the total joins what was spent offline in the present epoch. -/
theorem reserved_offline_of_some {x : Nat × Nat} (offline : h.offline = some x) (epoch : Nat) : (f.reserved h epoch).offlineEpoch = epoch
    ∧ (f.reserved h epoch).offlineSpent = (if f.offlineEpoch = epoch then f.offlineSpent else 0) + h.total := by
  simp [Folio.reserved, offline, Folio.offlineAdd, Folio.offlineRead]

/-! ## An approved TAP -/

section Approved

variable (content : FrameContent)

/-- R80 and R83: the hold of an approved TAP is written, and its decision frame is sent. -/
def State.purchaseApproved (s : State) (e : Entry) (h : Hold) (content : FrameContent) : State :=
  (s.openHold e.head h).sendDecision e content

/-- The decision frame touches the terminal's line alone. -/
theorem purchaseApproved_sends : Keeps [.lines] (s.openHold e.head h) (s.purchaseApproved e h content) := sendDecision_keeps _ e content

theorem purchaseApproved_keeps : Keeps [.lines, .heads, .folios, .persons, .latches] s (s.purchaseApproved e h content) :=
  ((openHold_keeps s e.head h).weaken (by simp)).trans ((purchaseApproved_sends content).weaken (by simp))

theorem lines_purchaseApproved (reserved : 0 < (s.line e.head.line).reserved) :
    (s.purchaseApproved e h content).lines = s.lines.set e.head.line { s.line e.head.line with
      queue := (s.line e.head.line).queue ++ [⟨e.head.address, content⟩],
      reserved := (s.line e.head.line).reserved - 1 } := by
  have lines : (s.openHold e.head h).lines = s.lines := openHold_keeps s e.head h .lines (by simp)
  have line := State.line_of_lines lines e.head.line
  rw [State.purchaseApproved, sendDecision_of_reserved (by rwa [line]), line, lines]

theorem head_purchaseApproved (held : s.head? e.head = some hd) :
    (s.purchaseApproved e h content).head? e.head = some { hd with hold := some h }
      ∧ ∀ g, g ≠ e.head → (s.purchaseApproved e h content).head? g = s.head? g := by
  simp only [State.head_of_heads (purchaseApproved_sends content .heads (by simp))]
  exact head_openHold held h

theorem folio_purchaseApproved (k : Nat) : (s.purchaseApproved e h content).folios.get k =
    if k = h.folio then (s.folios.get h.folio).map (fun f => f.reserved h s.epoch) else s.folios.get k := by
  have folios := (purchaseApproved_sends (s := s) (e := e) (h := h) content .folios (by simp)).trans openHold_folios
  rw [folios, Table.get_modify]

theorem person_purchaseApproved (k : Nat) : (s.purchaseApproved e h content).persons.get k =
    if k = h.slot then (s.persons.get h.slot).map (fun p => p.reserved h) else s.persons.get k := by
  have persons := (purchaseApproved_sends (s := s) (e := e) (h := h) content .persons (by simp)).trans openHold_persons
  rw [persons, Table.get_modify]

theorem latches_purchaseApproved : (s.purchaseApproved e h content).latches = (s.openHold e.head h).latches :=
  purchaseApproved_sends content .latches (by simp)

end Approved

/-- Settles O30: the terminal's hold decides first, and then the verdict of the AUTH checks on the records as they stood. -/
theorem purchaseTapDecided : Obligations.PurchaseTapDecided := by
  intro s e rest u tag raw hd event taken flows held reserved framed sent verdict
  have gives := gives_of_purchaseTakeable event taken flows
  have atHead : (s.purchaseTaken rest).head? e.head = some hd := held
  have refusing (d : PurchaseDecision) : (s.purchaseTaken rest).sendDecision e (.purchase tag d) = sent d :=
    sendDecision_of_reserved (s := s.purchaseTaken rest) reserved _
  have judged : (s.purchaseTaken rest).authorise ((s.purchaseTaken rest).venueOf hd.bound) u raw = verdict := rfl
  refine ⟨fun h holds confirming => ?confirming, fun h holds waits => ?released, fun r free refused => ?refused,
    fun a free approved => ?approved⟩
  case confirming => rwa [decidePurchase_of_confirming atHead holds confirming, refusing] at gives
  case released =>
    have again := gives_of_purchaseTakeable event (takeable_releaseHold held h taken) flows
    have released : ((s.releaseHold e.head h).purchaseTaken rest).head? e.head = some { hd with hold := none } :=
      (head_releaseHold held h).1
    rw [decidePurchase_of_noHold released rfl] at again
    rw [decidePurchase_of_open atHead holds waits] at gives
    exact gives.trans again.symm
  case refused => rwa [decidePurchase_of_noHold atHead free, decideAuth_of_refusal (judged.trans refused), refusing] at gives
  case approved =>
    intro h
    have written : (s.purchaseTaken rest).holdOf tag hd.bound a = h := by
      simp only [State.holdOf, offlineAmount_eq]
      rfl
    rw [decidePurchase_of_noHold atHead free, decideAuth_of_approval (judged.trans approved), written] at gives
    have changed := purchaseApproved_keeps (s := s.purchaseTaken rest) (e := e) (h := h)
      (.purchase tag (.APPROVE a.figures.gross a.figures.covered a.figures.gratuity a.figures.total))
    obtain ⟨atTerminal, elsewhere⟩ := head_purchaseApproved (h := h) _ atHead
    refine ⟨_, gives, ((purchaseTaken_keeps s rest).weaken (by simp)).trans (changed.weaken (by simp)), changed .purchaseIn (by simp),
      lines_purchaseApproved (s := s.purchaseTaken rest) _ reserved, atTerminal, elsewhere,
      fun k other => (folio_purchaseApproved _ k).trans (if_neg other),
      fun f folio => ⟨f.reserved h s.epoch, (folio_purchaseApproved _ _).trans ((if_pos rfl).trans (congrArg (Option.map _) folio)), ?_⟩,
      fun k other => (person_purchaseApproved _ k).trans (if_neg other),
      fun p person => (person_purchaseApproved _ _).trans ((if_pos rfl).trans (congrArg (Option.map _) person)),
      fun marked => (State.latch_of_latches (latches_purchaseApproved _) _).trans (latch_openHold_of_conflict marked),
      fun unmarked => (latches_purchaseApproved _).trans (latches_openHold_of_noConflict unmarked)⟩
    obtain ⟨heldTotal, posted, unposted, limit⟩ := reserved_balances f h s.epoch
    exact ⟨heldTotal, posted, unposted, limit,
      fun online => reserved_offline_of_none (if_neg (by simp [online])) _,
      fun offline => reserved_offline_of_some (x := (a.figures.total, s.epoch)) (if_pos offline) _⟩

end Sys2Proof.Machine
end

section
/-! PROOFS. The journal level (R97), and what applying a CONFIRM makes of the journal, the folio, the person and the latches (R91). -/

namespace Sys2Proof.Machine

open Sys2Proof

variable {s : State} {h : Hold}

/-! ## The journal level (R97) -/

theorem latch_evaluateJournal_of_le (high : s.params.highWater ≤ s.journal.length) :
    s.evaluateJournal.latch .JOURNAL_HIGH = (s.latch .JOURNAL_HIGH).raised (.entries s.journal.length) s.clock.time := by
  simp [State.evaluateJournal, high]

theorem evaluateJournal_of_lt (low : s.journal.length < s.params.highWater) : s.evaluateJournal = s := if_neg (Nat.not_le.2 low)

/-! ## Applying a CONFIRM (R91) -/

/-- The state that the journal level is evaluated on: the entry is written and the amounts are moved (R91 steps 1 to 4). -/
def State.confirmEntered (s : State) (h : Hold) : State :=
  { s with
    journal := s.journal ++ [s.entryOf h s.nextCharge]
    folios  := s.folios.modify h.folio (fun f => f.charged h)
    persons := s.persons.modify h.slot (fun p => p.settled h s.folioDay) }

theorem applyConfirm_eq (s : State) (h : Hold) : s.applyConfirm h = (s.confirmEntered h).evaluateJournal := rfl

theorem folios_applyConfirm (s : State) (h : Hold) : (s.applyConfirm h).folios = s.folios.modify h.folio (fun f => f.charged h) :=
  evaluateJournal_keeps _ .folios (by simp)

theorem persons_applyConfirm (s : State) (h : Hold) :
    (s.applyConfirm h).persons = s.persons.modify h.slot (fun p => p.settled h s.folioDay) :=
  evaluateJournal_keeps _ .persons (by simp)

theorem nextCharge_of_append {l : List JournalEntry} {e : JournalEntry} (journal : s.journal = l ++ [e]) :
    s.nextCharge = e.number + 1 := by
  simp [State.nextCharge, journal]

theorem length_confirmEntered : (s.confirmEntered h).journal.length = s.journal.length + 1 := by
  simp [State.confirmEntered]

/-- The level is that of the journal with its new entry. -/
theorem latch_applyConfirm_of_le (high : s.params.highWater ≤ s.journal.length + 1) : (s.applyConfirm h).latch .JOURNAL_HIGH =
    (s.latch .JOURNAL_HIGH).raised (.entries (s.journal.length + 1)) s.clock.time := by
  rw [← length_confirmEntered (h := h)] at high ⊢
  exact latch_evaluateJournal_of_le (s := s.confirmEntered h) high

theorem latches_applyConfirm_of_lt (low : s.journal.length + 1 < s.params.highWater) : (s.applyConfirm h).latches = s.latches := by
  rw [← length_confirmEntered (h := h)] at low
  rw [applyConfirm_eq, evaluateJournal_of_lt (s := s.confirmEntered h) low]
  rfl

/-- Settles O34: the entry takes the next number, and the folio day decides whether the amounts join today's counters. -/
theorem confirmApplied : Obligations.ConfirmApplied := by
  intro s h f p folio person t today
  have journal : t.journal = _ := journal_applyConfirm s h
  have folios := (folios_applyConfirm s h).trans (Table.modify_of_get _ _ _ folio)
  have persons := (persons_applyConfirm s h).trans (Table.modify_of_get _ _ _ person)
  refine ⟨applyConfirm_keeps s h, journal, nextCharge_of_append journal, folios, fun same => ?sameDay, fun later => ?laterDay,
    latch_applyConfirm_of_le, latches_applyConfirm_of_lt⟩
  case sameDay => rwa [Person.settled, if_pos same] at persons
  case laterDay => rwa [Person.settled, if_neg later] at persons

end Sys2Proof.Machine
end

section
/-! PROOFS. CHARGES RETIRE (R100) and the entries it removes and books (R99). -/

namespace Sys2Proof.Machine

open Sys2Proof

variable {s : State} {f : Folio} {e : JournalEntry} {k n : Nat}

/-! ## Booking (R99) -/

/-- The entry is one of the folio `f` in slot `k`, and the posted balance does not hold it yet. -/
def JournalEntry.booksInto (e : JournalEntry) (k : Nat) (f : Folio) : Bool :=
  decide (e.folio = k) && decide (e.folioId = f.id) && decide (f.through < e.number)

theorem booksInto_iff : e.booksInto k f = true ↔ e.folio = k ∧ e.folioId = f.id ∧ f.through < e.number := by
  simp [JournalEntry.booksInto, and_assoc]

/-- Booking one entry changes a folio exactly when the entry books into it. -/
theorem folio_bookRetired (held : s.folios.get k = some f) (e : JournalEntry) :
    (s.bookRetired e).folios.get k = some (if e.booksInto k f then f.booked e else f) := by
  unfold State.bookRetired
  simp only [booksInto_iff]
  by_cases here : e.folio = k
  · subst here
    by_cases books : f.id = e.folioId ∧ f.through < e.number
    · simp [held, books, Table.get_modify]
    · simp [held, books, eq_comm]
  · cases s.folios.get e.folio with
    | none => simp [held, here]
    | some g =>
      dsimp only
      split <;> simp [held, here, Ne.symm here, Table.get_modify]

/-- A booking keeps the folio's id and its posted-through, and so the entries that book into it: they are booked one after the other. -/
theorem folio_bookAll (gone : List JournalEntry) (held : s.folios.get k = some f) :
    (gone.foldl State.bookRetired s).folios.get k = some ((gone.filter (fun e => e.booksInto k f)).foldl Folio.booked f) := by
  induction gone generalizing s f with
  | nil => exact held
  | cons e gone ih =>
    have booked := folio_bookRetired held e
    rw [List.foldl_cons, List.filter_cons]
    by_cases books : e.booksInto k f = true
    · rw [if_pos books] at booked ⊢
      exact ih booked
    · rw [if_neg books] at booked ⊢
      exact ih booked

theorem bookAll_keeps (gone : List JournalEntry) (s : State) : Keeps [.folios] s (gone.foldl State.bookRetired s) :=
  keeps_foldl _ bookRetired_keeps gone s

/-! ## Removing (R99, R100) -/

/-- The entries that a retirement through number `n` removes. -/
def State.chargesThrough (s : State) (n : Nat) : List JournalEntry := s.journal.filter (fun e => decide (e.number ≤ n))

/-- The entries that it leaves. -/
def State.chargesAbove (s : State) (n : Nat) : List JournalEntry := s.journal.filter (fun e => decide (n < e.number))

/-- The state that the journal level is evaluated on: the entries through `n` are booked and removed. -/
def State.chargesRemoved (s : State) (n : Nat) : State :=
  { (s.chargesThrough n).foldl State.bookRetired s with journal := s.chargesAbove n, retiredThrough := n }

theorem chargesRemoved_keeps (s : State) (n : Nat) : Keeps [.journal, .retiredThrough, .folios] s (s.chargesRemoved n) := by
  refine ((bookAll_keeps (s.chargesThrough n) s).weaken (by simp)).trans ?_
  intro p hp; cases p <;> first | rfl | simp at hp

theorem retired_eq (s : State) (n : Nat) : s.retired n = (s.chargesRemoved n).evaluateJournal := by
  have journal : ((s.chargesThrough n).foldl State.bookRetired s).journal = s.journal := bookAll_keeps _ s .journal (by simp)
  rw [State.chargesThrough] at journal
  have above : s.journal.filter (fun e => !decide (e.number ≤ n)) = s.chargesAbove n := by
    simp only [State.chargesAbove, ← decide_not, Nat.not_le]
  rw [State.retired, State.chargesRemoved, State.chargesThrough, journal, above]

theorem retired_keeps (s : State) (n : Nat) : Keeps [.journal, .retiredThrough, .folios, .latches] s (s.retired n) := by
  rw [retired_eq]
  exact ((chargesRemoved_keeps s n).weaken (by simp)).trans ((evaluateJournal_keeps _).weaken (by simp))

/-- Only the journal level stands between a state with its charges removed and the end of CHARGES RETIRE. -/
theorem retired_level (s : State) (n : Nat) : Keeps [.latches] (s.chargesRemoved n) (s.retired n) := by
  rw [retired_eq]
  exact evaluateJournal_keeps _

theorem folio_retired (held : s.folios.get k = some f) (n : Nat) : (s.retired n).folios.get k =
    some (((s.chargesThrough n).filter (fun e => e.booksInto k f)).foldl Folio.booked f) := by
  have folios : (s.retired n).folios = (s.chargesRemoved n).folios := retired_level s n .folios (by simp)
  rw [folios]
  exact folio_bookAll _ held

theorem latch_retired_of_le (high : s.params.highWater ≤ (s.chargesAbove n).length) : (s.retired n).latch .JOURNAL_HIGH =
    (s.latch .JOURNAL_HIGH).raised (.entries (s.chargesAbove n).length) s.clock.time := by
  have keeps := chargesRemoved_keeps s n
  have params : (s.chargesRemoved n).params = s.params := keeps .params (by simp)
  have clock : (s.chargesRemoved n).clock = s.clock := keeps .clock (by simp)
  have level := latch_evaluateJournal_of_le (s := s.chargesRemoved n) (by rwa [params])
  rwa [← retired_eq, clock, State.latch_of_latches (keeps .latches (by simp))] at level

theorem latches_retired_of_lt (low : (s.chargesAbove n).length < s.params.highWater) : (s.retired n).latches = s.latches := by
  have keeps := chargesRemoved_keeps s n
  have params : (s.chargesRemoved n).params = s.params := keeps .params (by simp)
  rw [retired_eq, evaluateJournal_of_lt (s := s.chargesRemoved n) (by rwa [params])]
  exact keeps .latches (by simp)

/-! ## The checks (R100) -/

theorem chargesRetireWork_of_scanning {number : Nat} (scanning : s.scanner ≠ none) :
    s.chargesRetireWork number = s.refuse .BUSY :=
  if_pos (Option.isSome_iff_ne_none.2 scanning)

/-- CHARGES RETIRE while no reconcile runs. -/
theorem chargesRetireWork_of_idle (idle : s.scanner = none) (number : Nat) : s.chargesRetireWork number =
    if number ≤ s.retiredThrough ∨ s.journal = [] then s.done (u16 0 ++ u32 s.retiredThrough)
    else ⟨s.retired (min number s.newestCharge), if s.newestCharge < number then .OK_CLAMPED else .OK,
      u16 (s.chargesThrough (min number s.newestCharge)).length ++ u32 (min number s.newestCharge)⟩ := by
  simp only [State.chargesRetireWork, idle, List.isEmpty_iff]
  rfl

/-- Settles O27: the checks of R100 in order, and then each removed entry booked into the folio it still belongs to. -/
theorem chargesRetireBooks : Obligations.ChargesRetireBooks := by
  intro s tag number ready c
  refine ⟨fun scanning => ?busy, fun idle nothing => ?nothing, fun idle above entries => ?retired⟩
  case busy => exact refused_of_serve rfl ready rfl (chargesRetireWork_of_scanning scanning)
  case nothing => exact answers_ok_of_serve rfl ready rfl ((chargesRetireWork_of_idle idle number).trans (if_pos nothing))
  case retired =>
    intro n gone left
    have work := (chargesRetireWork_of_idle idle number).trans (if_neg (not_or.2 ⟨Nat.not_le.2 above, entries⟩))
    have level := retired_level s n
    exact ⟨s.retired n, answers_of_serve rfl ready rfl work, retired_keeps s n, level .journal (by simp),
      level .retiredThrough (by simp), fun k f held => folio_retired held n, latch_retired_of_le, latches_retired_of_lt⟩

end Sys2Proof.Machine
end

section
/-! PROOFS. What the release of a hold gives back (R85), and a hold whose timer runs out (R88). -/

namespace Sys2Proof.Machine

open Sys2Proof

variable {s : State} {id : HeadId} {h : Hold} {f : Folio}

/-! ## A release (R85) -/

theorem folio_releaseHold (k : Nat) : (s.releaseHold id h).folios.get k =
    if k = h.folio then (s.folios.get h.folio).map (fun f => f.released h s.epoch) else s.folios.get k :=
  Table.get_modify _ _ _ _

theorem person_releaseHold (k : Nat) : (s.releaseHold id h).persons.get k =
    if k = h.slot then (s.persons.get h.slot).map (fun p => p.released h) else s.persons.get k :=
  Table.get_modify _ _ _ _

/-- R53: an offline amount of the present epoch is given back to a folio of the present epoch. -/
theorem released_of_epoch {n epoch : Nat} (offline : h.offline = some (n, epoch)) (present : f.offlineEpoch = epoch) :
    f.released h epoch = { f with held := f.held - h.total, offlineSpent := f.offlineSpent - n } := by
  simp [Folio.released, Folio.offlineReverse, offline, present]

/-- Any other offline amount is not given back. -/
theorem released_of_otherEpoch {epoch : Nat} (other : ∀ n, h.offline = some (n, epoch) → f.offlineEpoch ≠ epoch) :
    f.released h epoch = { f with held := f.held - h.total } := by
  unfold Folio.released
  cases amount : h.offline with
  | none => rfl
  | some x =>
    obtain ⟨n, spentIn⟩ := x
    refine if_neg ?_
    rintro ⟨rfl, present⟩
    exact other n amount present

/-! ## The end of a hold timer (R88) -/

theorem expireHold_of_noHold (free : s.holdAt id = none) : s.expireHold id = s := by
  simp [State.expireHold, free]

/-- The state at the moment the timer of the hold runs out. -/
def State.atExpiry (s : State) (h : Hold) : State := s.passTime (h.timer.duration - s.since h.timer.start)

theorem expireHold_of_hold (held : s.holdAt id = some h) :
    s.expireHold id = if h.confirming then s.atExpiry h else (s.atExpiry h).releaseHold id h := by
  simp only [State.expireHold, held]
  rfl

/-- Settles O31: each record of a release reads as it was given back, and an expiry releases on the state at its moment. -/
theorem holdsReleased : Obligations.HoldsReleased := by
  refine ⟨fun s id h hd held => ?released, fun s line address => ⟨fun free => ?noHold, fun h held => ⟨fun waits => ?expired,
    fun confirming => ?confirming⟩⟩⟩
  case released =>
    obtain ⟨atHead, elsewhere⟩ := head_releaseHold held h
    have given (f : Folio) (folio : s.folios.get h.folio = some f) :
        (s.releaseHold id h).folios.get h.folio = some (f.released h s.epoch) :=
      (folio_releaseHold _).trans ((if_pos rfl).trans (congrArg _ folio))
    exact ⟨releaseHold_keeps s id h, atHead, elsewhere, fun k other => (folio_releaseHold k).trans (if_neg other),
      fun f folio => ⟨fun n offline present => (given f folio).trans (congrArg some (released_of_epoch offline present)),
        fun other => (given f folio).trans (congrArg some (released_of_otherEpoch other))⟩,
      fun k other => (person_releaseHold k).trans (if_neg other),
      fun p person => (person_releaseHold _).trans ((if_pos rfl).trans (congrArg _ person))⟩
  case noHold => exact congrArg Host.Outcome.next (expireHold_of_noHold free)
  case expired => exact congrArg Host.Outcome.next ((expireHold_of_hold held).trans (if_neg (by simp [waits])))
  case confirming => exact congrArg Host.Outcome.next ((expireHold_of_hold held).trans (if_pos confirming))

end Sys2Proof.Machine
end

section
/-! PROOFS. What a VOID and a CONFIRM that are taken do with the hold of their terminal (R87, R90 to R92). -/

namespace Sys2Proof.Machine

open Sys2Proof

variable {s : State} {e : Entry} {rest : List Entry} {tag : Nat} {hd : Head} {h : Hold} {id : HeadId}

theorem holdAt_of_head (held : s.head? id = some hd) : s.holdAt id = hd.hold := by
  simp [State.holdAt, held]

/-! ## VOID (R87) -/

theorem gives_of_voidTakeable (event : e.event = .void tag) (taken : s.takeable .VENUE_TERMINAL e rest)
    (flows : s.intakeWaits = false) : Gives .void s ((s.purchaseTaken rest).releaseTagged e.head tag) :=
  gives_of_takeable (apply := fun s => s.releaseTagged e.head tag) taken (congrArg Host.Outcome.next (if_neg (by simp [flows])))
    (by simp only [event])

theorem releaseTagged_of_open (held : s.head? id = some hd) (holds : hd.hold = some h) (same : h.tag = tag)
    (waits : h.confirming = false) : s.releaseTagged id tag = s.releaseHold id h := by
  simp [State.releaseTagged, holdAt_of_head held, holds, same, waits]

theorem releaseTagged_of_noOpen (held : s.head? id = some hd)
    (noOpen : ∀ h, hd.hold = some h → h.tag = tag → h.confirming = true) : s.releaseTagged id tag = s := by
  rw [State.releaseTagged, holdAt_of_head held]
  cases holds : hd.hold with
  | none => rfl
  | some h => exact if_neg (fun both => by simp [noOpen h holds both.1] at both)

/-- Settles O32: the hold of the VOID's tag is released unless it is confirming. -/
theorem voidReleasesItsHold : Obligations.VoidReleasesItsHold := by
  intro s e rest tag hd event taken flows held emptied
  have gives := gives_of_voidTakeable event taken flows
  have atHead : (s.purchaseTaken rest).head? e.head = some hd := held
  have noEffect (noOpen : ∀ h, hd.hold = some h → h.tag = tag → h.confirming = true) : Gives .void s emptied := by
    rwa [releaseTagged_of_noOpen atHead noOpen] at gives
  refine ⟨fun h holds same waits => ?released, fun h holds same confirming => noEffect ?_, fun other => noEffect ?_⟩
  case released => rwa [releaseTagged_of_open atHead holds same waits] at gives
  · intro g holds' _
    obtain rfl := Option.some.inj (holds.symm.trans holds')
    exact confirming
  · exact fun h holds same => absurd same (other h holds)

/-! ## A CONFIRM: taken, or waited at (R90) -/

theorem confirmWaits_iff (held : s.head? e.head = some hd) : s.confirmWaits e tag = true ↔
    (∃ h, hd.hold = some h ∧ h.tag = tag ∧ h.confirming = false ∧ s.underReconcile h.folio h.folioId = true)
      ∧ 16 ≤ s.deferred.length := by
  simp [State.confirmWaits, holdAt_of_head held, Option.any_eq_true, Config.deferredEntries, and_assoc]

theorem takeConfirm_of_takeable (event : e.event = .confirm tag) (taken : s.takeable .VENUE_TERMINAL e rest) : s.takeConfirm =
    if s.confirmWaits e tag then { s with intakeWaits := true }
    else s.takePurchase (fun e => some (fun s => s.decideConfirm e tag)) := by
  simp [State.takeConfirm, oldest_of_takeable taken, event, entryGone_of_takeable taken]

theorem gives_of_confirmWaits (event : e.event = .confirm tag) (taken : s.takeable .VENUE_TERMINAL e rest)
    (waits : s.confirmWaits e tag = true) : Gives .confirm s { s with intakeWaits := true } :=
  congrArg Host.Outcome.next ((takeConfirm_of_takeable event taken).trans (if_pos waits))

/-- A CONFIRM that is not waited at is decided on the state with its entry gone. -/
theorem gives_of_confirmTakeable (event : e.event = .confirm tag) (taken : s.takeable .VENUE_TERMINAL e rest)
    (flows : s.intakeWaits = false) (goes : ¬ s.confirmWaits e tag = true) :
    Gives .confirm s ((s.purchaseTaken rest).decideConfirm e tag) :=
  gives_of_takeable (apply := fun s => s.decideConfirm e tag) taken
    (congrArg Host.Outcome.next ((takeConfirm_of_takeable event taken).trans ((if_neg goes).trans (if_neg (by simp [flows]))))) rfl

/-! ## The cases of R90 -/

theorem decideConfirm_of_noHold (held : s.head? e.head = some hd) (other : ∀ h, hd.hold = some h → h.tag ≠ tag) :
    s.decideConfirm e tag = s.sendDecision e (.purchase tag .LATE) := by
  rw [State.decideConfirm, holdAt_of_head held]
  cases holds : hd.hold with
  | none => rfl
  | some h => exact if_pos (other h holds)

section Held

variable (held : s.head? e.head = some hd) (holds : hd.hold = some h) (same : h.tag = tag)

include held holds same

/-- Case 4 of R90 for the terminal's hold. -/
theorem confirmWaits_iff_of_hold : s.confirmWaits e tag = true ↔
    h.confirming = false ∧ s.underReconcile h.folio h.folioId = true ∧ 16 ≤ s.deferred.length := by
  simp [confirmWaits_iff held, holds, same, and_assoc]

theorem decideConfirm_of_confirming (confirming : h.confirming = true) : s.decideConfirm e tag = s.giveBackEntry e := by
  simp [State.decideConfirm, holdAt_of_head held, holds, same, confirming]

theorem decideConfirm_of_scanning (waits : h.confirming = false) (scanning : s.underReconcile h.folio h.folioId = true) :
    s.decideConfirm e tag = s.deferConfirm e tag h := by
  simp [State.decideConfirm, holdAt_of_head held, holds, same, waits, scanning]

theorem decideConfirm_of_idle (waits : h.confirming = false) (idle : ¬ s.underReconcile h.folio h.folioId = true) :
    s.decideConfirm e tag = s.confirmNow e tag h := by
  simp [State.decideConfirm, holdAt_of_head held, holds, same, waits, idle]

end Held

/-- The entry of a CONFIRM that sends no frame gives back its outbound reservation (R154). -/
theorem giveBackEntry_of_held (reserves : e.held = true) : s.giveBackEntry e =
    { s with lines := s.lines.set e.head.line { s.line e.head.line with reserved := (s.line e.head.line).reserved - 1 } } :=
  if_pos reserves

/-- R92: the hold is marked confirming and joins the deferred list. -/
theorem deferConfirm_of_held (held : s.head? e.head = some hd) (reserves : e.held = true) (h : Hold) : s.deferConfirm e tag h =
    { s with
      lines := s.lines.set e.head.line { s.line e.head.line with reserved := (s.line e.head.line).reserved - 1 }
      heads := s.heads.set e.head.key { hd with hold := some { h with confirming := true } }
      deferred := s.deferred ++ [⟨e.head, tag, none⟩] } := by
  rw [State.deferConfirm, giveBackEntry_of_held reserves, State.modifyHead, Table.modify_of_get _ _ _ (State.heads_get_of_head held)]
  rfl

/-! ## A CONFIRM applied at once -/

/-- Beside the application itself, the answer touches only the head and the line of the terminal. -/
theorem confirmNow_answers : Keeps [.heads, .lines] (s.applyConfirm h) (s.confirmNow e tag h) :=
  ((modifyHead_keeps _ e.head _).weaken (by simp)).trans ((sendDecision_keeps _ e _).weaken (by simp))

theorem confirmNow_keeps : Keeps [.lines, .heads, .folios, .persons, .journal, .latches] s (s.confirmNow e tag h) :=
  ((applyConfirm_keeps s h).weaken (by simp)).trans (confirmNow_answers.weaken (by simp))

/-- The CONFIRMED frame holds the number of the hold's entry. -/
theorem lines_confirmNow (reserved : 0 < (s.line e.head.line).reserved) : (s.confirmNow e tag h).lines =
    s.lines.set e.head.line { s.line e.head.line with
      queue := (s.line e.head.line).queue ++ [⟨e.head.address, .purchase tag (.CONFIRMED s.nextCharge)⟩],
      reserved := (s.line e.head.line).reserved - 1 } := by
  have lines : ((s.applyConfirm h).modifyHead e.head (fun hd => { hd with hold := none })).lines = s.lines :=
    applyConfirm_keeps s h .lines (by simp)
  have line := State.line_of_lines lines e.head.line
  rw [State.confirmNow, sendDecision_of_reserved (by rwa [line]), line, lines]

theorem head_confirmNow (held : s.head? e.head = some hd) :
    (s.confirmNow e tag h).head? e.head = some { hd with hold := none } := by
  have heads : (s.applyConfirm h).heads = s.heads := applyConfirm_keeps s h .heads (by simp)
  exact (head_modifyHead_of_head ((State.head_of_heads heads _).trans held) (fun hd => { hd with hold := none })).1

/-- Settles O33: a CONFIRM of its hold is waited at only while the deferred list is full; every other case is decided on the state with the
entry gone. -/
theorem confirmByCase : Obligations.ConfirmByCase := by
  intro s e rest tag hd event reserves taken flows held reserved ln emptied framed givenBack
  have atHead : (s.purchaseTaken rest).head? e.head = some hd := held
  have goes := gives_of_confirmTakeable event taken flows
  refine ⟨fun other => ?late, fun h holds same => ?hold⟩
  case late =>
    have gives := goes (fun waits => by
      obtain ⟨⟨h, holds, same, -⟩, -⟩ := (confirmWaits_iff held).1 waits
      exact other h holds same)
    rwa [decideConfirm_of_noHold atHead other, sendDecision_of_reserved (s := s.purchaseTaken rest) reserved] at gives
  intro scanning
  rw [confirmWaits_iff_of_hold held holds same] at goes
  have isScanning : s.underReconcile h.folio h.folioId = true ↔ scanning := underReconcile_iff
  refine ⟨fun confirming => ?confirming, fun waits scan room => ?deferred, fun waits scan full => ?waited, fun waits idle => ?now⟩
  case confirming =>
    have gives := goes (fun ⟨waits, _⟩ => by simp [confirming] at waits)
    rwa [decideConfirm_of_confirming atHead holds same confirming, giveBackEntry_of_held reserves] at gives
  case deferred =>
    have gives := goes (fun ⟨_, _, full⟩ => Nat.not_le.2 room full)
    rwa [decideConfirm_of_scanning atHead holds same waits (isScanning.2 scan), deferConfirm_of_held atHead reserves] at gives
  case waited =>
    exact gives_of_confirmWaits event taken ((confirmWaits_iff_of_hold held holds same).2 ⟨waits, isScanning.2 scan, full⟩)
  case now =>
    have gives := goes (fun ⟨_, scan, _⟩ => idle (isScanning.1 scan))
    rw [decideConfirm_of_idle atHead holds same waits (mt isScanning.1 idle)] at gives
    have answers : Keeps [.heads, .lines] (emptied.applyConfirm h) (emptied.confirmNow e tag h) := confirmNow_answers
    exact ⟨emptied.confirmNow e tag h, gives,
      ((purchaseTaken_keeps s rest).weaken (by simp)).trans (confirmNow_keeps.weaken (by simp)),
      confirmNow_keeps (s := emptied) .purchaseIn (by simp), lines_confirmNow (s := emptied) reserved, head_confirmNow atHead,
      answers .journal (by simp), answers .folios (by simp), answers .persons (by simp), answers .latches (by simp)⟩

end Sys2Proof.Machine
end

section
/-! PROOFS. The lane requests by their tables (R105, R107, R108). -/

namespace Sys2Proof.Machine

open Sys2Proof

variable {s : State} {n direction mode : Nat} {pc : Pending}

/-- A second write of a lane replaces the first. -/
theorem State.setLane_setLane (a b : Lane) : (s.setLane n a).setLane n b = s.setLane n b := by
  simp [State.setLane]

/-! ## LANE PUT (R105) -/

/-- The direction that the code of a LANE PUT names. -/
def directionOf (direction : Nat) : Direction := if direction = 0 then .INBOUND else .OUTBOUND

/-- The commit mode that the code of a LANE PUT names. -/
def commitModeOf (mode : Nat) : CommitMode := if mode = 0 then .ON_PASS else .ON_NEXT

theorem direction_of_le (h : direction ≤ 1) : Direction.ofCode direction = some (directionOf direction) := by
  obtain rfl | rfl : direction = 0 ∨ direction = 1 := by omega
  all_goals rfl

theorem direction_of_gt (h : 1 < direction) : Direction.ofCode direction = none := by
  obtain ⟨n, rfl⟩ := Nat.exists_eq_add_of_le' h
  rfl

theorem commitMode_of_le (h : mode ≤ 1) : CommitMode.ofCode mode = some (commitModeOf mode) := by
  obtain rfl | rfl : mode = 0 ∨ mode = 1 := by omega
  all_goals rfl

theorem commitMode_of_gt (h : 1 < mode) : CommitMode.ofCode mode = none := by
  obtain ⟨n, rfl⟩ := Nat.exists_eq_add_of_le' h
  rfl

theorem lanePutWork_of_inRange (hn : n < 8) (hd : direction ≤ 1) (hm : mode ≤ 1) : s.lanePutWork n direction mode =
    if (s.lane n).state ≠ .CLOSED then s.refuse .WRONG_STATE
    else (s.setLane n { s.lane n with direction := directionOf direction, mode := commitModeOf mode, committed := 0, refused := 0,
                                      abandoned := 0, tailgates := 0 }).done := by
  simp only [State.lanePutWork, direction_of_le hd, commitMode_of_le hm]
  exact if_neg (Nat.not_le.2 hn)

theorem lanePutWork_of_range (bad : 8 ≤ n ∨ 1 < direction ∨ 1 < mode) :
    s.lanePutWork n direction mode = s.refuse .OUT_OF_RANGE := by
  rcases Nat.lt_or_ge 1 direction with hd | hd
  · simp [State.lanePutWork, direction_of_gt hd]
  rcases Nat.lt_or_ge 1 mode with hm | hm
  · simp [State.lanePutWork, direction_of_le hd, commitMode_of_gt hm]
  · simp only [State.lanePutWork, direction_of_le hd, commitMode_of_le hm]
    exact if_pos (show 8 ≤ n by omega)

/-! ## LANE OPEN, LANE HOLD and LANE RELEASE (R107) -/

theorem laneOpenWork_of_range (hn : 8 ≤ n) : s.laneOpenWork n = s.refuse .OUT_OF_RANGE := if_pos hn

theorem laneHoldWork_of_range (hn : 8 ≤ n) : s.laneHoldWork n = s.refuse .OUT_OF_RANGE := if_pos hn

theorem laneReleaseWork_of_range (hn : 8 ≤ n) : s.laneReleaseWork n = s.refuse .OUT_OF_RANGE := if_pos hn

theorem laneCloseWork_of_range (hn : 8 ≤ n) : s.laneCloseWork n = s.refuse .OUT_OF_RANGE := if_pos hn

section Lane

variable (hn : n < 8)

include hn

theorem laneOpenWork_of_closed (closed : (s.lane n).state = .CLOSED) : s.laneOpenWork n =
    if (s.lane n).head.any (fun h => s.online h) then s.laneDone n { s.lane n with state := .OPEN } else s.refuse .WRONG_STATE := by
  simp only [State.laneOpenWork, closed]
  exact if_neg (Nat.not_le.2 hn)

theorem laneOpenWork_of_notClosed (other : (s.lane n).state ≠ .CLOSED) : s.laneOpenWork n = s.done (encLaneState (s.lane n)) := by
  refine (if_neg (Nat.not_le.2 hn)).trans ?_
  cases state : (s.lane n).state with
  | CLOSED => exact absurd state other
  | OPEN => simp only [state]
  | HELD => simp only [state]

theorem laneHoldWork_of_closed (closed : (s.lane n).state = .CLOSED) : s.laneHoldWork n = s.refuse .WRONG_STATE := by
  simp only [State.laneHoldWork, closed]
  exact if_neg (Nat.not_le.2 hn)

theorem laneHoldWork_of_notClosed (other : (s.lane n).state ≠ .CLOSED) :
    s.laneHoldWork n = s.laneDone n { s.lane n with holdHost := true, state := .HELD } := by
  refine (if_neg (Nat.not_le.2 hn)).trans ?_
  cases state : (s.lane n).state with
  | CLOSED => exact absurd state other
  | OPEN => simp only [state]
  | HELD => simp only [state]

theorem laneReleaseWork_of_closed (closed : (s.lane n).state = .CLOSED) : s.laneReleaseWork n = s.refuse .WRONG_STATE := by
  simp only [State.laneReleaseWork, closed]
  exact if_neg (Nat.not_le.2 hn)

theorem laneReleaseWork_of_open (opened : (s.lane n).state = .OPEN) : s.laneReleaseWork n = s.done (encLaneState (s.lane n)) := by
  simp only [State.laneReleaseWork, opened]
  exact if_neg (Nat.not_le.2 hn)

theorem laneReleaseWork_of_held (held : (s.lane n).state = .HELD) : s.laneReleaseWork n =
    s.laneDone n { s.lane n with holdHost := false, state := if (s.lane n).holdBank then .HELD else .OPEN } := by
  simp only [State.laneReleaseWork, held]
  exact if_neg (Nat.not_le.2 hn)

/-! ## LANE CLOSE (R108) -/

theorem laneCloseWork_of_closed (closed : (s.lane n).state = .CLOSED) : s.laneCloseWork n = s.done (encLaneState (s.lane n)) := by
  simp only [State.laneCloseWork, closed]
  exact if_neg (Nat.not_le.2 hn)

/-- A lane that LANE CLOSE has closed has no hold reason to report. -/
theorem laneCloseWork_of_notClosed (other : (s.lane n).state ≠ .CLOSED) :
    s.laneCloseWork n = (s.closedByHost n).done [0x00#8, 0x00#8] := by
  have reported : encLaneState ((s.closedByHost n).lane n) = [0x00#8, 0x00#8] := by
    rw [State.closedByHost, State.lane_setLane, if_pos rfl]
    rfl
  refine (if_neg (Nat.not_le.2 hn)).trans ?_
  cases state : (s.lane n).state with
  | CLOSED => exact absurd state other
  | OPEN => simp only [reported]
  | HELD => simp only [reported]

end Lane

theorem closedByHost_of_idle (idle : (s.lane n).pending = none) : s.closedByHost n = s.setLane n (s.lane n).closed := by
  simp [State.closedByHost, State.endForClose, idle]

theorem closedByHost_of_next (crossing : (s.lane n).pending = some pc) (stage : pc.stage = .AWAIT_NEXT) :
    s.closedByHost n = (s.commitCrossing n pc .BY_CLOSE).setLane n ((s.commitCrossing n pc .BY_CLOSE).lane n).closed := by
  simp [State.closedByHost, State.endForClose, crossing, stage]

/-- The abandoned crossing is counted on the lane that closes. -/
theorem closedByHost_of_otherStage (crossing : (s.lane n).pending = some pc) (stage : pc.stage ≠ .AWAIT_NEXT) :
    s.closedByHost n = s.setLane n { (s.lane n).closed with abandoned := bump (s.lane n).abandoned } := by
  have ended : s.endForClose n = s.abandonCrossing n := by
    rw [State.endForClose, crossing]
    cases waits : pc.stage with
    | AWAIT_NEXT => exact absurd waits stage
    | AWAIT_PASS => simp only [waits]
    | AWAIT_OFFICER => simp only [waits]
  rw [State.closedByHost, ended, State.abandonCrossing, State.lane_setLane, if_pos rfl, State.setLane_setLane]
  rfl

/-- Settles O35: each lane request by the row of its table. -/
theorem laneRequestsByTable : Obligations.LaneRequestsByTable := by
  refine ⟨fun s tag n direction mode => ⟨fun ready => ?put, fun ready => ?opens, fun ready => ?hold, fun ready => ?release⟩,
    fun s tag n ready => ?close⟩
  case put =>
    refine ⟨fun bad => refused_of_serve rfl ready rfl (lanePutWork_of_range bad), fun hn hd hm other => ?_, fun hn hd hm closed => ?_⟩
    · exact refused_of_serve rfl ready rfl ((lanePutWork_of_inRange hn hd hm).trans (if_pos other))
    · exact answers_ok_of_serve rfl ready rfl ((lanePutWork_of_inRange hn hd hm).trans (if_neg (not_not_intro closed)))
  case opens =>
    refine ⟨fun hn => refused_of_serve rfl ready rfl (laneOpenWork_of_range hn), fun hn closed offline => ?_,
      fun h hn closed bound online => ?_, fun hn other => answers_ok_of_serve rfl ready rfl (laneOpenWork_of_notClosed hn other)⟩
    · refine refused_of_serve rfl ready rfl ((laneOpenWork_of_closed hn closed).trans (if_neg ?_))
      simpa [Option.any_eq_true] using offline
    · exact answers_ok_of_serve rfl ready rfl ((laneOpenWork_of_closed hn closed).trans (if_pos (by simp [bound, online])))
  case hold =>
    exact ⟨fun hn => refused_of_serve rfl ready rfl (laneHoldWork_of_range hn),
      fun hn closed => refused_of_serve rfl ready rfl (laneHoldWork_of_closed hn closed),
      fun hn other => answers_ok_of_serve rfl ready rfl (laneHoldWork_of_notClosed hn other)⟩
  case release =>
    refine ⟨fun hn => refused_of_serve rfl ready rfl (laneReleaseWork_of_range hn),
      fun hn closed => refused_of_serve rfl ready rfl (laneReleaseWork_of_closed hn closed), fun hn opened => ?_,
      fun hn held bank => ?_, fun hn held noBank => ?_⟩
    · exact answers_ok_of_serve rfl ready rfl ((laneReleaseWork_of_open hn opened).trans (by rw [encLaneState, opened]; rfl))
    · exact answers_ok_of_serve rfl ready rfl
        ((laneReleaseWork_of_held hn held).trans (by simp only [State.laneDone, encLaneState, bank]; rfl))
    · exact answers_ok_of_serve rfl ready rfl
        ((laneReleaseWork_of_held hn held).trans (by simp only [State.laneDone, encLaneState, noBank]; rfl))
  case close =>
    refine ⟨fun hn => refused_of_serve rfl ready rfl (laneCloseWork_of_range hn), fun hn closed => ?_, fun hn other => ?_⟩
    · exact answers_ok_of_serve rfl ready rfl ((laneCloseWork_of_closed hn closed).trans (by rw [encLaneState, closed]; rfl))
    have work := laneCloseWork_of_notClosed hn other
    refine ⟨fun idle => ?_, fun pc crossing stage => ?_, fun pc crossing stage => ?_⟩
    · exact answers_ok_of_serve rfl ready rfl (work.trans (by rw [closedByHost_of_idle idle]; rfl))
    · exact answers_ok_of_serve rfl ready rfl (work.trans (by rw [closedByHost_of_otherStage crossing stage]; rfl))
    · exact answers_ok_of_serve rfl ready rfl (work.trans (by rw [closedByHost_of_next crossing stage]; rfl))

end Sys2Proof.Machine
end

section
/-! PROOFS. What the events and the timers of a pending crossing do with it (R116 to R119). -/

namespace Sys2Proof.Machine

open Sys2Proof

variable {s : State} {e : Entry} {rest : List Entry} {hd : Head} {n : Nat} {pc : Pending}

/-! ## The entry of a lane event -/

/-- The state once the oldest entry of the lane intake has been taken, with the entries that are left (R157). -/
def State.laneTaken (s : State) (rest : List Entry) : State := { s with laneIn := ⟨rest, s.laneIn.reserved⟩ }

theorem laneTaken_keeps (s : State) (rest : List Entry) : Keeps [.laneIn] s (s.laneTaken rest) := by
  intro p hp; cases p <;> first | rfl | simp at hp

/-- A GWU command whose event is that of the entry taken applies the event on the state with the entry gone. -/
theorem gives_of_laneTakeable {i : Instr} {handle : Entry → Option (State → State)} {apply : State → State}
    (taken : s.takeable .GANGWAY_LANE e rest) (he : exec i s = .next (s.takeOldest .GANGWAY_LANE handle)) (known : handle e = some apply) :
    Gives i s (apply (s.laneTaken rest)) :=
  gives_of_takeable taken he known

theorem laneOfHead_of_head (held : s.head? e.head = some hd) : s.laneOfHead e.head = hd.bound := by
  simp [State.laneOfHead, held]

/-- The lane of the entry's head, on the state with the entry gone. -/
theorem laneOfHead_laneTaken (held : s.head? e.head = some hd) : (s.laneTaken rest).laneOfHead e.head = hd.bound :=
  laneOfHead_of_head (s := s.laneTaken rest) held

/-! ## PASSED (R119) -/

theorem applyPassed_of_pass (crossing : (s.lane n).pending = some pc) (stage : pc.stage = .AWAIT_PASS) :
    s.applyPassed n = s.commitCrossing n pc .BY_PASS := by
  obtain ⟨slot, tag, start, stage', mismatch, timer⟩ := pc
  subst stage
  simp [State.applyPassed, crossing]

/-- A passage that no crossing waits for is a tailgate. -/
theorem applyPassed_of_tailgate (noPass : ∀ pc, (s.lane n).pending = some pc → pc.stage ≠ .AWAIT_PASS) :
    s.applyPassed n = (s.setLane n { s.lane n with tailgates := bump (s.lane n).tailgates }).raise .TAILGATE (.lane n) := by
  unfold State.applyPassed
  split
  · rename_i crossing
    exact absurd rfl (noPass _ crossing)
  · rfl

/-! ## OFFICER_ACCEPT and OFFICER_REJECT (R116, R117) -/

theorem CommitMode.stage_eq (m : CommitMode) : m.stage = if m = .ON_PASS then .AWAIT_PASS else .AWAIT_NEXT := by cases m <;> rfl

theorem applyAccept_of_officer (crossing : (s.lane n).pending = some pc) (stage : pc.stage = .AWAIT_OFFICER) :
    s.applyAccept n =
      s.setLane n { s.lane n with pending := some { pc with stage := (s.lane n).mode.stage, timer := s.pendingTimer } } := by
  obtain ⟨slot, tag, start, stage', mismatch, timer⟩ := pc
  subst stage
  simp [State.applyAccept, crossing]

theorem applyAccept_of_noOfficer (noOfficer : ∀ pc, (s.lane n).pending = some pc → pc.stage ≠ .AWAIT_OFFICER) :
    s.applyAccept n = s := by
  unfold State.applyAccept
  dsimp only
  split
  · rename_i crossing
    exact absurd rfl (noOfficer _ crossing)
  · rfl

theorem applyReject_of_crossing (crossing : (s.lane n).pending = some pc) : s.applyReject n = s.abandonCrossing n := by
  simp [State.applyReject, crossing]

theorem applyReject_of_idle (idle : (s.lane n).pending = none) : s.applyReject n = s := by
  simp [State.applyReject, idle]

/-- Settles O38: a PASSED by whether the lane's crossing waits for it, an OFFICER_ACCEPT by whether it waits for the officer. -/
theorem passedAndOfficerAccept : Obligations.PassedAndOfficerAccept := by
  intro s e rest hd taken held n la emptied
  have bound : (s.laneTaken rest).laneOfHead e.head = n := laneOfHead_laneTaken held
  refine ⟨fun event => ?passed, fun event => ?accepted⟩
  case passed =>
    have gives := gives_of_laneTakeable (i := .passed) (apply := fun s => s.applyPassed (s.laneOfHead e.head)) taken rfl
      (by simp only [event])
    simp only [bound] at gives
    refine ⟨fun pc crossing stage => ?_, fun noPass => ?_⟩
    · rwa [applyPassed_of_pass (s := s.laneTaken rest) crossing stage] at gives
    · rwa [applyPassed_of_tailgate (s := s.laneTaken rest) noPass] at gives
  case accepted =>
    have gives := gives_of_laneTakeable (i := .officerAccept) (apply := fun s => s.applyAccept (s.laneOfHead e.head)) taken rfl
      (by simp only [event])
    simp only [bound] at gives
    refine ⟨fun pc crossing stage => ?_, fun noOfficer => ?_⟩
    · rwa [applyAccept_of_officer (s := s.laneTaken rest) crossing stage, CommitMode.stage_eq] at gives
    · rwa [applyAccept_of_noOfficer (s := s.laneTaken rest) noOfficer] at gives

/-- Settles O39: an OFFICER_REJECT abandons whatever crossing stands on the lane. -/
theorem officerRejectAbandons : Obligations.OfficerRejectAbandons := by
  intro s e rest hd taken held event la emptied
  have gives := gives_of_laneTakeable (i := .officerReject) (apply := fun s => s.applyReject (s.laneOfHead e.head)) taken rfl
    (by simp only [event])
  simp only [laneOfHead_laneTaken held] at gives
  refine ⟨fun crossing => ?_, fun idle => ?_⟩
  · obtain ⟨pc, crossing⟩ := Option.ne_none_iff_exists'.1 crossing
    rwa [applyReject_of_crossing (s := s.laneTaken rest) crossing] at gives
  · rwa [applyReject_of_idle (s := s.laneTaken rest) idle] at gives

/-! ## The timers (R118) -/

theorem expirePending_of_idle (idle : (s.lane n).pending = none) : s.expirePending n = s := by
  simp [State.expirePending, idle]

theorem expireOfficer_of_idle (idle : (s.lane n).pending = none) : s.expireOfficer n = s := by
  simp [State.expireOfficer, idle]

/-- The state at the moment at which the timer of a crossing runs out (log entry 3). -/
def State.atTimeout (s : State) (pc : Pending) : State := s.passTime (s.timeLeft pc.timer)

theorem expirePending_of_crossing (crossing : (s.lane n).pending = some pc) : s.expirePending n =
    match pc.stage with
    | .AWAIT_PASS => (s.atTimeout pc).abandonCrossing n
    | .AWAIT_NEXT => (s.atTimeout pc).commitCrossing n pc .BY_TIMEOUT
    | .AWAIT_OFFICER => s := by
  simp only [State.expirePending, crossing]
  cases pc.stage <;> rfl

theorem expireOfficer_of_crossing (crossing : (s.lane n).pending = some pc) : s.expireOfficer n =
    match pc.stage with
    | .AWAIT_OFFICER => (s.atTimeout pc).abandonCrossing n
    | .AWAIT_PASS => s
    | .AWAIT_NEXT => s := by
  simp only [State.expireOfficer, crossing]
  cases pc.stage <;> rfl

/-- Settles O40: of the two timers of a lane, the one that the crossing's stage runs ends it; the other does nothing. -/
theorem crossingTimersExpire : Obligations.CrossingTimersExpire := by
  intro s n la late abandoned
  have pending : Gives (.pendingTimeout n) s (s.expirePending n) := rfl
  have officer : Gives (.officerWaitExpiry n) s (s.expireOfficer n) := rfl
  refine ⟨fun pc crossing => ?_, fun idle => ?_⟩
  · rw [expirePending_of_crossing crossing] at pending
    rw [expireOfficer_of_crossing crossing] at officer
    refine ⟨fun stage => ?_, fun stage => ?_, fun stage => ?_⟩ <;> rw [stage] at pending officer
    · exact ⟨pending, officer⟩
    · exact ⟨pending, officer⟩
    · exact ⟨officer, pending⟩
  · rw [expirePending_of_idle idle] at pending
    rw [expireOfficer_of_idle idle] at officer
    exact ⟨pending, officer⟩

end Sys2Proof.Machine
end

section
/-! PROOFS. What a presence change handed to the cabins reads, what the banks hold after a record and after a swap, and what a commit makes of
the state (R27, R28, R122, R128). -/

namespace Sys2Proof.Machine

open Sys2Proof

variable {s u : State} {n m slot : Nat} {p : Person} {pc : Pending} {cause : Cause} {after : Presence}

/-! ## The cabins of a person (R27) -/

/-- The state `u` with those parts of `s` that a hand-off to the cabins reads or writes. -/
def State.cabinPartsInto (s u : State) : State := { u with cabins := s.cabins, lines := s.lines, heads := s.heads, params := s.params }

theorem cabinBecomes_into (k : Nat) (c d : Cabin) :
    (s.cabinPartsInto u).cabinBecomes k c d = (s.cabinBecomes k c d).cabinPartsInto u := by
  have params : (s.cabinPartsInto u).params = s.params := rfl
  unfold State.cabinBecomes
  rw [params]
  split
  · cases c.doorHead with
    | none => rfl
    | some h =>
      have online : (s.cabinPartsInto u).online h = s.online h := rfl
      have line : (s.cabinPartsInto u).line h.line = s.line h.line := rfl
      simp only [online, line]
      split <;> rfl
  · rfl

theorem countDown_into (k : Nat) : (s.cabinPartsInto u).countDown k = (s.countDown k).cabinPartsInto u := by
  have cabins : (s.cabinPartsInto u).cabins.get k = s.cabins.get k := rfl
  cases held : s.cabins.get k with
  | none => simp only [State.countDown, cabins, held]
  | some c => rw [countDown_of_get s held, countDown_of_get _ (cabins.trans held), cabinBecomes_into]

theorem presenceAtCabin_into (before after : Presence) (number : Nat) :
    (s.cabinPartsInto u).presenceAtCabin before after number = (s.presenceAtCabin before after number).cabinPartsInto u := by
  have found : (s.cabinPartsInto u).cabinSlot number = s.cabinSlot number := rfl
  unfold State.presenceAtCabin
  rw [found]
  cases s.cabinSlot number with
  | none => rfl
  | some k =>
    dsimp only
    split
    · rfl
    · split
      · exact countDown_into k
      · rfl

/-- R27: a presence change handed to the cabins reads and writes no part but theirs. -/
theorem presenceAtCabins_into (numbers : List Nat) (before after : Presence) :
    (s.cabinPartsInto u).presenceAtCabins numbers before after = (s.presenceAtCabins numbers before after).cabinPartsInto u := by
  induction numbers generalizing s with
  | nil => rfl
  | cons number numbers ih =>
    show ((s.cabinPartsInto u).presenceAtCabin before after number).presenceAtCabins numbers before after = _
    rw [presenceAtCabin_into, ih]
    rfl

/-- The state once the person's record is written and the census and the Missing List have followed (R122 steps 2 and 3). -/
def State.presenceWritten (s : State) (slot : Nat) (p : Person) (after : Presence) : State :=
  let p' := { p with presence := after, lastCrossing := some s.clock.time }
  { s with
    persons := s.persons.set slot p'
    census := s.census.handed (some p.standing) (some p'.standing)
    sweeper := s.sweeper.handed slot (some p.standing) (some p'.standing) }

theorem changePresence_eq : s.changePresence slot p after =
    (s.presenceAtCabins p.ident.cabins p.presence after).cabinPartsInto (s.presenceWritten slot p after) :=
  presenceAtCabins_into (s := s) (u := s.presenceWritten slot p after) p.ident.cabins p.presence after

theorem sweeper_presenceWritten : (s.presenceWritten slot p after).sweeper = s.sweeper.listed slot
    (isMissing p.ident.category p.presence p.ident.excused) (isMissing p.ident.category after p.ident.excused) := by
  refine (sweeper_handed _ _ _ _).trans ?_
  simp only [Option.any_some, standing_missing]
  rfl

theorem Direction.presence_eq (d : Direction) : d.presence = match d with | .INBOUND => .ABOARD | .OUTBOUND => .ASHORE := by
  cases d <;> rfl

/-! ## The banks (R122, R128) -/

theorem fillingNumber_le (s : State) : s.fillingNumber ≤ 1 := by
  unfold State.fillingNumber
  split <;> omega

theorem bank_setBank (hn : n ≤ 1) (hm : m ≤ 1) (b : Bank) : (s.setBank n b).bank m = if m = n then b else s.bank m := by
  obtain rfl | rfl : n = 0 ∨ n = 1 := by omega
  all_goals
    obtain rfl | rfl : m = 0 ∨ m = 1 := by omega
    all_goals rfl

/-- A FILLING bank that is written in its state still is the FILLING bank. -/
theorem fillingNumber_setBank {b : Bank} (same : b.state = s.filling.state) :
    (s.setBank s.fillingNumber b).fillingNumber = s.fillingNumber := by
  by_cases first : s.bank0.state = .FILLING
  · have number : s.fillingNumber = 0 := if_pos first
    have state : b.state = .FILLING := by rw [same, State.filling, number]; exact first
    rw [number]
    exact if_pos state
  · have number : s.fillingNumber = 1 := if_neg first
    rw [number]
    exact if_neg first

theorem filling_of_banks {t : State} (bank0 : t.bank0 = s.bank0) (bank1 : t.bank1 = s.bank1) :
    t.fillingNumber = s.fillingNumber ∧ t.filling = s.filling ∧ t.other = s.other := by
  have number : t.fillingNumber = s.fillingNumber := by rw [State.fillingNumber, State.fillingNumber, bank0]
  have bank : ∀ m, t.bank m = s.bank m := fun m => by rw [State.bank, State.bank, bank0, bank1]
  exact ⟨number, by rw [State.filling, State.filling, number, bank], by rw [State.other, State.other, number, bank]⟩

theorem one_sub_fillingNumber (s : State) : 1 - s.fillingNumber ≤ 1 ∧ 1 - s.fillingNumber ≠ s.fillingNumber := by
  have := fillingNumber_le s
  omega

section Append

variable (c : Crossing)

theorem fillingNumber_appendCrossing : (s.appendCrossing c).fillingNumber = s.fillingNumber :=
  fillingNumber_setBank (s := s) (b := { s.filling with records := s.filling.records ++ [{ c with number := s.nextCrossing }] }) rfl

theorem bank_appendCrossing (hm : m ≤ 1) : (s.appendCrossing c).bank m =
    if m = s.fillingNumber then { s.filling with records := s.filling.records ++ [{ c with number := s.nextCrossing }] }
    else s.bank m :=
  bank_setBank (fillingNumber_le s) hm _

theorem filling_appendCrossing : (s.appendCrossing c).filling =
    { s.filling with records := s.filling.records ++ [{ c with number := s.nextCrossing }] } := by
  rw [State.filling, fillingNumber_appendCrossing, bank_appendCrossing c (fillingNumber_le s), if_pos rfl]

theorem other_appendCrossing : (s.appendCrossing c).other = s.other := by
  obtain ⟨inRange, other⟩ := one_sub_fillingNumber s
  rw [State.other, fillingNumber_appendCrossing, bank_appendCrossing c inRange, if_neg other, State.other]

end Append

/-! ## The swap (R128) -/

theorem State.lane_set {t : State} {la : Lane} (lanes : t.lanes = s.lanes.set n la) (m : Nat) :
    t.lane m = if m = n then la else s.lane m :=
  (State.lane_of_lanes (s := s.setLane n la) lanes m).trans (State.lane_setLane s n m la)

theorem lane_removeBankHolds (s : State) (m : Nat) : s.removeBankHolds.lane m = (s.lane m).withoutBank := by
  simp only [State.lane, State.removeBankHolds, Table.get_map]
  cases s.lanes.get m <;> rfl

theorem swapDue_iff : s.swapDue = true ↔ s.params.bankThreshold < s.filling.records.length ∧ s.other.state = .EMPTY := by
  simp [State.swapDue]

theorem swapCheck_of_due (due : s.swapDue = true) : s.swapCheck = s.swapBanks := if_pos due

theorem swapCheck_of_notDue (notDue : ¬ s.swapDue = true) : s.swapCheck = s := if_neg notDue

/-- R128: the banks of a swap, before the lanes and the notice follow. -/
def State.banksSwapped (s : State) : State :=
  (s.setBank s.fillingNumber { s.filling with state := .READABLE }).setBank (1 - s.fillingNumber) ⟨.FILLING, []⟩

theorem banksSwapped_keeps (s : State) : Keeps [.bank0, .bank1] s s.banksSwapped := (setBank_keeps s _ _).trans (setBank_keeps _ _ _)

theorem swapBanks_eq (s : State) : s.swapBanks = s.banksSwapped.removeBankHolds.raise .BANK_READY (.bank s.fillingNumber) := rfl

theorem bank_swapBanks (s : State) : s.swapBanks.bank s.fillingNumber = { s.filling with state := .READABLE }
    ∧ s.swapBanks.bank (1 - s.fillingNumber) = ⟨.FILLING, []⟩ := by
  obtain ⟨inRange, other⟩ := one_sub_fillingNumber s
  have swapped : ∀ m, s.swapBanks.bank m = s.banksSwapped.bank m := fun _ => rfl
  constructor
  · rw [swapped, State.banksSwapped, bank_setBank inRange (fillingNumber_le s), if_neg other.symm,
      bank_setBank (fillingNumber_le s) (fillingNumber_le s), if_pos rfl]
  · rw [swapped, State.banksSwapped, bank_setBank inRange inRange, if_pos rfl]

theorem lane_swapBanks (s : State) (m : Nat) : s.swapBanks.lane m = (s.lane m).withoutBank := by
  have lanes : s.banksSwapped.lanes = s.lanes := banksSwapped_keeps s .lanes (by simp)
  exact (lane_removeBankHolds _ m).trans (congrArg Lane.withoutBank (State.lane_of_lanes lanes m))

theorem latch_swapBanks (s : State) :
    s.swapBanks.latch .BANK_READY = (s.latch .BANK_READY).raised (.bank s.fillingNumber) s.clock.time := by
  have unheld := ((banksSwapped_keeps s).weaken (m := [.bank0, .bank1, .lanes]) (by simp)).trans
    ((removeBankHolds_keeps s.banksSwapped).weaken (by simp))
  have latches : s.banksSwapped.removeBankHolds.latches = s.latches := unheld .latches (by simp)
  have clock : s.banksSwapped.removeBankHolds.clock = s.clock := unheld .clock (by simp)
  rw [swapBanks_eq, State.latch_raise, if_pos rfl, State.latch_of_latches latches, clock]

/-- The swap check leaves the records of the bank that was FILLING. -/
theorem records_swapCheck (s : State) : (s.swapCheck.bank s.fillingNumber).records = s.filling.records := by
  by_cases due : s.swapDue = true
  · rw [swapCheck_of_due due, (bank_swapBanks s).1]
  · rw [swapCheck_of_notDue due, State.filling]

/-- The swap check leaves every lane, but for its hold on the banks. -/
theorem lane_swapCheck (s : State) (m : Nat) :
    (s.swapCheck.lane m).pending = (s.lane m).pending ∧ (s.swapCheck.lane m).committed = (s.lane m).committed := by
  by_cases due : s.swapDue = true
  · rw [swapCheck_of_due due, lane_swapBanks]
    exact ⟨rfl, rfl⟩
  · rw [swapCheck_of_notDue due]
    exact ⟨rfl, rfl⟩

/-! ## The commit (R122) -/

/-- The record of a crossing that is committed on a lane. -/
def State.crossingRecord (s : State) (n : Nat) (pc : Pending) (cause : Cause) (p : Person) : Crossing where
  number := s.nextCrossing
  time := s.clock.time
  slot := pc.slot
  personId := p.ident.id
  lane := some n
  direction := (s.lane n).direction
  before := p.presence
  after := (s.lane n).direction.presence
  mismatch := pc.mismatch
  officer := pc.mismatch
  cause := cause

/-- A lane whose crossing has been committed. -/
def Lane.crossed (la : Lane) : Lane := { la with pending := none, committed := bump la.committed }

/-- The state after a commit, but for the swap check at its end. -/
def State.crossed (s : State) (n : Nat) (pc : Pending) (cause : Cause) (p : Person) : State :=
  ((s.changePresence pc.slot p (s.lane n).direction.presence).appendCrossing (s.crossingRecord n pc cause p)).setLane n
    (s.lane n).crossed

theorem commitCrossing_of_person (person : s.persons.get pc.slot = some p) :
    s.commitCrossing n pc cause = (s.crossed n pc cause p).swapCheck := by
  have lanes : ((s.changePresence pc.slot p (s.lane n).direction.presence).appendCrossing (s.crossingRecord n pc cause p)).lane n
      = s.lane n :=
    State.lane_of_lanes ((appendCrossing_keeps _ _ .lanes (by simp)).trans (changePresence_keeps s _ _ _ .lanes (by simp))) n
  rw [State.crossingRecord] at lanes
  rw [State.commitCrossing, person]
  dsimp only
  rw [lanes]
  rfl

/-- Beside the presence change, a commit touches the banks, the crossing numbers and the lanes. -/
theorem crossed_keeps : Keeps [.bank0, .bank1, .nextCrossing, .lanes]
    (s.changePresence pc.slot p (s.lane n).direction.presence) (s.crossed n pc cause p) :=
  ((appendCrossing_keeps _ _).weaken (by simp)).trans ((setLane_keeps _ _ _).weaken (by simp))

/-- Beside the swap check, a commit's hand-offs are those of the presence change. -/
theorem commitCrossing_handsOff (person : s.persons.get pc.slot = some p) : Keeps [.bank0, .bank1, .nextCrossing, .lanes, .latches]
    (s.changePresence pc.slot p (s.lane n).direction.presence) (s.commitCrossing n pc cause) := by
  rw [commitCrossing_of_person person]
  exact (crossed_keeps.weaken (by simp)).trans ((swapCheck_keeps _).weaken (by simp))

/-- Before the swap check, a commit touches no latch. -/
theorem crossed_frame : Keeps [.persons, .census, .sweeper, .cabins, .lines, .lanes, .bank0, .bank1, .nextCrossing] s
    (s.crossed n pc cause p) :=
  ((changePresence_keeps s _ _ _).weaken (by simp)).trans (crossed_keeps.weaken (by simp))

theorem lanes_crossed (s : State) (n : Nat) (pc : Pending) (cause : Cause) (p : Person) :
    (s.crossed n pc cause p).lanes = s.lanes.set n (s.lane n).crossed := by
  have lanes : ((s.changePresence pc.slot p (s.lane n).direction.presence).appendCrossing (s.crossingRecord n pc cause p)).lanes
      = s.lanes :=
    (appendCrossing_keeps _ _ .lanes (by simp)).trans (changePresence_keeps s _ _ _ .lanes (by simp))
  rw [State.crossed, State.setLane_lanes, lanes]

theorem lane_crossed (s : State) (n : Nat) (pc : Pending) (cause : Cause) (p : Person) (m : Nat) :
    (s.crossed n pc cause p).lane m = if m = n then (s.lane n).crossed else s.lane m :=
  State.lane_set (lanes_crossed s n pc cause p) m

/-- A commit appends its record to the FILLING bank, and leaves the other. -/
theorem banks_crossed : (s.crossed n pc cause p).fillingNumber = s.fillingNumber
    ∧ (s.crossed n pc cause p).filling = { s.filling with records := s.filling.records ++ [s.crossingRecord n pc cause p] }
    ∧ (s.crossed n pc cause p).other = s.other := by
  have changed := changePresence_keeps s pc.slot p (s.lane n).direction.presence
  obtain ⟨number, filling, other⟩ := filling_of_banks (changed .bank0 (by simp)) (changed .bank1 (by simp))
  have next : (s.changePresence pc.slot p (s.lane n).direction.presence).nextCrossing = s.nextCrossing :=
    changed .nextCrossing (by simp)
  refine ⟨(fillingNumber_appendCrossing _).trans number, (filling_appendCrossing _).trans ?_, (other_appendCrossing _).trans other⟩
  rw [filling, next]
  rfl

theorem nextCrossing_crossed : (s.crossed n pc cause p).nextCrossing = crossingAfter s.nextCrossing :=
  congrArg crossingAfter (changePresence_keeps s pc.slot p (s.lane n).direction.presence .nextCrossing (by simp))

/-- The swap check of a commit counts the record with those of the FILLING bank. -/
theorem swapDue_crossed : (s.crossed n pc cause p).swapDue = true ↔
    s.params.bankThreshold < s.filling.records.length + 1 ∧ s.other.state = .EMPTY := by
  obtain ⟨-, filling, other⟩ := banks_crossed (s := s) (n := n) (pc := pc) (cause := cause) (p := p)
  have params : (s.crossed n pc cause p).params = s.params := crossed_frame .params (by simp)
  rw [swapDue_iff, params, filling, other, List.length_append]
  exact Iff.rfl

/-- Settles O36: the presence change with its hand-offs, the record and the ended crossing, and then the swap check, which finds the record
in its bank. -/
theorem commitRecordsCrossing : Obligations.CommitRecordsCrossing := by
  intro s n pc cause p person t la after b ended bankless
  have presence : la.direction.presence = after := Direction.presence_eq _
  have commit : t = (s.crossed n pc cause p).swapCheck := commitCrossing_of_person person
  have handed : Keeps [.bank0, .bank1, .nextCrossing, .lanes, .latches] (s.changePresence pc.slot p after) t :=
    presence ▸ commitCrossing_handsOff person
  rw [changePresence_eq] at handed
  obtain ⟨number, filling, other⟩ := banks_crossed (s := s) (n := n) (pc := pc) (cause := cause) (p := p)
  have lanes := lane_crossed s n pc cause p
  have ends := lane_swapCheck (s.crossed n pc cause p)
  rw [← commit] at ends
  have kept := swapCheck_keeps (s.crossed n pc cause p)
  rw [← commit] at kept
  refine ⟨commitCrossing_keeps s n pc cause, handed .persons (by simp), handed .census (by simp),
    (handed .sweeper (by simp)).trans sweeper_presenceWritten, fun wf => ?cabins, ?records,
    (kept .nextCrossing (by simp)).trans nextCrossing_crossed, ?pending, ?committed, fun m elsewhere => ?others, fun due => ?due,
    fun notDue => ?notDue⟩
  case cabins =>
    have moved := presenceAtCabins_eq s wf p.presence after p.ident.cabins
    exact ⟨moved ▸ handed .cabins (by simp), moved ▸ handed .lines (by simp)⟩
  case records =>
    have records := records_swapCheck (s.crossed n pc cause p)
    rw [← commit, number, filling, State.crossingRecord, presence] at records
    exact records
  case pending => rw [(ends n).1, lanes, if_pos rfl]; rfl
  case committed => rw [(ends n).2, lanes, if_pos rfl]; rfl
  case others => rw [(ends m).1, (ends m).2, lanes, if_neg elsewhere]; exact ⟨rfl, rfl⟩
  case due =>
    have swapped : t = (s.crossed n pc cause p).swapBanks := commit.trans (swapCheck_of_due (swapDue_crossed.2 due))
    have clock : (s.crossed n pc cause p).clock = s.clock := crossed_frame .clock (by simp)
    have latches : (s.crossed n pc cause p).latches = s.latches := crossed_frame .latches (by simp)
    have bankless (m : Nat) : t.lane m = (if m = n then ended else s.lane m).withoutBank := by
      rw [swapped, lane_swapBanks, lanes]
      rfl
    obtain ⟨full, fresh⟩ := bank_swapBanks (s.crossed n pc cause p)
    rw [number, ← swapped] at full fresh
    refine ⟨congrArg Bank.state full, fresh, fun m => congrArg Lane.holdBank (bankless m), bankless, ?_⟩
    rw [swapped, latch_swapBanks, State.latch_of_latches latches, clock, number]
  case notDue =>
    have stays : t = s.crossed n pc cause p := commit.trans (swapCheck_of_notDue (mt swapDue_crossed.1 notDue))
    rw [← stays] at number filling other lanes
    rw [State.filling, number] at filling
    rw [State.other, number] at other
    have state := congrArg Bank.state filling
    exact ⟨state, other, stays ▸ crossed_frame .latches (by simp), lanes⟩

end Sys2Proof.Machine
end

section
/-! PROOFS. What a lane TAP that is taken does: its refusals by the steps of its order, and the crossing that it repeats, ends or creates
(R113 to R115). -/

namespace Sys2Proof.Machine

open Sys2Proof

variable {s : State} {e : Entry} {rest : List Entry} {u : RawUid} {tag n slot : Nat} {hd : Head} {card : CardEntry} {p : Person}
  {pc : Pending} {cause : Cause}

theorem gives_of_laneTap (event : e.event = .laneTap u tag) (taken : s.takeable .GANGWAY_LANE e rest) :
    Gives .laneTap s ((s.laneTaken rest).decideLane e u tag) :=
  gives_of_laneTakeable (apply := fun s => s.decideLane e u tag) taken rfl (by simp only [event])

/-! ## The decision frame (R110) -/

/-- The lines with the decision frame of a lane TAP on the slot that its entry has reserved. -/
def State.laneFramed (s : State) (e : Entry) (tag : Nat) (d : LaneDecision) : Table Line :=
  s.lines.set e.head.line
    { s.line e.head.line with
      queue := (s.line e.head.line).queue ++ [⟨e.head.address, .lane tag d⟩], reserved := (s.line e.head.line).reserved - 1 }

theorem sendLane_of_reserved (reserved : 0 < (s.line e.head.line).reserved) (d : LaneDecision) :
    s.sendLane e tag d = { s with lines := s.laneFramed e tag d } :=
  sendDecision_of_reserved reserved (.lane tag d)

theorem refuseTap_of_reserved (reserved : 0 < (s.line e.head.line).reserved) (code : LaneRefusal) : s.refuseTap n e tag code =
    { s with
      lanes := s.lanes.set n { s.lane n with refused := bump (s.lane n).refused }
      lines := s.laneFramed e tag (.REFUSE code) } :=
  sendLane_of_reserved (s := s.setLane n { s.lane n with refused := bump (s.lane n).refused }) reserved (.REFUSE code)

theorem refuseTap_keeps (s : State) (n : Nat) (e : Entry) (tag : Nat) (code : LaneRefusal) :
    Keeps [.lanes, .lines] s (s.refuseTap n e tag code) :=
  ((setLane_keeps s n _).weaken (by simp)).trans ((sendDecision_keeps _ e _).weaken (by simp))

/-! ## Steps 1 to 5 of R113 -/

theorem decideLane_of_unset (held : s.head? e.head = some hd) (unset : s.clock.state = .UNSET) :
    s.decideLane e u tag = s.refuseTap hd.bound e tag .CLOCK_UNSET := by
  simp [State.decideLane, laneOfHead_of_head held, unset]

theorem decideLane_of_closed (held : s.head? e.head = some hd) (set : s.clock.state = .SET)
    (closed : (s.lane hd.bound).state = .CLOSED) : s.decideLane e u tag = s.refuseTap hd.bound e tag .LANE_CLOSED := by
  simp [State.decideLane, laneOfHead_of_head held, set, closed]

theorem decideLane_of_held (held : s.head? e.head = some hd) (set : s.clock.state = .SET)
    (stopped : (s.lane hd.bound).state = .HELD) : s.decideLane e u tag = s.refuseTap hd.bound e tag .LANE_HELD := by
  simp [State.decideLane, laneOfHead_of_head held, set, stopped]

theorem decideLane_of_open (held : s.head? e.head = some hd) (set : s.clock.state = .SET)
    (opened : (s.lane hd.bound).state = .OPEN) : s.decideLane e u tag = s.cardTap hd.bound e u tag := by
  simp [State.decideLane, laneOfHead_of_head held, set, opened]

theorem cardTap_of_unknown (unknown : s.lookupRaw u = none) : s.cardTap n e u tag = s.refuseTap n e tag .UNKNOWN_CARD := by
  simp [State.cardTap, unknown]

theorem cardTap_of_suspended (found : s.lookupRaw u = some card) (suspended : card.state = .SUSPENDED) :
    s.cardTap n e u tag = s.refuseTap n e tag .SUSPENDED := by
  simp [State.cardTap, found, suspended]

theorem cardTap_of_revoked (found : s.lookupRaw u = some card) (revoked : card.state = .REVOKED) :
    s.cardTap n e u tag = s.refuseTap n e tag .REVOKED := by
  simp [State.cardTap, found, revoked]

theorem cardTap_of_active (found : s.lookupRaw u = some card) (active : card.state = .ACTIVE)
    (person : s.persons.get card.slot = some p) : s.cardTap n e u tag =
      if p.ident.gangwayHold then (s.raise .PRESENCE_CONFLICT (.person card.slot)).refuseTap n e tag .HOLD
      else s.crossTap n e tag card.slot p := by
  simp [State.cardTap, found, active, person]

/-- What lets a TAP pass steps 1 to 5 of R113: the clock is SET, the lane OPEN, the card ACTIVE and its person under no gangway hold. -/
structure LaneTapCleared (s : State) (n : Nat) (u : RawUid) (card : CardEntry) (p : Person) : Prop where
  set : s.clock.state = .SET
  opened : (s.lane n).state = .OPEN
  found : s.lookupRaw u = some card
  active : card.state = .ACTIVE
  person : s.persons.get card.slot = some p
  noHold : p.ident.gangwayHold = false

theorem LaneTapCleared.laneTaken (cleared : LaneTapCleared s n u card p) (rest : List Entry) :
    LaneTapCleared (s.laneTaken rest) n u card p := by
  obtain ⟨set, opened, found, active, person, noHold⟩ := cleared
  exact ⟨set, opened, found, active, person, noHold⟩

theorem LaneTapCleared.decideLane_eq (cleared : LaneTapCleared s hd.bound u card p) (held : s.head? e.head = some hd) :
    s.decideLane e u tag = s.crossTap hd.bound e tag card.slot p := by
  rw [decideLane_of_open held cleared.set cleared.opened, cardTap_of_active cleared.found cleared.active cleared.person]
  exact if_neg (by simp [cleared.noHold])

/-! ## Steps 6 to 9 of R113 -/

theorem crossTap_of_named (notOwn : ∀ pc, (s.lane n).pending = some pc → pc.slot ≠ slot) (named : s.crossingNames slot = true) :
    s.crossTap n e tag slot p = s.refuseTap n e tag .IN_PROGRESS := by
  cases crossing : (s.lane n).pending with
  | none => simp [State.crossTap, crossing, named]
  | some pc => simp [State.crossTap, crossing, named, notOwn pc crossing]

theorem crossTap_of_own (crossing : (s.lane n).pending = some pc) (own : pc.slot = slot) :
    s.crossTap n e tag slot p = s.sendLane e tag ((s.lane n).decisionFor pc) := by
  simp [State.crossTap, crossing, own]

theorem crossTap_of_busy (crossing : (s.lane n).pending = some pc) (other : pc.slot ≠ slot) (unnamed : s.crossingNames slot = false)
    (stage : pc.stage ≠ .AWAIT_NEXT) : s.crossTap n e tag slot p = s.refuseTap n e tag .LANE_BUSY := by
  cases waits : pc.stage with
  | AWAIT_NEXT => exact absurd waits stage
  | AWAIT_PASS => simp [State.crossTap, crossing, other, unnamed, waits]
  | AWAIT_OFFICER => simp [State.crossTap, crossing, other, unnamed, waits]

theorem crossTap_of_next (crossing : (s.lane n).pending = some pc) (other : pc.slot ≠ slot) (unnamed : s.crossingNames slot = false)
    (stage : pc.stage = .AWAIT_NEXT) : s.crossTap n e tag slot p = (s.commitCrossing n pc .BY_NEXT).admitTap n e tag slot p := by
  simp [State.crossTap, crossing, other, unnamed, stage]

theorem crossTap_of_free (free : (s.lane n).pending = none) (unnamed : s.crossingNames slot = false) :
    s.crossTap n e tag slot p = s.admitTap n e tag slot p := by
  simp [State.crossTap, free, unnamed]

theorem decisionFor_of_officer (la : Lane) (stage : pc.stage = .AWAIT_OFFICER) : la.decisionFor pc = .AWAIT_OFFICER := by
  simp [Lane.decisionFor, stage]

theorem decisionFor_of_otherStage (la : Lane) (stage : pc.stage ≠ .AWAIT_OFFICER) : la.decisionFor pc = .PASS la.direction := by
  cases waits : pc.stage with
  | AWAIT_OFFICER => exact absurd waits stage
  | AWAIT_PASS => simp [Lane.decisionFor, waits]
  | AWAIT_NEXT => simp [Lane.decisionFor, waits]

/-! ## The room check (R114) -/

theorem admitTap_of_room (room : s.filling.records.length + s.pendings.length < s.roomLimit) : s.admitTap n e tag slot p =
    (s.setLane n { s.lane n with pending := some (s.newCrossing (s.lane n) slot tag p) }).sendLane e tag
      ((s.lane n).decisionFor (s.newCrossing (s.lane n) slot tag p)) := by
  simp [State.admitTap, State.hasRoom, room]

theorem admitTap_of_noRoom (full : ¬ s.filling.records.length + s.pendings.length < s.roomLimit) :
    s.admitTap n e tag slot p = (s.addBankHolds.raise .BANK_HOLD (.lane n)).refuseTap n e tag .LANE_HELD := by
  simp [State.admitTap, State.hasRoom, full]

theorem withBank_of_closed {la : Lane} (closed : la.state = .CLOSED) : la.withBank = la := by
  simp [Lane.withBank, closed]

theorem withBank_of_notClosed {la : Lane} (other : la.state ≠ .CLOSED) : la.withBank = { la with state := .HELD, holdBank := true } := by
  cases state : la.state with
  | CLOSED => exact absurd state other
  | OPEN => simp [Lane.withBank, state]
  | HELD => simp [Lane.withBank, state]

/-- A lane beyond the table reads as at power-on, CLOSED, and so takes no hold either. -/
theorem lane_addBankHolds (s : State) (m : Nat) : s.addBankHolds.lane m = (s.lane m).withBank := by
  simp only [State.lane, State.addBankHolds, Table.get_map]
  cases s.lanes.get m <;> rfl

/-! ## The crossing that a TAP creates (R115) -/

theorem matchesPresence_iff (d : Direction) (presence : Presence) : d.matchesPresence presence = true ↔
    match d with
    | .INBOUND => presence ≠ .ABOARD
    | .OUTBOUND => presence = .ABOARD := by
  cases d <;> cases presence <;> simp [Direction.matchesPresence]

/-- R115: the crossing joins the lane, and the frame tells its person what it waits for. -/
theorem admitTap_of_crossing (room : s.filling.records.length + s.pendings.length < s.roomLimit)
    (reserved : 0 < (s.line e.head.line).reserved) (created : s.newCrossing (s.lane n) slot tag p = pc) :
    s.admitTap n e tag slot p =
      { s with
        lanes := s.lanes.set n { s.lane n with pending := some pc }
        lines := s.laneFramed e tag ((s.lane n).decisionFor pc) } := by
  rw [admitTap_of_room room, created]
  exact sendLane_of_reserved (s := s.setLane n { s.lane n with pending := some pc }) reserved _

theorem newCrossing_of_match {la : Lane} (matched : la.direction.matchesPresence p.presence = true) : s.newCrossing la slot tag p =
    ⟨slot, tag, s.clock.time, if la.mode = .ON_PASS then .AWAIT_PASS else .AWAIT_NEXT, false,
      ⟨s.elapsed, 1000 * s.params.pendingTimeout⟩⟩ := by
  rw [← CommitMode.stage_eq]
  exact if_pos matched

theorem newCrossing_of_mismatch {la : Lane} (mismatched : ¬ la.direction.matchesPresence p.presence = true) :
    s.newCrossing la slot tag p = ⟨slot, tag, s.clock.time, .AWAIT_OFFICER, true, ⟨s.elapsed, 1000 * s.params.officerWait⟩⟩ :=
  if_neg mismatched

theorem CommitMode.stage_ne_officer (m : CommitMode) : m.stage ≠ .AWAIT_OFFICER := by cases m <;> decide

/-! ## A commit before the TAP's own crossing (R113 step 9) -/

theorem setBank_laneTaken (k : Nat) (b : Bank) : (s.laneTaken rest).setBank k b = (s.setBank k b).laneTaken rest := by
  unfold State.setBank
  split <;> rfl

theorem changePresence_laneTaken (after : Presence) :
    (s.laneTaken rest).changePresence slot p after = (s.changePresence slot p after).laneTaken rest := by
  have moved : (s.laneTaken rest).presenceAtCabins p.ident.cabins p.presence after =
      (s.presenceAtCabins p.ident.cabins p.presence after).cabinPartsInto (s.laneTaken rest) :=
    presenceAtCabins_into (u := s.laneTaken rest) _ _ _
  rw [changePresence_eq, changePresence_eq, moved]
  rfl

theorem appendCrossing_laneTaken (c : Crossing) : (s.laneTaken rest).appendCrossing c = (s.appendCrossing c).laneTaken rest := by
  have appended := setBank_laneTaken (s := s) (rest := rest) s.fillingNumber
    { s.filling with records := s.filling.records ++ [{ c with number := s.nextCrossing }] }
  exact congrArg (fun t : State => { t with nextCrossing := crossingAfter s.nextCrossing }) appended

theorem swapCheck_laneTaken : (s.laneTaken rest).swapCheck = s.swapCheck.laneTaken rest := by
  have swapped : (s.laneTaken rest).banksSwapped = s.banksSwapped.laneTaken rest := by
    rw [State.banksSwapped, State.banksSwapped, ← setBank_laneTaken, ← setBank_laneTaken]
    rfl
  have due : (s.laneTaken rest).swapDue = s.swapDue := rfl
  rw [State.swapCheck, State.swapCheck, due]
  split
  · rw [swapBanks_eq, swapBanks_eq, swapped]
    rfl
  · rfl

/-- A commit reads and writes no intake. -/
theorem commitCrossing_laneTaken (person : s.persons.get pc.slot = some p) :
    (s.laneTaken rest).commitCrossing n pc cause = (s.commitCrossing n pc cause).laneTaken rest := by
  have crossed : (s.laneTaken rest).crossed n pc cause p = (s.crossed n pc cause p).laneTaken rest := by
    have same : (s.laneTaken rest).lane n = s.lane n := rfl
    rw [State.crossed, same, changePresence_laneTaken, appendCrossing_laneTaken]
    rfl
  rw [commitCrossing_of_person (s := s.laneTaken rest) person, commitCrossing_of_person person, crossed, swapCheck_laneTaken]

/-! ## The persons that crossings name -/

theorem Table.mem_insertCells {α : Type} {l : List (Nat × α)} {k : Nat} {v : α} {c : Nat × α} (mem : c ∈ Table.insertCells l k v) :
    c = (k, v) ∨ c ∈ l := by
  induction l with
  | nil => simpa [Table.insertCells] using mem
  | cons x rest ih =>
    obtain ⟨j, w⟩ := x
    simp only [Table.insertCells] at mem
    split at mem
    · simpa using mem
    · split at mem
      · rcases List.mem_cons.1 mem with here | later
        · exact .inl here
        · exact .inr (List.mem_cons_of_mem _ later)
      · rcases List.mem_cons.1 mem with here | later
        · exact .inr (here ▸ List.mem_cons_self)
        · exact (ih later).imp_right (List.mem_cons_of_mem _)

theorem crossingNames_eq_false : s.crossingNames slot = false ↔
    ∀ c ∈ s.lanes.cells, ∀ pc, c.2.pending = some pc → pc.slot ≠ slot := by
  simp only [State.crossingNames, State.pendings, List.any_eq_false, List.mem_filterMap, decide_eq_true_eq, forall_exists_index, and_imp]
  exact ⟨fun h c mem pc crossing => h pc c mem crossing, fun h pc c mem crossing => h c mem pc crossing⟩

/-- A lane that is written without a crossing names nobody. -/
theorem crossingNames_of_set {t : State} {la : Lane} (lanes : t.lanes = s.lanes.set n la) (free : la.pending = none)
    (unnamed : s.crossingNames slot = false) : t.crossingNames slot = false := by
  rw [crossingNames_eq_false] at unnamed ⊢
  intro c mem pc crossing
  rw [lanes] at mem
  rcases Table.mem_insertCells mem with rfl | mem
  · simp [free] at crossing
  · exact unnamed c mem pc crossing

theorem pendings_removeBankHolds (s : State) : s.removeBankHolds.pendings = s.pendings := by
  simp only [State.pendings, State.removeBankHolds, Table.map, List.filterMap_map]
  rfl

theorem pendings_swapCheck (s : State) : s.swapCheck.pendings = s.pendings := by
  have lanes : s.banksSwapped.lanes = s.lanes := banksSwapped_keeps s .lanes (by simp)
  have swapped : s.swapBanks.pendings = s.banksSwapped.pendings := pendings_removeBankHolds s.banksSwapped
  rw [State.swapCheck]
  split
  · rw [swapped, State.pendings, lanes, State.pendings]
  · rfl

/-! ## What a commit leaves to the TAP -/

theorem crossingNames_commitCrossing (person : s.persons.get pc.slot = some p) (unnamed : s.crossingNames slot = false) :
    (s.commitCrossing n pc cause).crossingNames slot = false := by
  rw [commitCrossing_of_person person, State.crossingNames, pendings_swapCheck]
  exact crossingNames_of_set (lanes_crossed s n pc cause p) rfl unnamed

theorem pending_commitCrossing (person : s.persons.get pc.slot = some p) : ((s.commitCrossing n pc cause).lane n).pending = none := by
  rw [commitCrossing_of_person person, (lane_swapCheck _ n).1, lane_crossed, if_pos rfl]
  rfl

/-- A swap takes BANK off the lanes, and an OPEN lane stays OPEN. -/
theorem open_swapCheck (opened : (s.lane n).state = .OPEN) : (s.swapCheck.lane n).state = .OPEN := by
  rw [State.swapCheck]
  split
  · simp [lane_swapBanks, Lane.withoutBank, opened]
  · exact opened

theorem open_commitCrossing (person : s.persons.get pc.slot = some p) (opened : (s.lane n).state = .OPEN) :
    ((s.commitCrossing n pc cause).lane n).state = .OPEN := by
  rw [commitCrossing_of_person person]
  refine open_swapCheck ?_
  rw [lane_crossed, if_pos rfl]
  exact opened

theorem lookupRaw_of_cards {t : State} (cards : t.cards = s.cards) (params : t.params = s.params) : t.lookupRaw u = s.lookupRaw u := by
  have lookup : t.lookup = s.lookup := funext fun uid => by
    rw [State.lookup, State.lookup, State.cardKeyOf, State.cardKeyOf, State.bucketOf, State.bucketOf, cards, params]
  rw [State.lookupRaw, State.lookupRaw, lookup]

/-- A commit writes the person of its crossing alone. -/
theorem person_commitCrossing {k : Nat} (person : s.persons.get pc.slot = some p) (other : k ≠ pc.slot) :
    (s.commitCrossing n pc cause).persons.get k = s.persons.get k := by
  have persons : (s.commitCrossing n pc cause).persons = (s.changePresence pc.slot p (s.lane n).direction.presence).persons :=
    commitCrossing_handsOff person .persons (by simp)
  have written : (s.changePresence pc.slot p (s.lane n).direction.presence).persons = s.persons.set pc.slot
      { p with presence := (s.lane n).direction.presence, lastCrossing := some s.clock.time } := by
    rw [changePresence_eq]
    rfl
  rw [persons, written, Table.get_set, if_neg other]

/-- A commit of another person's crossing leaves the TAP cleared. -/
theorem LaneTapCleared.commitCrossing {q : Person} (cleared : LaneTapCleared s n u card p) (person : s.persons.get pc.slot = some q)
    (other : pc.slot ≠ card.slot) : LaneTapCleared (s.commitCrossing n pc cause) n u card p := by
  have kept := commitCrossing_keeps s n pc cause
  have clock : (s.commitCrossing n pc cause).clock = s.clock := kept .clock (by simp)
  obtain ⟨set, opened, found, active, present, noHold⟩ := cleared
  exact ⟨(congrArg Clock.state clock).trans set, open_commitCrossing person opened,
    (lookupRaw_of_cards (kept .cards (by simp)) (kept .params (by simp))).trans found, active,
    (person_commitCrossing person other.symm).trans present, noHold⟩

/-- A commit leaves the entries of the lane intake to be taken. -/
theorem takeable_commitCrossing (taken : s.takeable .GANGWAY_LANE e rest) :
    (s.commitCrossing n pc cause).takeable .GANGWAY_LANE e rest := by
  have kept := commitCrossing_keeps s n pc cause
  have laneIn : (s.commitCrossing n pc cause).laneIn = s.laneIn := kept .laneIn (by simp)
  have heads : (s.commitCrossing n pc cause).heads = s.heads := kept .heads (by simp)
  have elapsed : (s.commitCrossing n pc cause).elapsed = s.elapsed := kept .elapsed (by simp)
  have params : (s.commitCrossing n pc cause).params = s.params := kept .params (by simp)
  obtain ⟨entries, stays, online, inTime⟩ := taken
  refine ⟨(congrArg Intake.entries laneIn).trans entries, stays, ?_, fun tap => ?_⟩
  · rwa [State.online, State.head_of_heads heads]
  · rw [State.since, elapsed, State.window, params]
    exact inTime tap

/-! ## The TAP decided -/

/-- R113 step 9: a waiting AWAIT_NEXT crossing of another is committed, and the TAP is decided as if it came after. -/
theorem laneTap_of_next {q : Person} (event : e.event = .laneTap u tag) (taken : s.takeable .GANGWAY_LANE e rest)
    (held : s.head? e.head = some hd) (cleared : LaneTapCleared s hd.bound u card p)
    (crossing : (s.lane hd.bound).pending = some pc) (other : pc.slot ≠ card.slot) (unnamed : s.crossingNames card.slot = false)
    (stage : pc.stage = .AWAIT_NEXT) (person : s.persons.get pc.slot = some q) :
    exec .laneTap s = exec .laneTap (s.commitCrossing hd.bound pc .BY_NEXT) := by
  have atHead : (s.laneTaken rest).head? e.head = some hd := held
  have heads : (s.commitCrossing hd.bound pc .BY_NEXT).heads = s.heads := commitCrossing_keeps s _ _ _ .heads (by simp)
  have headAfter : ((s.commitCrossing hd.bound pc .BY_NEXT).laneTaken rest).head? e.head = some hd :=
    (State.head_of_heads heads _).trans held
  have before := gives_of_laneTap event taken
  rw [(cleared.laneTaken rest).decideLane_eq atHead, crossTap_of_next (s := s.laneTaken rest) crossing other unnamed stage,
    commitCrossing_laneTaken person] at before
  have again := gives_of_laneTap event (takeable_commitCrossing (n := hd.bound) (pc := pc) (cause := .BY_NEXT) taken)
  rw [((cleared.commitCrossing person other).laneTaken rest).decideLane_eq headAfter,
    crossTap_of_free (s := (s.commitCrossing hd.bound pc .BY_NEXT).laneTaken rest) (pending_commitCrossing person)
      (crossingNames_commitCrossing person unnamed)] at again
  exact before.trans again.symm

/-- R114: a TAP that finds no room holds every open lane for the banks and is refused. -/
theorem admitTap_full (full : ¬ s.filling.records.length + s.pendings.length < s.roomLimit)
    (reserved : 0 < (s.line e.head.line).reserved) (opened : (s.lane n).state = .OPEN) :
    Keeps [.lanes, .lines, .latches] s (s.admitTap n e tag slot p)
      ∧ (s.admitTap n e tag slot p).lines = s.laneFramed e tag (.REFUSE .LANE_HELD)
      ∧ (s.admitTap n e tag slot p).latch .BANK_HOLD = (s.latch .BANK_HOLD).raised (.lane n) s.clock.time
      ∧ ∀ m, (s.admitTap n e tag slot p).lane m =
          if m = n then { s.lane n with state := .HELD, holdBank := true, refused := bump (s.lane n).refused }
          else (s.lane m).withBank := by
  have holds : (s.addBankHolds.raise .BANK_HOLD (.lane n)).lane n = { s.lane n with state := .HELD, holdBank := true } :=
    (lane_addBankHolds s n).trans (withBank_of_notClosed (by simp [opened]))
  rw [admitTap_of_noRoom full]
  refine ⟨(((addBankHolds_keeps s).weaken (by simp)).trans ((raise_keeps _ _ _).weaken (by simp))).trans
    ((refuseTap_keeps _ _ _ _ _).weaken (by simp)), ?_, ?_, fun m => ?_⟩
  all_goals rw [refuseTap_of_reserved (s := s.addBankHolds.raise .BANK_HOLD (.lane n)) reserved]
  · rfl
  · exact (State.latch_raise _ _ _ _).trans (if_pos rfl)
  · rw [State.lane_set (s := s.addBankHolds.raise .BANK_HOLD (.lane n)) rfl m, holds]
    exact congrArg _ (lane_addBankHolds s m)

/-- Settles O37: each refusal at its step of R113, and the crossing that a cleared TAP meets or creates. -/
theorem laneTapDecided : Obligations.LaneTapDecided := by
  refine ⟨fun s e rest u tag hd event taken held reserved => ?refusals,
    fun s e rest u tag hd card p event taken held reserved set opened found active person noHold => ?cleared⟩
  case refusals =>
    intro n la ln refused
    have gives := gives_of_laneTap event taken
    have atHead : (s.laneTaken rest).head? e.head = some hd := held
    have refusal (code : LaneRefusal) : (s.laneTaken rest).refuseTap n e tag code = refused code :=
      refuseTap_of_reserved (s := s.laneTaken rest) reserved code
    refine ⟨fun unset => ?_, fun set closed => ?_, fun set stopped => ?_, fun set opened => ?_⟩
    · rwa [decideLane_of_unset atHead unset, refusal] at gives
    · rwa [decideLane_of_closed atHead set closed, refusal] at gives
    · rwa [decideLane_of_held atHead set stopped, refusal] at gives
    rw [decideLane_of_open atHead set opened] at gives
    refine ⟨fun unknown => ?_, fun card found => ⟨fun suspended => ?_, fun revoked => ?_, fun p active person => ?_⟩⟩
    · rwa [cardTap_of_unknown (s := s.laneTaken rest) unknown, refusal] at gives
    · rwa [cardTap_of_suspended (s := s.laneTaken rest) found suspended, refusal] at gives
    · rwa [cardTap_of_revoked (s := s.laneTaken rest) found revoked, refusal] at gives
    rw [cardTap_of_active (s := s.laneTaken rest) found active person] at gives
    refine ⟨fun hold => ?_, fun noHold notOwn => ?_⟩
    · rw [if_pos hold, refuseTap_of_reserved (s := (s.laneTaken rest).raise _ _) reserved] at gives
      exact gives
    rw [if_neg (by simp [noHold])] at gives
    refine ⟨fun named => ?_, fun pc unnamed crossing stage => ?_⟩
    · rwa [crossTap_of_named (s := s.laneTaken rest) notOwn named, refusal] at gives
    · rwa [crossTap_of_busy (s := s.laneTaken rest) crossing (notOwn pc crossing) unnamed stage, refusal] at gives
  case cleared =>
    intro n la ln framed emptied room isMatch
    have cleared : LaneTapCleared s n u card p := ⟨set, opened, found, active, person, noHold⟩
    have gives := gives_of_laneTap event taken
    have atHead : (s.laneTaken rest).head? e.head = some hd := held
    rw [(cleared.laneTaken rest).decideLane_eq atHead] at gives
    refine ⟨fun pc crossing own => ?repeated, fun pc crossing other unnamed stage stands => ?next, fun free unnamed hasRoom => ?room,
      fun free unnamed full => ?full⟩
    case repeated =>
      rw [crossTap_of_own (s := s.laneTaken rest) crossing own, sendLane_of_reserved (s := s.laneTaken rest) reserved] at gives
      refine ⟨fun stage => ?_, fun stage => ?_⟩
      · rwa [decisionFor_of_officer _ stage] at gives
      · rwa [decisionFor_of_otherStage _ stage] at gives
    case next =>
      obtain ⟨q, holder⟩ := Option.ne_none_iff_exists'.1 stands
      exact laneTap_of_next event taken held cleared crossing other unnamed stage holder
    case room =>
      rw [crossTap_of_free (s := s.laneTaken rest) free unnamed] at gives
      refine ⟨fun matched => ?_, fun mismatched => ?_⟩
      · have created := newCrossing_of_match (s := s.laneTaken rest) (slot := card.slot) (tag := tag)
          ((matchesPresence_iff la.direction p.presence).2 matched)
        rwa [admitTap_of_crossing (s := s.laneTaken rest) hasRoom reserved created,
          decisionFor_of_otherStage _ (CommitMode.stage_eq la.mode ▸ CommitMode.stage_ne_officer la.mode)] at gives
      · have created := newCrossing_of_mismatch (s := s.laneTaken rest) (slot := card.slot) (tag := tag)
          (mt (matchesPresence_iff la.direction p.presence).1 mismatched)
        rwa [admitTap_of_crossing (s := s.laneTaken rest) hasRoom reserved created, decisionFor_of_officer _ rfl] at gives
    case full =>
      rw [crossTap_of_free (s := s.laneTaken rest) free unnamed] at gives
      obtain ⟨kept, lines, latch, lanes⟩ := admitTap_full (s := s.laneTaken rest) (e := e) (tag := tag) (slot := card.slot) (p := p)
        (n := n) full reserved opened
      refine ⟨_, gives, ((laneTaken_keeps s rest).weaken (by simp)).trans (kept.weaken (by simp)), kept .laneIn (by simp), lines, latch,
        (lanes n).trans (if_pos rfl), fun m other closed => ?_, fun m other notClosed => ?_⟩
      · exact ((lanes m).trans (if_neg other)).trans (withBank_of_closed closed)
      · exact ((lanes m).trans (if_neg other)).trans (withBank_of_notClosed notClosed)

end Sys2Proof.Machine
end

section
/-! PROOFS. A table in its canonical form split at one of its places: what a write and an erasure of the place make of what the cells add up
to. -/

namespace Sys2Proof.Machine

section Split

variable {α : Type} {t : Table α}

/-- The cells of a place: its record when it is occupied. -/
def Table.cellAt (k : Nat) (v : Option α) : List (Nat × α) := v.toList.map (fun x => (k, x))

/-- A place filled with a record, or emptied. -/
def Table.put (t : Table α) (k : Nat) : Option α → Table α
  | some v => t.set k v
  | none => t.erase k

theorem Table.wf_put (k : Nat) (v : Option α) (wf : t.wf = true) : (t.put k v).wf = true := by
  cases v with
  | none => exact Table.wf_erase k wf
  | some v => exact Table.wf_set k v wf

theorem Table.erase_below {low k : Nat} {l : List (Nat × α)} (rising : Table.risingFrom low l = true) (below : k < low) :
    l.filter (fun c => c.1 ≠ k) = l := by
  refine List.filter_eq_self.2 fun ⟨j, v⟩ mem => decide_eq_true fun same => ?_
  have held := (Table.lookupCells_iff_mem rising).2 mem
  rw [show j = k from same, Table.lookupCells_below rising below] at held
  cases held

theorem Table.risingCells_split {low : Nat} {l : List (Nat × α)} (rising : Table.risingFrom low l = true) (k : Nat) :
    ∃ before after, l = before ++ Table.cellAt k (Table.lookupCells l k) ++ after
      ∧ (∀ v, Table.insertCells l k v = before ++ [(k, v)] ++ after) ∧ l.filter (fun c => c.1 ≠ k) = before ++ after := by
  induction l generalizing low with
  | nil => exact ⟨[], [], rfl, fun _ => rfl, rfl⟩
  | cons c rest ih =>
    obtain ⟨j, x⟩ := c
    have above : Table.risingFrom (j + 1) rest = true := by
      simp only [Table.risingFrom, Bool.and_eq_true] at rising
      exact rising.2
    rcases Nat.lt_trichotomy k j with before | same | later
    · have kept := Table.erase_below above (Nat.lt_succ_of_lt before)
      refine ⟨[], (j, x) :: rest, ?_, fun v => ?_, ?_⟩
      · simp [Table.lookupCells, Nat.ne_of_gt before, Table.lookupCells_below above (Nat.lt_succ_of_lt before), Table.cellAt]
      · simp [Table.insertCells, before]
      · simp only [List.filter_cons, ne_eq, Nat.ne_of_gt before, not_false_eq_true, decide_true, if_true, List.nil_append]
        exact congrArg _ kept
    · subst same
      have kept := Table.erase_below above (Nat.lt_succ_self k)
      refine ⟨[], rest, ?_, fun v => ?_, ?_⟩
      · simp [Table.lookupCells, Table.cellAt]
      · simp [Table.insertCells]
      · simpa [List.filter_cons] using kept
    · obtain ⟨before, after, cells, written, erased⟩ := ih above
      have other : j ≠ k := Nat.ne_of_lt later
      refine ⟨(j, x) :: before, after, ?_, fun v => ?_, ?_⟩
      · simpa [Table.lookupCells, other] using cells
      · simpa [Table.insertCells, other, Nat.lt_asymm later] using written v
      · simpa [List.filter_cons, other] using erased

/-- In the canonical form a table is what stands before a place, the place itself and what stands after it. -/
theorem Table.cells_split (wf : t.wf = true) (k : Nat) :
    ∃ before after, t.cells = before ++ Table.cellAt k (t.get k) ++ after
      ∧ ∀ v, (t.put k v).cells = before ++ Table.cellAt k v ++ after := by
  obtain ⟨before, after, cells, written, erased⟩ := Table.risingCells_split wf k
  refine ⟨before, after, cells, fun v => ?_⟩
  cases v with
  | none => exact erased.trans (by rw [Table.cellAt, Option.toList_none, List.map_nil, List.append_nil])
  | some v => exact written v

/-- The records that pass are those elsewhere and the one of the place. -/
theorem Table.count_split (wf : t.wf = true) (k : Nat) (p : α → Bool) :
    ∃ m, t.count p = m + ((t.get k).any p).toNat ∧ ∀ v, (t.put k v).count p = m + (v.any p).toNat := by
  obtain ⟨before, after, cells, put⟩ := Table.cells_split wf k
  have atPlace : ∀ v : Option α, ((Table.cellAt k v).filter (fun c => p c.2)).length = (v.any p).toNat := by
    intro v
    cases v with
    | none => rfl
    | some v => cases passes : p v <;> simp [Table.cellAt, passes]
  have total : ∀ v : Option α, ((before ++ Table.cellAt k v ++ after).filter (fun c => p c.2)).length =
      (before.filter (fun c => p c.2)).length + (after.filter (fun c => p c.2)).length + (v.any p).toNat := by
    intro v
    rw [List.filter_append, List.filter_append, List.length_append, List.length_append, atPlace]
    omega
  exact ⟨_, by rw [Table.count, cells, total], fun v => by rw [Table.count, put, total]⟩

end Split

end Sys2Proof.Machine
end

section
/-! PROOFS. What a step may do to the parameters, the lanes, the banks, the Roster and the census, as moves of few kinds. -/

namespace Sys2Proof.Machine

open Sys2Proof

/-! ## One lane -/

/-- The person that a lane's pending crossing names, in a list of at most one. -/
def Lane.named (la : Lane) : List Nat := (la.pending.map (·.slot)).toList

/-- R103 and Law 8 for one lane. -/
def Lane.lawful (la : Lane) : Prop :=
  (la.state = .HELD ↔ la.holdHost = true ∨ la.holdBank = true) ∧ (la.state = .CLOSED → la.pending = none)

/-- A lane that stays lawful when it is rewritten, and then names nobody whom it did not name. -/
structure Lane.Follows (old new : Lane) : Prop where
  lawful : old.lawful → new.lawful
  named : new.named.Sublist old.named

section Follows

variable {la old new : Lane} {pc : Pending}

theorem laneLaw_iff (s : State) : s.laneLaw ↔ ∀ n, (s.lane n).lawful := Iff.rfl

theorem lawful_powerOn : Lane.powerOn.lawful := ⟨by decide, fun _ => rfl⟩

theorem named_of_pending (crossing : la.pending = some pc) : la.named = [pc.slot] := by simp [Lane.named, crossing]

theorem named_of_idle (idle : la.pending = none) : la.named = [] := by simp [Lane.named, idle]

theorem Lane.Follows.of_idle (lawful : old.lawful → new.lawful) (idle : new.pending = none) : old.Follows new where
  lawful := lawful
  named := named_of_idle idle ▸ List.nil_sublist _

theorem Lane.Follows.of_samePending (lawful : old.lawful → new.lawful) (same : new.pending = old.pending) : old.Follows new where
  lawful := lawful
  named := by simp only [Lane.named, same, List.Sublist.refl]

/-- A lane whose state, hold reasons and crossing stay. -/
theorem Lane.Follows.of_same (state : new.state = old.state) (host : new.holdHost = old.holdHost) (bank : new.holdBank = old.holdBank)
    (pending : new.pending = old.pending) : old.Follows new :=
  .of_samePending (fun h => by unfold Lane.lawful; rw [state, host, bank, pending]; exact h) pending

theorem Lane.lawful.withoutCrossing (h : old.lawful) (state : new.state = old.state) (host : new.holdHost = old.holdHost)
    (bank : new.holdBank = old.holdBank) (idle : new.pending = none) : new.lawful :=
  ⟨by rw [state, host, bank]; exact h.1, fun _ => idle⟩

theorem follows_abandoned (la : Lane) : la.Follows { la.withoutPending with abandoned := bump la.abandoned } :=
  .of_idle (fun h => h.withoutCrossing rfl rfl rfl rfl) rfl

theorem lawful_closed (la : Lane) : la.closed.lawful := ⟨by simp [Lane.closed], fun _ => rfl⟩

theorem follows_closed (la : Lane) : la.Follows la.closed := .of_idle (fun _ => lawful_closed la) rfl

theorem follows_withBank (la : Lane) : la.Follows la.withBank := by
  by_cases closed : la.state = .CLOSED
  · rw [withBank_of_closed closed]
    exact .of_same rfl rfl rfl rfl
  · rw [withBank_of_notClosed closed]
    exact .of_samePending (fun _ => ⟨by simp, by simp⟩) rfl

theorem follows_withoutBank (la : Lane) : la.Follows la.withoutBank := by
  refine .of_samePending (fun ⟨held, closed⟩ => ?_) rfl
  by_cases released : la.state = .HELD ∧ la.holdHost = false
  · rw [Lane.withoutBank, if_pos released]
    exact ⟨by simp [released.2], by simp⟩
  · rw [Lane.withoutBank, if_neg released]
    exact ⟨⟨fun state => .inl (by simpa using not_and.1 released state), fun holds => held.2 (holds.imp_right (by simp))⟩, closed⟩

theorem follows_opened (closed : la.state = .CLOSED) : la.Follows { la with state := .OPEN } :=
  .of_samePending (fun ⟨held, _⟩ => ⟨by simpa [closed] using held, by simp⟩) rfl

theorem follows_hostHeld (la : Lane) : la.Follows { la with holdHost := true, state := .HELD } :=
  .of_samePending (fun _ => ⟨by simp, by simp⟩) rfl

theorem follows_released (la : Lane) :
    la.Follows { la with holdHost := false, state := if la.holdBank then .HELD else .OPEN } :=
  .of_samePending (fun _ => by cases bank : la.holdBank <;> exact ⟨by simp, by simp⟩) rfl

/-- A pending crossing that is changed names the same person. -/
theorem follows_crossing {qc : Pending} (crossing : la.pending = some pc) (same : qc.slot = pc.slot) :
    la.Follows { la with pending := some qc } where
  lawful := fun ⟨held, closed⟩ => ⟨held, fun state => absurd (closed state) (by simp [crossing])⟩
  named := by
    simp only [named_of_pending (la := { la with pending := some qc }) rfl, named_of_pending crossing, same, List.Sublist.refl]

end Follows

/-! ## The persons that crossings name -/

/-- The persons that the pending crossings name, by lane. -/
def State.named (s : State) : List Nat := s.lanes.cells.flatMap (fun c => c.2.named)

section Named

variable {s t : State} {n slot : Nat} {la : Lane}

theorem pendings_slots (s : State) : s.pendings.map (·.slot) = s.named := by
  unfold State.pendings State.named
  induction s.lanes.cells with
  | nil => rfl
  | cons c rest ih =>
    rw [List.flatMap_cons, ← ih]
    cases crossing : c.2.pending <;> simp [Lane.named, crossing]

theorem length_pendings (s : State) : s.pendings.length = s.named.length := by rw [← pendings_slots, List.length_map]

theorem crossingNames_iff : s.crossingNames slot = true ↔ slot ∈ s.named := by
  simp [State.crossingNames, ← pendings_slots]

theorem named_of_lanes (lanes : t.lanes = s.lanes) : t.named = s.named := by rw [State.named, State.named, lanes]

/-- The persons named are those of the other lanes and that of the lane; one beyond the table names nobody. -/
theorem named_split (wf : s.lanes.wf = true) (n : Nat) :
    ∃ before after, s.named = before ++ (s.lane n).named ++ after
      ∧ ∀ la, (s.setLane n la).named = before ++ la.named ++ after := by
  obtain ⟨before, after, cells, put⟩ := Table.cells_split wf n
  refine ⟨before.flatMap (fun c => c.2.named), after.flatMap (fun c => c.2.named), ?_, fun la => ?_⟩
  · rw [State.named, cells, List.flatMap_append, List.flatMap_append]
    cases held : s.lanes.get n <;> simp [Table.cellAt, State.lane, held, Lane.named, Lane.powerOn]
  · rw [State.named, show (s.setLane n la).lanes.cells = _ from put (some la), List.flatMap_append, List.flatMap_append]
    simp [Table.cellAt]

theorem named_setLane_sublist (wf : s.lanes.wf = true) (follows : (s.lane n).Follows la) : (s.setLane n la).named.Sublist s.named := by
  obtain ⟨before, after, named, written⟩ := named_split wf n
  rw [named, written]
  exact ((List.Sublist.refl before).append follows.named).append (List.Sublist.refl after)

theorem named_mapLanes_sublist {f : Lane → Lane} (follows : ∀ la : Lane, la.Follows (f la)) :
    ({ s with lanes := s.lanes.map (fun _ => f) } : State).named.Sublist s.named := by
  simp only [State.named, Table.map, List.flatMap_map]
  induction s.lanes.cells with
  | nil => exact List.Sublist.refl _
  | cons c rest ih => simpa using (follows c.2).named.append ih

end Named

/-! ## The moves -/

/-- The parts of the state that the laws of the gangway speak of. -/
structure Gangway where
  params : Params
  persons : Table Person
  lanes : Table Lane
  bank0 : Bank
  bank1 : Bank
  census : Census

/-- Those parts of a state. -/
def State.gangway (s : State) : Gangway := ⟨s.params, s.persons, s.lanes, s.bank0, s.bank1, s.census⟩

/-- The two states agree in those parts. -/
abbrev GangwayKept (s t : State) : Prop := t.gangway = s.gangway

section Kept

variable {s t : State}

theorem GangwayKept.of_parts (params : t.params = s.params) (persons : t.persons = s.persons) (lanes : t.lanes = s.lanes)
    (bank0 : t.bank0 = s.bank0) (bank1 : t.bank1 = s.bank1) (census : t.census = s.census) : GangwayKept s t := by
  rw [GangwayKept, State.gangway, params, persons, lanes, bank0, bank1, census]
  rfl

theorem GangwayKept.params (kept : GangwayKept s t) : t.params = s.params := congrArg Gangway.params kept
theorem GangwayKept.persons (kept : GangwayKept s t) : t.persons = s.persons := congrArg Gangway.persons kept
theorem GangwayKept.lanes (kept : GangwayKept s t) : t.lanes = s.lanes := congrArg Gangway.lanes kept
theorem GangwayKept.bank0 (kept : GangwayKept s t) : t.bank0 = s.bank0 := congrArg Gangway.bank0 kept
theorem GangwayKept.bank1 (kept : GangwayKept s t) : t.bank1 = s.bank1 := congrArg Gangway.bank1 kept
theorem GangwayKept.census (kept : GangwayKept s t) : t.census = s.census := congrArg Gangway.census kept

/-- The names of those parts. -/
abbrev gangwayParts : List Part := [.params, .persons, .lanes, .bank0, .bank1, .census]

theorem GangwayKept.of_keeps {l : List Part} (kept : Keeps l s t) (away : ∀ p ∈ l, p ∉ gangwayParts) : GangwayKept s t :=
  .of_parts (kept .params fun mem => away _ mem (by simp)) (kept .persons fun mem => away _ mem (by simp))
    (kept .lanes fun mem => away _ mem (by simp)) (kept .bank0 fun mem => away _ mem (by simp))
    (kept .bank1 fun mem => away _ mem (by simp)) (kept .census fun mem => away _ mem (by simp))

end Kept

/-- What may happen to those parts, one thing at a time. -/
inductive GangwayMove : State → State → Prop where
  /-- Nothing. -/
  | elsewhere {s t : State} (kept : GangwayKept s t) : GangwayMove s t
  /-- Power-on reset. -/
  | reset {s t : State} (kept : GangwayKept State.reset t) : GangwayMove s t
  /-- The parameters change, with the threshold of the banks in its range (R184). -/
  | parameters {s : State} (p : Params) (range : s.params.bankThreshold ≤ 511 → p.bankThreshold ≤ 511) :
      GangwayMove s { s with params := p }
  /-- A person is written beside the standing. -/
  | person {s : State} (slot : Nat) (f : Person → Person) (same : ∀ p, (f p).standing = p.standing) :
      GangwayMove s { s with persons := s.persons.modify slot f }
  /-- A person is put, changed or dropped, and the census follows (R134). -/
  | roster {s : State} (slot : Nat) (new : Option Person) :
      GangwayMove s
        { s with
          persons := s.persons.put slot new
          census := s.census.handed ((s.persons.get slot).map Person.standing) (new.map Person.standing) }
  /-- A lane is written. -/
  | lane {s : State} (n : Nat) (la : Lane) (follows : (s.lane n).Follows la) : GangwayMove s (s.setLane n la)
  /-- Every lane is written. -/
  | lanes {s : State} (f : Lane → Lane) (follows : ∀ la : Lane, la.Follows (f la)) :
      GangwayMove s { s with lanes := s.lanes.map (fun _ => f) }
  /-- A crossing of a person whom no other names begins on an OPEN lane when there is room (R113 to R115). -/
  | begun {s : State} (n : Nat) (pc : Pending) (opened : (s.lane n).state = .OPEN) (unnamed : s.crossingNames pc.slot = false)
      (room : s.filling.records.length + s.pendings.length < s.roomLimit) :
      GangwayMove s (s.setLane n { s.lane n with pending := some pc })
  /-- A pending crossing becomes a record of the FILLING bank (R122). -/
  | committed {s : State} (n : Nat) (c : Crossing) {pc : Pending} (crossing : (s.lane n).pending = some pc) :
      GangwayMove s ((s.appendCrossing c).setLane n (s.lane n).crossed)
  /-- A manual crossing becomes a record of the FILLING bank when there is room (R135). -/
  | recorded {s : State} (c : Crossing) (room : s.filling.records.length + s.pendings.length < s.roomLimit) :
      GangwayMove s (s.appendCrossing c)
  /-- The banks are swapped (R128). -/
  | swapped {s : State} : GangwayMove s s.banksSwapped
  /-- A READABLE bank is emptied (R131). -/
  | emptied {s : State} (n : Nat) (number : n ≤ 1) (readable : (s.bank n).state = .READABLE) :
      GangwayMove s (s.setBank n ⟨.EMPTY, []⟩)

/-- What a succession of moves may make of a state. -/
inductive GangwayMoves (a : State) : State → Prop where
  | refl : GangwayMoves a a
  | next {s t : State} (moves : GangwayMoves a s) (move : GangwayMove s t) : GangwayMoves a t

/-- Moves from a state that agrees with `a` in the parts are moves from `a`. -/
theorem GangwayMoves.after {a b s : State} (moves : GangwayMoves b s) (kept : GangwayKept a b) : GangwayMoves a s := by
  induction moves with
  | refl => exact .next .refl (.elsewhere kept)
  | next _ move ih => exact ih.next move

/-- What every move keeps, every succession of moves keeps. -/
theorem GangwayMoves.invariant {a s : State} {P : State → Prop} (keeps : ∀ {s t : State}, GangwayMove s t → P s → P t)
    (moves : GangwayMoves a s) (start : P a) : P s := by
  induction moves with
  | refl => exact start
  | next _ move ih => exact keeps move ih

end Sys2Proof.Machine
end

section
/-! PROOFS. Every move keeps the laws of the lanes, the banks and the crossings (R103, R104, R125, R126). -/

namespace Sys2Proof.Machine

open Sys2Proof

variable {s t : State} {n : Nat}

/-! ## The canonical form -/

theorem GangwayMove.lanes_wf (move : GangwayMove s t) (wf : s.lanes.wf = true) : t.lanes.wf = true := by
  cases move with
  | elsewhere kept => rwa [kept.lanes]
  | reset kept => rw [kept.lanes]; rfl
  | lane n la _ => exact Table.wf_set n la wf
  | lanes f _ => exact Table.wf_map _ wf
  | begun n pc _ _ _ => exact Table.wf_set n _ wf
  | committed n c _ =>
    have lanes : (s.appendCrossing c).lanes = s.lanes := appendCrossing_keeps s c .lanes (by simp)
    exact Table.wf_set n _ (lanes ▸ wf)
  | recorded c _ => rwa [show (s.appendCrossing c).lanes = s.lanes from appendCrossing_keeps s c .lanes (by simp)]
  | swapped => rwa [show s.banksSwapped.lanes = s.lanes from banksSwapped_keeps s .lanes (by simp)]
  | emptied n _ _ => rwa [show (s.setBank n ⟨.EMPTY, []⟩).lanes = s.lanes from setBank_keeps s n _ .lanes (by simp)]
  | parameters _ _ => exact wf
  | person _ _ _ => exact wf
  | roster _ _ => exact wf

/-! ## The lanes (R103) -/

theorem laneLaw_of_lanes (lanes : t.lanes = s.lanes) (law : s.laneLaw) : t.laneLaw := by
  rw [laneLaw_iff] at law ⊢
  intro n
  rw [State.lane_of_lanes lanes]
  exact law n

theorem laneLaw_setLane {la : Lane} (law : s.laneLaw) (lawful : la.lawful) : (s.setLane n la).laneLaw := by
  rw [laneLaw_iff] at law ⊢
  intro m
  rw [State.lane_setLane]
  split
  · exact lawful
  · exact law m

theorem laneLaw_reset : State.reset.laneLaw := by
  rw [laneLaw_iff]
  intro n
  simp only [State.lane, State.reset, Table.get_full]
  split <;> exact lawful_powerOn

/-- R103 and Law 8 under a move: the lane that is written stays lawful, and a crossing begins on an OPEN lane. -/
theorem GangwayMove.laneLaw (move : GangwayMove s t) (law : s.laneLaw) : t.laneLaw := by
  cases move with
  | elsewhere kept => exact laneLaw_of_lanes kept.lanes law
  | reset kept => exact laneLaw_of_lanes kept.lanes laneLaw_reset
  | lane n la follows => exact laneLaw_setLane law (follows.lawful (law n))
  | lanes f follows =>
    rw [laneLaw_iff] at law ⊢
    intro n
    have lawful := law n
    simp only [State.lane, Table.get_map] at lawful ⊢
    cases held : s.lanes.get n with
    | none => exact lawful_powerOn
    | some la =>
      rw [held] at lawful
      exact (follows la).lawful lawful
  | begun n pc opened _ _ =>
    obtain ⟨held, -⟩ := (laneLaw_iff s).1 law n
    exact laneLaw_setLane law ⟨held, fun closed => absurd (opened.symm.trans closed) (by decide)⟩
  | committed n c _ =>
    exact laneLaw_setLane (laneLaw_of_lanes (appendCrossing_keeps s c .lanes (by simp)) law)
      (((laneLaw_iff s).1 law n).withoutCrossing rfl rfl rfl rfl)
  | recorded c _ => exact laneLaw_of_lanes (appendCrossing_keeps s c .lanes (by simp)) law
  | swapped => exact laneLaw_of_lanes (banksSwapped_keeps s .lanes (by simp)) law
  | emptied n _ _ => exact laneLaw_of_lanes (setBank_keeps s n _ .lanes (by simp)) law
  | parameters _ _ => exact law
  | person _ _ _ => exact law
  | roster _ _ => exact law

/-! ## The banks (R125) -/

theorem bankLaw_of_banks (bank0 : t.bank0 = s.bank0) (bank1 : t.bank1 = s.bank1) (law : s.bankLaw) : t.bankLaw := by
  rw [State.bankLaw, bank0, bank1]
  exact law

theorem bankLaw_iff : s.bankLaw ↔
    s.filling.state = .FILLING ∧ s.other.state ≠ .FILLING ∧ (s.other.state = .EMPTY → s.other.records = []) := by
  by_cases first : s.bank0.state = .FILLING
  · simp [State.bankLaw, State.filling, State.other, State.bank, State.fillingNumber, first]
  · by_cases second : s.bank1.state = .FILLING <;>
      simp [State.bankLaw, State.filling, State.other, State.bank, State.fillingNumber, first, second]

/-- The FILLING bank is the one that fills while the other does not. -/
theorem fillingNumber_of_bank {k : Nat} (number : k ≤ 1) (fills : (s.bank k).state = .FILLING)
    (other : (s.bank (1 - k)).state ≠ .FILLING) : s.fillingNumber = k := by
  obtain rfl | rfl : k = 0 ∨ k = 1 := by omega
  · exact if_pos fills
  · exact if_neg other

theorem bankLaw_of_bank {k : Nat} (number : k ≤ 1) (fills : (s.bank k).state = .FILLING)
    (other : (s.bank (1 - k)).state ≠ .FILLING) (empty : (s.bank (1 - k)).state = .EMPTY → (s.bank (1 - k)).records = []) :
    s.bankLaw := by
  have filling := fillingNumber_of_bank number fills other
  rw [bankLaw_iff, State.filling, State.other, filling]
  exact ⟨fills, other, empty⟩

theorem bank_banksSwapped (s : State) : s.banksSwapped.bank s.fillingNumber = { s.filling with state := .READABLE }
    ∧ s.banksSwapped.bank (1 - s.fillingNumber) = ⟨.FILLING, []⟩ := bank_swapBanks s

theorem one_sub_one_sub {k : Nat} (number : k ≤ 1) : 1 - (1 - k) = k := by omega

theorem fillingNumber_banksSwapped (s : State) : s.banksSwapped.fillingNumber = 1 - s.fillingNumber := by
  obtain ⟨full, fresh⟩ := bank_banksSwapped s
  refine fillingNumber_of_bank (one_sub_fillingNumber s).1 (by rw [fresh]) ?_
  rw [one_sub_one_sub (fillingNumber_le s), full]
  simp

theorem bankLaw_banksSwapped (s : State) : s.banksSwapped.bankLaw := by
  obtain ⟨full, fresh⟩ := bank_banksSwapped s
  refine bankLaw_of_bank (one_sub_fillingNumber s).1 (by rw [fresh]) ?_ ?_
  all_goals
    rw [one_sub_one_sub (fillingNumber_le s), full]
    simp

/-- A READABLE bank is not the one that fills. -/
theorem readable_ne_filling (law : s.bankLaw) (readable : (s.bank n).state = .READABLE) : n ≠ s.fillingNumber := by
  rintro rfl
  have fills := (bankLaw_iff.1 law).1
  rw [State.filling, readable] at fills
  cases fills

/-- A READABLE bank that is emptied leaves the FILLING one as it is. -/
theorem bank_emptied (law : s.bankLaw) (number : n ≤ 1) (readable : (s.bank n).state = .READABLE) :
    (s.setBank n ⟨.EMPTY, []⟩).bank s.fillingNumber = s.filling
      ∧ (s.setBank n ⟨.EMPTY, []⟩).bank (1 - s.fillingNumber) = ⟨.EMPTY, []⟩ := by
  have other := readable_ne_filling law readable
  have within := fillingNumber_le s
  rw [bank_setBank number within, bank_setBank number (by omega), if_neg other.symm, if_pos (by omega)]
  exact ⟨rfl, rfl⟩

theorem fillingNumber_emptied (law : s.bankLaw) (number : n ≤ 1) (readable : (s.bank n).state = .READABLE) :
    (s.setBank n ⟨.EMPTY, []⟩).fillingNumber = s.fillingNumber := by
  obtain ⟨fills, empty⟩ := bank_emptied law number readable
  refine fillingNumber_of_bank (fillingNumber_le s) ?_ ?_
  · rw [fills]
    exact (bankLaw_iff.1 law).1
  · rw [empty]
    decide

theorem bankLaw_appendCrossing (c : Crossing) (law : s.bankLaw) : (s.appendCrossing c).bankLaw := by
  rw [bankLaw_iff] at law ⊢
  rwa [filling_appendCrossing, other_appendCrossing]

/-- Law 6, first half, under a move. -/
theorem GangwayMove.bankLaw (move : GangwayMove s t) (law : s.bankLaw) : t.bankLaw := by
  cases move with
  | elsewhere kept => exact bankLaw_of_banks kept.bank0 kept.bank1 law
  | reset kept => exact bankLaw_of_banks kept.bank0 kept.bank1 ⟨by decide, by decide, by decide⟩
  | committed n c _ => exact bankLaw_appendCrossing c law
  | recorded c _ => exact bankLaw_appendCrossing c law
  | swapped => exact bankLaw_banksSwapped s
  | emptied n number readable =>
    obtain ⟨fills, empty⟩ := bank_emptied law number readable
    refine bankLaw_of_bank (fillingNumber_le s) ?_ ?_ ?_
    · rw [fills]
      exact (bankLaw_iff.1 law).1
    all_goals
      rw [empty]
      simp
  | parameters _ _ => exact law
  | person _ _ _ => exact law
  | roster _ _ => exact law
  | lane _ _ _ => exact law
  | lanes _ _ => exact law
  | begun _ _ _ _ _ => exact law

/-! ## The room of the FILLING bank (R126) -/

/-- Law 6, second half, once the banks, the lanes and the threshold are known. -/
theorem roomLaw_iff : s.roomLaw ↔ s.filling.records.length + s.named.length ≤ 512 ∧ s.params.bankThreshold ≤ 511 := by
  rw [State.roomLaw, length_pendings]

/-- R127: the room limit lies within the bank. -/
theorem roomLimit_le (range : s.params.bankThreshold ≤ 511) : s.roomLimit ≤ 512 := by
  unfold State.roomLimit
  split
  · exact Nat.le_refl 512
  · split
    · exact Nat.succ_le_succ range
    · exact Nat.le_refl 512

theorem roomLaw_of_named (law : s.roomLaw) (bank0 : t.bank0 = s.bank0) (bank1 : t.bank1 = s.bank1) (params : t.params = s.params)
    (named : t.named.length ≤ s.named.length) : t.roomLaw := by
  rw [roomLaw_iff] at law ⊢
  rw [(filling_of_banks bank0 bank1).2.1, params]
  exact ⟨Nat.le_trans (Nat.add_le_add_left named _) law.1, law.2⟩

theorem length_records_appendCrossing (c : Crossing) :
    (s.appendCrossing c).filling.records.length = s.filling.records.length + 1 := by
  rw [filling_appendCrossing, List.length_append]
  rfl

/-- Law 6, second half, under a move: a crossing that begins and a manual record find room, and a commit turns a crossing into a record. -/
theorem GangwayMove.roomLaw (move : GangwayMove s t) (wf : s.lanes.wf = true) (banks : s.bankLaw) (law : s.roomLaw) : t.roomLaw := by
  obtain ⟨within, range⟩ := roomLaw_iff.1 law
  cases move with
  | elsewhere kept => exact roomLaw_of_named law kept.bank0 kept.bank1 kept.params (Nat.le_of_eq (by rw [named_of_lanes kept.lanes]))
  | reset kept =>
    exact roomLaw_of_named (s := State.reset) ⟨by decide, by decide⟩ kept.bank0 kept.bank1 kept.params
      (Nat.le_of_eq (by rw [named_of_lanes kept.lanes]))
  | parameters p inRange => exact ⟨law.1, inRange range⟩
  | lane n la follows => exact roomLaw_of_named law rfl rfl rfl (named_setLane_sublist wf follows).length_le
  | lanes f follows => exact roomLaw_of_named law rfl rfl rfl (named_mapLanes_sublist follows).length_le
  | begun n pc _ _ room =>
    obtain ⟨before, after, named, written⟩ := named_split wf n
    have limit := roomLimit_le range
    rw [length_pendings, named] at room
    refine roomLaw_iff.2 ⟨?_, range⟩
    rw [written, named_of_pending (la := { s.lane n with pending := some pc }) rfl]
    simp only [List.length_append, List.length_singleton] at room ⊢
    exact Nat.le_trans (show s.filling.records.length + _ ≤ _ by omega) limit
  | @committed n c pc crossing =>
    have kept := appendCrossing_keeps s c
    have lanes : (s.appendCrossing c).lanes = s.lanes := kept .lanes (by simp)
    have params : (s.appendCrossing c).params = s.params := kept .params (by simp)
    obtain ⟨before, after, named, written⟩ := named_split wf n
    have ended : ((s.appendCrossing c).setLane n (s.lane n).crossed).named = before ++ after := by
      rw [← List.append_nil before, ← named_of_idle (la := (s.lane n).crossed) rfl, ← written]
      exact named_of_lanes (by rw [State.setLane_lanes, State.setLane_lanes, lanes])
    rw [named, named_of_pending crossing] at within
    refine roomLaw_iff.2 ⟨?_, by rw [State.setLane_params, params]; exact range⟩
    rw [ended, show ((s.appendCrossing c).setLane n (s.lane n).crossed).filling = (s.appendCrossing c).filling from rfl,
      length_records_appendCrossing]
    simp only [List.length_append, List.length_singleton] at within ⊢
    omega
  | recorded c room =>
    have kept := appendCrossing_keeps s c
    have params : (s.appendCrossing c).params = s.params := kept .params (by simp)
    have limit := roomLimit_le range
    rw [length_pendings] at room
    refine roomLaw_iff.2 ⟨?_, by rw [params]; exact range⟩
    rw [length_records_appendCrossing, named_of_lanes (kept .lanes (by simp))]
    omega
  | swapped =>
    have kept := banksSwapped_keeps s
    have params : s.banksSwapped.params = s.params := kept .params (by simp)
    refine roomLaw_iff.2 ⟨?_, by rw [params]; exact range⟩
    rw [State.filling, fillingNumber_banksSwapped, (bank_banksSwapped s).2, named_of_lanes (kept .lanes (by simp))]
    exact Nat.le_trans (Nat.add_le_add_right (Nat.zero_le _) _) within
  | emptied n number readable =>
    have kept := setBank_keeps s n ⟨.EMPTY, []⟩
    have params : (s.setBank n ⟨.EMPTY, []⟩).params = s.params := kept .params (by simp)
    refine roomLaw_iff.2 ⟨?_, by rw [params]; exact range⟩
    rw [State.filling, fillingNumber_emptied banks number readable, (bank_emptied banks number readable).1,
      named_of_lanes (kept .lanes (by simp))]
    exact within
  | person _ _ _ => exact law
  | roster _ _ => exact law

/-! ## The persons that crossings name (R104, R113) -/

theorem crossingLaw_iff : s.crossingLaw ↔ s.named.Nodup := by rw [State.crossingLaw, pendings_slots]

theorem crossingLaw_of_lanes (lanes : t.lanes = s.lanes) (law : s.crossingLaw) : t.crossingLaw := by
  rw [crossingLaw_iff] at law ⊢
  rwa [named_of_lanes lanes]

theorem crossingLaw_of_sublist (named : t.named.Sublist s.named) (law : s.crossingLaw) : t.crossingLaw :=
  crossingLaw_iff.2 (named.nodup (crossingLaw_iff.1 law))

/-- Law 8 under a move: the person of a crossing that begins is named by no other. -/
theorem GangwayMove.crossingLaw (move : GangwayMove s t) (wf : s.lanes.wf = true) (law : s.crossingLaw) : t.crossingLaw := by
  cases move with
  | elsewhere kept => exact crossingLaw_of_lanes kept.lanes law
  | reset kept => exact crossingLaw_of_lanes kept.lanes (by decide : State.reset.pendings.map (·.slot) |>.Nodup)
  | lane n la follows => exact crossingLaw_of_sublist (named_setLane_sublist wf follows) law
  | lanes f follows => exact crossingLaw_of_sublist (named_mapLanes_sublist follows) law
  | begun n pc _ unnamed _ =>
    obtain ⟨before, after, named, written⟩ := named_split wf n
    have unnamed : pc.slot ∉ s.named := fun mem => absurd (crossingNames_iff.2 mem) (by simp [unnamed])
    rw [crossingLaw_iff, named] at law
    rw [named] at unnamed
    rw [crossingLaw_iff, written, named_of_pending (la := { s.lane n with pending := some pc }) rfl]
    have others : (before ++ after).Nodup :=
      law.sublist (List.Sublist.append_right (List.sublist_append_left before _) after)
    simp only [List.append_assoc, List.singleton_append, List.mem_append, not_or] at unnamed ⊢
    obtain ⟨notBefore, -, notAfter⟩ := unnamed
    refine List.perm_middle.nodup_iff.2 (List.nodup_cons.2 ⟨?_, others⟩)
    simp [notBefore, notAfter]
  | committed n c _ =>
    have lanes : (s.appendCrossing c).lanes = s.lanes := appendCrossing_keeps s c .lanes (by simp)
    have follows : (s.lane n).Follows (s.lane n).crossed := .of_idle (fun h => h.withoutCrossing rfl rfl rfl rfl) rfl
    refine crossingLaw_of_lanes (s := s.setLane n (s.lane n).crossed) ?_ (crossingLaw_of_sublist (named_setLane_sublist wf follows) law)
    rw [State.setLane_lanes, State.setLane_lanes, lanes]
  | recorded c _ => exact crossingLaw_of_lanes (appendCrossing_keeps s c .lanes (by simp)) law
  | swapped => exact crossingLaw_of_lanes (banksSwapped_keeps s .lanes (by simp)) law
  | emptied n _ _ => exact crossingLaw_of_lanes (setBank_keeps s n _ .lanes (by simp)) law
  | parameters _ _ => exact law
  | person _ _ _ => exact law
  | roster _ _ => exact law

end Sys2Proof.Machine
end

section
/-! PROOFS. Every move keeps the census equal to the Roster (R133, R134). -/

namespace Sys2Proof.Machine

open Sys2Proof

variable {s t : State}

/-! ## The counters by category and presence -/

/-- The counter of a presence. -/
def Buckets.counter (b : Buckets) : Presence → Nat
  | .ABOARD => b.aboard
  | .ASHORE => b.ashore
  | .UNKNOWN => b.unknown

/-- The counters of a category. -/
def Census.buckets (c : Census) : Category → Buckets
  | .GUEST => c.guest
  | .CREW => c.crew
  | .VISITOR => c.visitor

/-- The counter of a category and a presence. -/
def Census.counter (c : Census) (category : Category) (presence : Presence) : Nat := (c.buckets category).counter presence

/-- A standing of the category and the presence. -/
def Standing.isOf (category : Category) (presence : Presence) (st : Standing) : Bool :=
  decide (st.category = category) && decide (st.presence = presence)

theorem Buckets.counter_change (b : Buckets) (p q : Presence) (f : Nat → Nat) :
    (b.change p f).counter q = if p = q then f (b.counter q) else b.counter q := by
  cases p <;> cases q <;> rfl

theorem Census.buckets_change (c : Census) (st : Standing) (category : Category) (f : Nat → Nat) :
    (c.change st f).buckets category =
      if st.category = category then (c.buckets category).change st.presence f else c.buckets category := by
  unfold Census.change
  cases st.category <;> cases category <;> rfl

theorem Census.counter_change (c : Census) (st : Standing) (category : Category) (presence : Presence) (f : Nat → Nat) :
    (c.change st f).counter category presence =
      if st.isOf category presence then f (c.counter category presence) else c.counter category presence := by
  rw [Census.counter, Census.buckets_change]
  by_cases same : st.category = category
  · rw [if_pos same, Buckets.counter_change]
    simp [Standing.isOf, same, Census.counter]
  · simp [Standing.isOf, same, Census.counter]

/-- R134 step 1: a counter gives up who was counted in it and takes up who is. -/
theorem Census.counter_moved {c : Census} {old new : Option Standing} {category : Category} {presence : Presence}
    (counted : (old.any (Standing.isOf category presence)).toNat ≤ c.counter category presence) :
    (c.moved old new).counter category presence + (old.any (Standing.isOf category presence)).toNat =
      c.counter category presence + (new.any (Standing.isOf category presence)).toNat := by
  cases old with
  | none =>
    cases new with
    | none => rfl
    | some b => cases isOf : b.isOf category presence <;> simp [Census.moved, Census.counter_change, isOf]
  | some a =>
    cases new with
    | none =>
      cases isOf : a.isOf category presence
      · simp [Census.moved, Census.counter_change, isOf]
      · simp only [Option.any_some, isOf, Bool.toNat_true] at counted
        simp [Census.moved, Census.counter_change, isOf, Nat.sub_add_cancel counted]
    | some b =>
      rw [Census.moved]
      split
      · rename_i alike
        simp [Standing.isOf, alike]
      · rw [Census.counter_change, Census.counter_change]
        cases was : a.isOf category presence <;> cases is : b.isOf category presence <;>
          simp [was, is] at counted ⊢ <;> omega

theorem countMoved_add {n : Nat} {before after : Bool} (counted : before.toNat ≤ n) :
    countMoved n before after + before.toNat = n + after.toNat := by
  cases before <;> cases after <;> simp [countMoved] at counted ⊢
  exact Nat.sub_add_cancel counted

/-! ## The law by its counts -/

/-- The persons whose standing passes. -/
def State.standings (s : State) (p : Standing → Bool) : Nat := s.persons.count (fun x => p x.standing)

theorem censusLaw_iff : s.censusLaw ↔
    (∀ category presence, s.census.counter category presence = s.standings (Standing.isOf category presence))
      ∧ s.census.missing = s.standings Standing.missing ∧ s.census.visitorsAboard = s.standings Standing.visitorAboard := by
  constructor
  · rintro ⟨⟨ga, gs, gu⟩, ⟨ca, cs, cu⟩, ⟨va, vs, vu⟩, missing, visitors⟩
    refine ⟨fun category presence => ?_, missing, visitors⟩
    cases category <;> cases presence <;> assumption
  · rintro ⟨counters, missing, visitors⟩
    exact ⟨⟨counters .GUEST .ABOARD, counters .GUEST .ASHORE, counters .GUEST .UNKNOWN⟩,
      ⟨counters .CREW .ABOARD, counters .CREW .ASHORE, counters .CREW .UNKNOWN⟩,
      ⟨counters .VISITOR .ABOARD, counters .VISITOR .ASHORE, counters .VISITOR .UNKNOWN⟩, missing, visitors⟩

theorem censusLaw_of_roster (persons : t.persons = s.persons) (census : t.census = s.census) (law : s.censusLaw) : t.censusLaw := by
  rw [censusLaw_iff] at law ⊢
  simp only [State.standings, persons, census]
  exact law

/-- The persons whose standing passes are those of the other slots and the one of the slot. -/
theorem standings_split (wf : s.persons.wf = true) (slot : Nat) (p : Standing → Bool) :
    ∃ m, s.standings p = m + (((s.persons.get slot).map Person.standing).any p).toNat
      ∧ ∀ new census, ({ s with persons := s.persons.put slot new, census := census } : State).standings p =
          m + ((new.map Person.standing).any p).toNat := by
  obtain ⟨m, count, put⟩ := Table.count_split wf slot (fun x : Person => p x.standing)
  refine ⟨m, ?_, fun new census => ?_⟩
  · rw [State.standings, count, Option.any_map]
  · rw [State.standings, put, Option.any_map]

/-- A person that is written beside the standing is counted as before. -/
theorem standings_modify (wf : s.persons.wf = true) (slot : Nat) {f : Person → Person} (same : ∀ p, (f p).standing = p.standing)
    (p : Standing → Bool) : ({ s with persons := s.persons.modify slot f } : State).standings p = s.standings p := by
  obtain ⟨m, count, put⟩ := standings_split wf slot p
  cases held : s.persons.get slot with
  | none => rw [Table.modify_of_none _ _ _ held]
  | some x =>
    have written := put (some (f x)) s.census
    rw [Table.modify_of_get _ _ _ held, count, held]
    simpa [Table.put, same] using written

/-- R134: a hand-off keeps the census equal to the Roster. -/
theorem censusLaw_handed (wf : s.persons.wf = true) (law : s.censusLaw) (slot : Nat) (new : Option Person) :
    ({ s with
        persons := s.persons.put slot new
        census := s.census.handed ((s.persons.get slot).map Person.standing) (new.map Person.standing) } : State).censusLaw := by
  obtain ⟨counters, missing, visitors⟩ := censusLaw_iff.1 law
  refine censusLaw_iff.2 ⟨fun category presence => ?_, ?_, ?_⟩
  · obtain ⟨m, count, put⟩ := standings_split wf slot (Standing.isOf category presence)
    have counter := counters category presence
    have moved := Census.counter_moved (c := s.census) (old := (s.persons.get slot).map Person.standing)
      (new := new.map Person.standing) (category := category) (presence := presence) (by omega)
    rw [put]
    show (s.census.moved _ _).counter category presence = _
    omega
  · obtain ⟨m, count, put⟩ := standings_split wf slot Standing.missing
    have moved := countMoved_add (n := s.census.missing) (before := ((s.persons.get slot).map Person.standing).any Standing.missing)
      (after := (new.map Person.standing).any Standing.missing) (by omega)
    rw [put]
    show countMoved _ _ _ = _
    omega
  · obtain ⟨m, count, put⟩ := standings_split wf slot Standing.visitorAboard
    have moved := countMoved_add (n := s.census.visitorsAboard)
      (before := ((s.persons.get slot).map Person.standing).any Standing.visitorAboard)
      (after := (new.map Person.standing).any Standing.visitorAboard) (by omega)
    rw [put]
    show countMoved _ _ _ = _
    omega

/-! ## The moves -/

/-- The moves of the lanes and the banks leave the Roster and the census. -/
theorem GangwayMove.roster_cases (move : GangwayMove s t) :
    (t.persons = s.persons ∧ t.census = s.census) ∨ (t.persons = Table.empty ∧ t.census = State.reset.census)
      ∨ (∃ slot f, (∀ p, Person.standing (f p) = p.standing) ∧ t.persons = s.persons.modify slot f ∧ t.census = s.census)
      ∨ ∃ slot new, t.persons = s.persons.put slot new
          ∧ t.census = s.census.handed ((s.persons.get slot).map Person.standing) (new.map Person.standing) := by
  cases move with
  | elsewhere kept => exact .inl ⟨kept.persons, kept.census⟩
  | reset kept => exact .inr (.inl ⟨kept.persons, kept.census⟩)
  | person slot f same => exact .inr (.inr (.inl ⟨slot, f, same, rfl, rfl⟩))
  | roster slot new => exact .inr (.inr (.inr ⟨slot, new, rfl, rfl⟩))
  | committed n c _ => exact .inl ⟨appendCrossing_keeps s c .persons (by simp), appendCrossing_keeps s c .census (by simp)⟩
  | recorded c _ => exact .inl ⟨appendCrossing_keeps s c .persons (by simp), appendCrossing_keeps s c .census (by simp)⟩
  | swapped => exact .inl ⟨banksSwapped_keeps s .persons (by simp), banksSwapped_keeps s .census (by simp)⟩
  | emptied n _ _ => exact .inl ⟨setBank_keeps s n _ .persons (by simp), setBank_keeps s n _ .census (by simp)⟩
  | parameters _ _ => exact .inl ⟨rfl, rfl⟩
  | lane _ _ _ => exact .inl ⟨rfl, rfl⟩
  | lanes _ _ => exact .inl ⟨rfl, rfl⟩
  | begun _ _ _ _ _ => exact .inl ⟨rfl, rfl⟩

theorem GangwayMove.persons_wf (move : GangwayMove s t) (wf : s.persons.wf = true) : t.persons.wf = true := by
  rcases move.roster_cases with ⟨persons, -⟩ | ⟨persons, -⟩ | ⟨slot, f, -, persons, -⟩ | ⟨slot, new, persons, -⟩
  all_goals rw [persons]
  · exact wf
  · rfl
  · exact Table.wf_modify slot f wf
  · exact Table.wf_put slot new wf

/-- Law 2 under a move. -/
theorem GangwayMove.censusLaw (move : GangwayMove s t) (wf : s.persons.wf = true) (law : s.censusLaw) : t.censusLaw := by
  rcases move.roster_cases with ⟨persons, census⟩ | ⟨persons, census⟩ | ⟨slot, f, same, persons, census⟩ |
    ⟨slot, new, persons, census⟩
  · exact censusLaw_of_roster persons census law
  · refine censusLaw_of_roster (s := State.reset) persons census ?_
    exact ⟨⟨rfl, rfl, rfl⟩, ⟨rfl, rfl, rfl⟩, ⟨rfl, rfl, rfl⟩, rfl, rfl⟩
  · refine censusLaw_of_roster (s := { s with persons := s.persons.modify slot f }) persons census ?_
    rw [censusLaw_iff] at law ⊢
    simp only [standings_modify wf slot same]
    exact law
  · exact censusLaw_of_roster (s := { s with persons := _, census := _ }) persons census (censusLaw_handed wf law slot new)

end Sys2Proof.Machine
end

section
/-! PROOFS. What the moves turn on: what a write of a person leaves of the standing, the range of the banks' threshold, and what leaves the
crossings and the room of the banks as they are. -/

namespace Sys2Proof.Machine

open Sys2Proof

variable {s : State}

theorem standing_settled (p : Person) (h : Hold) (day : Nat) : (p.settled h day).standing = p.standing := by
  unfold Person.settled
  split <;> rfl

theorem commitCrossing_of_noPerson {n : Nat} {pc : Pending} {cause : Cause} (absent : s.persons.get pc.slot = none) :
    s.commitCrossing n pc cause = s := by
  rw [State.commitCrossing, absent]

/-- R184: a number brought into its range leaves the threshold of the banks within the banks. -/
theorem bankThreshold_store {p : Params} {ident : Nat} {r : Nat × Nat} (numeric : numericRange ident = some r) (value : Int)
    (range : p.bankThreshold ≤ 511) : (p.store ident (clampTo value r)).bankThreshold ≤ 511 := by
  by_cases threshold : ident = 22
  · subst threshold
    cases numeric
    show clampTo value (1, 511) ≤ 511
    simp only [clampTo]
    omega
  · unfold Params.store
    split <;> first | exact range | exact absurd rfl threshold

theorem moveCabins_keeps (s : State) (slot : Nat) (p : Presence) (old new : List Nat) :
    Keeps [.cabins, .lines] s (s.moveCabins slot p old new) :=
  (keeps_foldl _ (fun s n => leaveCabin_keeps s slot p n) _ s).trans
    (keeps_foldl _ (fun s n => (joinCabin_keeps s slot p n).weaken (by simp)) _ _)

theorem slot_newCrossing (la : Lane) (slot tag : Nat) (p : Person) : (s.newCrossing la slot tag p).slot = slot := by
  unfold State.newCrossing
  split <;> rfl

/-- A presence change leaves the room of the banks as it is. -/
theorem room_changePresence {slot : Nat} {p : Person} {after : Presence}
    (room : s.filling.records.length + s.pendings.length < s.roomLimit) :
    (s.changePresence slot p after).filling.records.length + (s.changePresence slot p after).pendings.length <
      (s.changePresence slot p after).roomLimit := by
  have frame := changePresence_keeps s slot p after
  have params : (s.changePresence slot p after).params = s.params := frame .params (by simp)
  have lanes : (s.changePresence slot p after).lanes = s.lanes := frame .lanes (by simp)
  obtain ⟨-, filling, other⟩ := filling_of_banks (frame .bank0 (by simp)) (frame .bank1 (by simp))
  rw [State.roomLimit, State.pendings, params, lanes, filling, other]
  exact room

end Sys2Proof.Machine
end

section
/-! PROOFS. Every command makes of the parameters, the lanes, the banks, the Roster and the census only what the moves allow: the shared
operations. A lemma `GangwayMoves.op` says it of the operation `State.op`, so that a proof reads like the operation. -/

namespace Sys2Proof.Machine.GangwayMoves

open Sys2Proof

variable {a s : State} (hs : GangwayMoves a s)

/-! ## Choices, folds and requests -/

theorem ite {c : Prop} [Decidable c] {t u : State} (ht : GangwayMoves a t) (hu : GangwayMoves a u) :
    GangwayMoves a (if c then t else u) := by split <;> assumption

/-- A request that is refused in one case and does its work in the other. -/
theorem iteAnswer {c : Prop} [Decidable c] {x y : Answer} (hx : GangwayMoves a x.state) (hy : GangwayMoves a y.state) :
    GangwayMoves a (if c then x else y).state := by split <;> assumption

include hs

/-- What touches none of the parts is no move of them. -/
theorem away {t : State} (kept : GangwayKept s t) : GangwayMoves a t := hs.next (.elsewhere kept)

/-- What keeps the parts is no move of them. -/
theorem kept {t : State} {l : List Part} (keeps : Keeps l s t) (apart : l.all (fun p => !gangwayParts.contains p) = true) :
    GangwayMoves a t :=
  hs.away (.of_keeps keeps (by simpa using apart))

theorem foldl {β : Type} {f : State → β → State} (hf : ∀ {u : State} (b : β), GangwayMoves a u → GangwayMoves a (f u b))
    (bs : List β) : GangwayMoves a (bs.foldl f s) := by
  induction bs generalizing s with
  | nil => exact hs
  | cons b rest ih => exact ih (hf b hs)

/-- Queuing a request and its reply touches the link alone. -/
theorem serve (c : Instr) {work : State → Answer} (hw : ∀ {u : State}, GangwayMoves a u → GangwayMoves a (work u).state) :
    GangwayMoves a (s.serve c work) := by
  have received : GangwayMoves a (s.received c) := by
    unfold State.received
    split
    · exact hs
    · exact hs.away rfl
  unfold State.serve
  split
  · exact hs
  · dsimp only
    split
    · exact (hw received).away rfl
    · exact received

/-- A request that only reads makes no move. -/
theorem serveRead (c : Instr) {work : State → Answer} (hw : ∀ u, (work u).state = u) : GangwayMoves a (s.serve c work) :=
  hs.serve c (fun hu => by rw [hw]; exact hu)

/-! ## Plain writes -/

theorem setLatch (c : NoticeClass) (l : Latch) : GangwayMoves a (s.setLatch c l) := hs.away rfl

theorem raise (c : NoticeClass) (x : Subject) : GangwayMoves a (s.raise c x) := hs.away rfl

theorem modifyHead (h : HeadId) (f : Head → Head) : GangwayMoves a (s.modifyHead h f) := hs.away rfl

theorem modifyLine (l : Nat) (f : Line → Line) : GangwayMoves a (s.modifyLine l f) := hs.away rfl

theorem modifyFolio (k : Nat) (f : Folio → Folio) : GangwayMoves a (s.modifyFolio k f) := hs.away rfl

theorem modifyCabin (k : Nat) (f : Cabin → Cabin) : GangwayMoves a (s.modifyCabin k f) := hs.away rfl

theorem passTime (ms : Nat) : GangwayMoves a (s.passTime ms) := hs.away rfl

theorem modifyPerson (k : Nat) {f : Person → Person} (same : ∀ p, (f p).standing = p.standing) : GangwayMoves a (s.modifyPerson k f) :=
  hs.next (.person k f same)

theorem setLane (n : Nat) {la : Lane} (follows : (s.lane n).Follows la) : GangwayMoves a (s.setLane n la) :=
  hs.next (.lane n la follows)

theorem sendDecision (e : Entry) (x : FrameContent) : GangwayMoves a (s.sendDecision e x) := hs.kept (sendDecision_keeps s e x) rfl

theorem giveBackEntry (e : Entry) : GangwayMoves a (s.giveBackEntry e) := hs.kept (giveBackEntry_keeps s e) rfl

theorem giveBackPoll (l : Nat) (holds : Option HeadClass) : GangwayMoves a (s.giveBackPoll l holds) :=
  hs.kept (giveBackPoll_keeps s l holds) rfl

theorem takeEntry (c : HeadClass) (e : Entry) {apply : State → State}
    (ha : ∀ {u : State}, GangwayMoves a u → GangwayMoves a (apply u)) : GangwayMoves a (s.takeEntry c e apply) := by
  have dropped := hs.kept (dropOldest_keeps s c) rfl
  exact ite (dropped.giveBackEntry e) (ite ((dropped.giveBackEntry e).raise _ _) (ha dropped))

/-- A job unit makes the moves that what it makes of its oldest entry does. -/
theorem takeOldest (c : HeadClass) {handle : Entry → Option (State → State)}
    (ha : ∀ {e apply u}, handle e = some apply → GangwayMoves a u → GangwayMoves a (apply u)) :
    GangwayMoves a (s.takeOldest c handle) := by
  unfold State.takeOldest
  split
  · exact hs
  · split
    · exact hs
    · exact hs.takeEntry c _ (ha ‹_›)

/-! ## Charges -/

theorem releaseAmounts (h : Hold) : GangwayMoves a (s.releaseAmounts h) := (hs.modifyFolio _ _).modifyPerson _ (fun _ => rfl)

theorem releaseHold (id : HeadId) (h : Hold) : GangwayMoves a (s.releaseHold id h) := (hs.releaseAmounts h).modifyHead id _

theorem holdDeparture (id : HeadId) : GangwayMoves a (s.holdDeparture id) := by
  unfold State.holdDeparture
  split
  · exact hs
  · split
    · exact hs
    · exact ite (hs.away rfl) (hs.releaseHold id _)

theorem applyConfirm (h : Hold) : GangwayMoves a (s.applyConfirm h) := by
  have entered : GangwayMoves a { s with journal := s.journal ++ [s.entryOf h s.nextCharge] } := hs.away rfl
  exact ((entered.modifyFolio _ _).modifyPerson _ (fun p => standing_settled p h _)).kept (evaluateJournal_keeps _) rfl

theorem applyDeferred (d : Deferred) : GangwayMoves a (s.applyDeferred d) := by
  unfold State.applyDeferred
  split
  · exact hs.applyConfirm _
  · split
    · exact hs
    · have applied := (hs.applyConfirm ‹Hold›).modifyHead d.head (fun hd => { hd with hold := none })
      exact ite (applied.modifyLine _ _) applied

theorem completeReconcile (sc : Scan) : GangwayMoves a (s.completeReconcile sc) :=
  (((hs.modifyFolio sc.slot (fun f => f.installed sc)).raise .RECONCILE_DONE (.folio sc.slot)).foldl
    (fun d hu => hu.applyDeferred d) _).away rfl

/-! ## Census, banks and crossings -/

theorem removeBankHolds : GangwayMoves a s.removeBankHolds := hs.next (.lanes Lane.withoutBank follows_withoutBank)

theorem addBankHolds : GangwayMoves a s.addBankHolds := hs.next (.lanes Lane.withBank follows_withBank)

theorem swapBanks : GangwayMoves a s.swapBanks := (hs.next .swapped).removeBankHolds.raise _ _

theorem swapCheck : GangwayMoves a s.swapCheck := ite hs.swapBanks hs

/-- R122 steps 2 to 4: the person's record and the census move together; the cabins are away. -/
theorem changePresence {slot : Nat} {p : Person} (person : s.persons.get slot = some p) (after : Presence) :
    GangwayMoves a (s.changePresence slot p after) := by
  have moved := hs.next (.roster slot (some { p with presence := after, lastCrossing := some s.clock.time }))
  rw [person] at moved
  have frame := changePresence_keeps s slot p after
  refine moved.away (.of_parts (frame .params (by simp)) ?_ (frame .lanes (by simp)) (frame .bank0 (by simp)) (frame .bank1 (by simp)) ?_)
  all_goals rw [changePresence_eq]; rfl

theorem crossed {n : Nat} {pc : Pending} {p : Person} (crossing : (s.lane n).pending = some pc)
    (person : s.persons.get pc.slot = some p) (cause : Cause) : GangwayMoves a (s.crossed n pc cause p) := by
  have same := State.lane_of_lanes (changePresence_keeps s pc.slot p (s.lane n).direction.presence .lanes (by simp)) n
  have committed := (hs.changePresence person (s.lane n).direction.presence).next
    (.committed n (s.crossingRecord n pc cause p) ((congrArg Lane.pending same).trans crossing))
  rwa [same] at committed

theorem commitCrossing {n : Nat} {pc : Pending} (crossing : (s.lane n).pending = some pc) (cause : Cause) :
    GangwayMoves a (s.commitCrossing n pc cause) := by
  cases person : s.persons.get pc.slot with
  | none => rwa [commitCrossing_of_noPerson person]
  | some p =>
    rw [commitCrossing_of_person person]
    exact (hs.crossed crossing person cause).swapCheck

theorem abandonCrossing (n : Nat) : GangwayMoves a (s.abandonCrossing n) := hs.setLane n (follows_abandoned _)

theorem loseCrossing (n : Nat) : GangwayMoves a (s.loseCrossing n) := (hs.abandonCrossing n).raise _ _

theorem closeLane (n : Nat) : GangwayMoves a (s.setLane n (s.lane n).closed) := hs.setLane n (follows_closed _)

theorem laneDeparture (n : Nat) : GangwayMoves a (s.laneDeparture n) := by
  unfold State.laneDeparture
  dsimp only
  split
  · exact hs
  all_goals exact (ite (hs.loseCrossing n) hs).closeLane n

/-! ## Heads -/

theorem grantDeparture (h : HeadId) : GangwayMoves a (s.grantDeparture h) := hs.modifyHead h _

theorem leaveOnline (h : HeadId) : GangwayMoves a (s.leaveOnline h) := by
  have left (hd : Head) : GangwayMoves a
      (((((s.failPush h).lineDeparture h).grantDeparture h).holdDeparture h).gangwayDeparture hd) := by
    have held := (((hs.kept (failPush_keeps s h) rfl).kept (lineDeparture_keeps _ h) rfl).grantDeparture h).holdDeparture h
    unfold State.gangwayDeparture
    split
    · exact held.laneDeparture _
    all_goals exact held
  unfold State.leaveOnline
  split
  · exact hs
  · exact ite (left _) hs

theorem removeTuneFrame (h : HeadId) : GangwayMoves a (s.removeTuneFrame h) := hs.modifyLine _ _

theorem faultHead (h : HeadId) (r : FaultReason) (code : Nat) : GangwayMoves a (s.faultHead h r code) := by
  have left := hs.leaveOnline h
  exact ((ite (left.removeTuneFrame h) left).modifyHead h _).raise _ _

theorem startTune (h : HeadId) (kind : TuneKind) : GangwayMoves a (s.startTune h kind) :=
  ((hs.leaveOnline h).modifyHead h _).kept (enqueueTune_keeps _ h kind) rfl

theorem scheduleOne : GangwayMoves a s.scheduleOne := by
  unfold State.scheduleOne
  split
  · exact hs
  · split
    · exact hs
    · exact hs.startTune _ _

theorem schedule (n : Nat) : GangwayMoves a (State.schedule n s) := by
  induction n generalizing s with
  | zero => exact hs
  | succ n ih =>
    unfold State.schedule
    split
    · exact hs
    · exact ih hs.scheduleOne

theorem finishTune (h : HeadId) (hd : Head) (low high field : Nat) : GangwayMoves a (s.finishTune h hd low high field) := by
  unfold State.finishTune
  dsimp only
  split
  · exact (hs.modifyHead h _).faultHead h _ _
  · have online := fun f => (hs.modifyHead h f).kept (enterOnline_keeps _ h) rfl
    exact ite ((online _).raise _ _) (online _)

end Sys2Proof.Machine.GangwayMoves
end

section
/-! PROOFS. The requests, the job units and the part's own steps make only moves of the gangway, and so does every step. -/

namespace Sys2Proof.Machine.GangwayMoves

open Sys2Proof

variable {a s : State} (hs : GangwayMoves a s)

include hs

/-! ## The system link, parameters and notices -/

theorem readMessage (n : Nat) : GangwayMoves a (s.readMessage n) := hs.away rfl

theorem transact (bytes : List Byte) : GangwayMoves a (s.transact bytes) := by
  unfold State.transact
  split
  · exact hs
  all_goals exact hs.away rfl

theorem queueNotice : GangwayMoves a s.queueNotice := by
  unfold State.queueNotice
  split
  · split
    · exact hs
    · exact hs.away rfl
  · exact hs

theorem clockSetWork (time : Nat) : GangwayMoves a (s.clockSetWork time).state := iteAnswer (hs.away rfl) hs

theorem stored {p : Params} (range : s.params.bankThreshold ≤ 511 → p.bankThreshold ≤ 511) (ident v : Nat) (asked : Int) :
    GangwayMoves a (s.stored p ident v asked).state := hs.next (.parameters p range)

theorem storedBeside {p : Params} (ident v : Nat) (asked : Int) (same : p.bankThreshold = s.params.bankThreshold) :
    GangwayMoves a (s.stored p ident v asked).state := hs.stored (fun range => by rwa [same]) ident v asked

theorem setBucketByte (ident : Nat) (value : Int) (other : Nat) {p : Nat → Params}
    (same : ∀ v, (p v).bankThreshold = s.params.bankThreshold) : GangwayMoves a (s.setBucketByte ident value other p).state :=
  iteAnswer hs (iteAnswer hs (iteAnswer hs (hs.storedBeside _ _ _ (same _))))

theorem paramDecided (ident : Nat) (value : Int) : GangwayMoves a (s.paramDecided ident value).state := by
  unfold State.paramDecided
  split
  case h_1 => exact hs.setBucketByte _ _ _ (fun _ => rfl)
  case h_2 => exact hs.setBucketByte _ _ _ (fun _ => rfl)
  case h_7 =>
    split
    · exact hs
    · exact iteAnswer hs (iteAnswer hs (hs.stored (bankThreshold_store ‹_› value) _ _ _))
  all_goals exact iteAnswer (hs.storedBeside _ _ _ rfl) (iteAnswer (hs.storedBeside _ _ _ rfl) hs)

theorem paramSetWork (ident : Nat) (value : Int) : GangwayMoves a (s.paramSetWork ident value).state := by
  have decided := hs.paramDecided ident value
  exact iteAnswer decided (ite (decided.kept (evaluateJournal_keeps _) rfl) (ite decided.swapCheck decided))

theorem noticeMaskWork (classes : Nat) : GangwayMoves a (s.noticeMaskWork classes).state := by
  unfold State.noticeMaskWork
  split
  · exact hs
  · exact hs.foldl (fun c hu => hu.setLatch c _) _

theorem noticeClearWork (classes : Nat) : GangwayMoves a (s.noticeClearWork classes).state := by
  unfold State.noticeClearWork
  split
  · exact hs
  · exact hs.foldl (fun c hu => hu.setLatch c _) _

/-- R124 and R189: RESTART closes every lane, and keeps the banks, the Roster and the census. -/
theorem blocksRestarted : GangwayMoves a s.blocksRestarted := by
  have closed := (hs.foldl (fun h hu => hu.releaseAmounts h) s.openHolds).next (.lanes Lane.restarted follows_closed)
  refine kept ?_ (evaluateJournal_keeps _) rfl
  exact closed.away rfl

theorem noticeBeforeReply : GangwayMoves a s.noticeBeforeReply := by
  have drawn : GangwayMoves a { s with draws := s.draws + 1 } := hs.away rfl
  exact ite drawn.queueNotice drawn

theorem restartWork : GangwayMoves a s.restartWork.state := by
  have silenced : GangwayMoves a ({ s with link := s.link.withoutNotices } : State).clearLatches := hs.away rfl
  exact iteAnswer hs silenced.blocksRestarted.noticeBeforeReply

/-! ## Persons and cards -/

/-- R7 and R8: the person's record and the census move together; the cabins are away. -/
theorem personWritten (slot : Nat) (i : Identity) : GangwayMoves a (s.personWritten slot i) := by
  have moved (p : Person) (presence : Presence) (old : List Nat) :
      GangwayMoves a ((({ s with persons := s.persons.set slot p } : State).moveCabins slot presence old i.cabins).censusHandoff slot
        ((s.persons.get slot).map Person.standing) (some p.standing)) := by
    have frame := moveCabins_keeps { s with persons := s.persons.set slot p } slot presence old i.cabins
    have census := frame .census (by simp)
    exact (hs.next (.roster slot (some p))).away (.of_parts (frame .params (by simp)) (frame .persons (by simp))
      (frame .lanes (by simp)) (frame .bank0 (by simp)) (frame .bank1 (by simp)) (congrArg (fun c : Census => c.handed _ _) census))
  unfold State.personWritten
  cases held : s.persons.get slot with
  | none =>
    rw [held] at moved
    exact moved (Person.fresh i) _ _
  | some old =>
    rw [held] at moved
    exact moved { old with ident := i } _ _

theorem personPutWork (slot : Nat) (f : PersonFields) : GangwayMoves a (s.personPutWork slot f).state := by
  unfold State.personPutWork
  split
  · exact hs.personWritten slot _
  all_goals exact hs

/-- R10: the person leaves the Roster and the census together. -/
theorem personDropped {slot : Nat} {p : Person} (person : s.persons.get slot = some p) : GangwayMoves a (s.personDropped slot p) := by
  have frame := keeps_foldl _ (fun s n => leaveCabin_keeps s slot p.presence n) p.ident.cabins
    { s with cards := s.cards.keep (fun _ e => decide (e.slot ≠ slot)) }
  have census := frame .census (by simp)
  have persons := frame .persons (by simp)
  have moved := hs.next (.roster slot none)
  rw [person] at moved
  exact moved.away (.of_parts (frame .params (by simp)) (congrArg (fun t : Table Person => t.erase slot) persons)
    (frame .lanes (by simp)) (frame .bank0 (by simp)) (frame .bank1 (by simp)) (congrArg (fun c : Census => c.handed _ _) census))

theorem personDropWork (slot : Nat) : GangwayMoves a (s.personDropWork slot).state := by
  refine iteAnswer hs ?_
  split
  · exact hs
  · exact iteAnswer hs (hs.personDropped ‹_›)

theorem cardEnrolWork (u : RawUid) (slot issue state : Nat) : GangwayMoves a (s.cardEnrolWork u slot issue state).state := by
  unfold State.cardEnrolWork
  split
  · refine iteAnswer hs (iteAnswer hs (iteAnswer hs ?_))
    split
    · exact hs
    · exact hs.kept (enrolled_keeps s _ _) rfl
  · exact hs

theorem cardChange (u : RawUid) (issue : Nat) (change : CardEntry → Except Status CardState) :
    GangwayMoves a (s.cardChange u issue change).state := by
  unfold State.cardChange
  split
  · exact hs
  · split
    · exact hs
    · split
      · exact hs
      · exact hs.away rfl

/-! ## Cabins and doors -/

theorem cabinPutWork (number zone : Nat) : GangwayMoves a (s.cabinPutWork number zone).state := by
  refine iteAnswer hs ?_
  split
  · exact hs.modifyCabin _ _
  · split
    · exact hs
    · exact hs.away rfl

theorem cabinDropWork (number : Nat) : GangwayMoves a (s.cabinDropWork number).state := by
  refine iteAnswer hs ?_
  split
  · exact hs
  · exact iteAnswer hs (hs.away rfl)

theorem privacySetWork (number value : Nat) : GangwayMoves a (s.privacySetWork number value).state := by
  unfold State.privacySetWork
  split
  · exact hs
  · refine iteAnswer hs ?_
    split
    · exact hs
    · exact (hs.modifyCabin _ _).kept (indicatorWork_keeps _ _) rfl

theorem serveOwed (l : Nat) : GangwayMoves a (s.serveOwed l) := by
  refine hs.foldl (fun k hu => ?_) _
  split
  · split
    · exact ite (hu.kept (indicatorWork_keeps _ k) rfl) hu
    · exact hu
  · exact hu

theorem decideDoor (e : Entry) (u : RawUid) (tag : Nat) : GangwayMoves a (s.decideDoor e u tag) :=
  ((hs.sendDecision e _).modifyHead _ _).kept (raisePerson_keeps _ _ _) rfl

theorem applyOpened (e : Entry) (tag : Option Nat) : GangwayMoves a (s.applyOpened e tag) := hs.kept (applyOpened_keeps tag) rfl

theorem modifyCabinOf (h : HeadId) (f : Cabin → Cabin) : GangwayMoves a (s.modifyCabinOf h f) := hs.kept (modifyCabinOf_keeps s h f) rfl

/-! ## Folios, venues and the journal -/

theorem scanCheck (sc : Scan) : GangwayMoves a (s.scanCheck sc) := ite (hs.completeReconcile sc) (hs.away rfl)

theorem folioPutWork (slot : Nat) (f : FolioFields) : GangwayMoves a (s.folioPutWork slot f).state := by
  unfold State.folioPutWork
  split
  · split
    · exact hs.away rfl
    · exact hs.scanCheck _
  all_goals exact hs

theorem scanStep : GangwayMoves a s.scanStep := by
  unfold State.scanStep
  split
  · exact hs
  · exact hs.scanCheck _

theorem folioLimitWork (slot limit : Nat) : GangwayMoves a (s.folioLimitWork slot limit).state :=
  iteAnswer hs (iteAnswer hs (hs.away rfl))

theorem folioStateWork (slot state : Nat) : GangwayMoves a (s.folioStateWork slot state).state := by
  unfold State.folioStateWork
  split
  · exact hs
  · exact iteAnswer hs (iteAnswer hs (hs.away rfl))

theorem folioFreeWork (slot : Nat) : GangwayMoves a (s.folioFreeWork slot).state := by
  refine iteAnswer hs ?_
  split
  · exact hs
  · exact iteAnswer hs (iteAnswer hs (hs.away rfl))

theorem venuePutWork (venue rate eligible : Nat) : GangwayMoves a (s.venuePutWork venue rate eligible).state := by
  unfold State.venuePutWork
  split
  · exact hs
  · exact iteAnswer hs (hs.away rfl)

theorem withUpstream (u : Upstream) : GangwayMoves a (s.withUpstream u) := by
  unfold State.withUpstream
  split
  · exact hs.away rfl
  · exact hs.away rfl
  · exact hs
  · exact hs

theorem upstreamSetWork (value : Nat) : GangwayMoves a (s.upstreamSetWork value).state := by
  unfold State.upstreamSetWork
  split
  · exact hs
  · exact hs.withUpstream _

theorem journalBaseWork (number : Nat) : GangwayMoves a (s.journalBaseWork number).state :=
  iteAnswer hs (iteAnswer hs (iteAnswer hs ((hs.kept (journalBased_keeps s number) rfl).kept (evaluateJournal_keeps _) rfl)))

theorem chargesRetireWork (number : Nat) : GangwayMoves a (s.chargesRetireWork number).state :=
  iteAnswer hs (iteAnswer hs (hs.kept (retired_keeps s _) rfl))

/-! ## Purchases and holds -/

theorem openHold (id : HeadId) (h : Hold) : GangwayMoves a (s.openHold id h) := by
  have reserved := ((hs.modifyFolio h.folio (fun f => f.reserved h s.epoch)).modifyPerson h.slot (f := fun p => p.reserved h)
    (fun _ => rfl)).modifyHead id (fun hd => { hd with hold := some h })
  exact ite (reserved.raise _ _) reserved

theorem decideAuth (e : Entry) (venue : Nat) (u : RawUid) (tag : Nat) (raw : List RawLine) :
    GangwayMoves a (s.decideAuth e venue u tag raw) := by
  unfold State.decideAuth
  split
  · exact hs.sendDecision e _
  · exact (hs.openHold _ _).sendDecision e _

theorem decidePurchase (e : Entry) (u : RawUid) (tag : Nat) (raw : List RawLine) : GangwayMoves a (s.decidePurchase e u tag raw) := by
  unfold State.decidePurchase
  split
  · exact hs
  · split
    · exact hs.decideAuth e _ u tag raw
    · exact ite (hs.sendDecision e _) ((hs.releaseHold _ _).decideAuth e _ u tag raw)

theorem deferConfirm (e : Entry) (tag : Nat) (h : Hold) : GangwayMoves a (s.deferConfirm e tag h) := by
  have joined : GangwayMoves a { s.modifyHead e.head (fun hd => { hd with hold := some { h with confirming := true } }) with
      deferred := s.deferred ++ [⟨e.head, tag, none⟩] } := hs.away rfl
  exact joined.giveBackEntry e

theorem confirmNow (e : Entry) (tag : Nat) (h : Hold) : GangwayMoves a (s.confirmNow e tag h) :=
  ((hs.applyConfirm h).modifyHead _ _).sendDecision e _

theorem decideConfirm (e : Entry) (tag : Nat) : GangwayMoves a (s.decideConfirm e tag) := by
  unfold State.decideConfirm
  split
  · exact hs.sendDecision e _
  · exact ite (hs.sendDecision e _) (ite (hs.giveBackEntry e) (ite (hs.deferConfirm e tag _) (hs.confirmNow e tag _)))

theorem releaseTagged (id : HeadId) (tag : Nat) : GangwayMoves a (s.releaseTagged id tag) := by
  unfold State.releaseTagged
  split
  · exact hs
  · exact ite (hs.releaseHold id _) hs

theorem expireHold (id : HeadId) : GangwayMoves a (s.expireHold id) := by
  unfold State.expireHold
  split
  · exact hs
  · exact ite (hs.passTime _) ((hs.passTime _).releaseHold id _)

theorem takePurchase {handle : Entry → Option (State → State)}
    (ha : ∀ {e apply u}, handle e = some apply → GangwayMoves a u → GangwayMoves a (apply u)) :
    GangwayMoves a (s.takePurchase handle) := ite hs (hs.takeOldest _ ha)

theorem takeConfirm : GangwayMoves a s.takeConfirm := by
  unfold State.takeConfirm
  split
  · exact hs
  · split
    · refine ite (hs.away rfl) (hs.takePurchase ?_)
      rintro e _ u ⟨⟩ hu
      exact hu.decideConfirm e _
    · exact hs

/-! ## Lanes -/

theorem lanePutWork (n direction mode : Nat) : GangwayMoves a (s.lanePutWork n direction mode).state := by
  unfold State.lanePutWork
  split
  · exact iteAnswer hs (iteAnswer hs (hs.setLane n (.of_same rfl rfl rfl rfl)))
  · exact hs

theorem laneOpenWork (n : Nat) : GangwayMoves a (s.laneOpenWork n).state := by
  refine iteAnswer hs ?_
  dsimp only
  split
  · exact iteAnswer (hs.setLane n (follows_opened ‹_›)) hs
  all_goals exact hs

theorem laneHoldWork (n : Nat) : GangwayMoves a (s.laneHoldWork n).state := by
  refine iteAnswer hs ?_
  dsimp only
  split
  · exact hs
  · exact hs.setLane n (follows_hostHeld _)
  · rename_i held
    exact hs.setLane n (.of_samePending (fun _ => ⟨by simp [held], by simp [held]⟩) rfl)

theorem laneReleaseWork (n : Nat) : GangwayMoves a (s.laneReleaseWork n).state := by
  refine iteAnswer hs ?_
  dsimp only
  split
  · exact hs
  · exact hs
  · exact hs.setLane n (follows_released _)

theorem endForClose (n : Nat) : GangwayMoves a (s.endForClose n) := by
  unfold State.endForClose
  split
  · exact hs
  · split
    · exact hs.commitCrossing ‹_› _
    all_goals exact hs.abandonCrossing n

theorem laneCloseWork (n : Nat) : GangwayMoves a (s.laneCloseWork n).state := by
  refine iteAnswer hs ?_
  split
  · exact hs
  all_goals exact (hs.endForClose n).closeLane n

theorem refuseTap (n : Nat) (e : Entry) (tag : Nat) (code : LaneRefusal) : GangwayMoves a (s.refuseTap n e tag code) :=
  (hs.setLane n (la := { s.lane n with refused := bump (s.lane n).refused }) (.of_same rfl rfl rfl rfl)).sendDecision e _

/-- R114 and R115: a crossing begins when there is room, on a lane that is OPEN, for a person whom no other crossing names. -/
theorem admitTap {n slot : Nat} (opened : (s.lane n).state = .OPEN) (unnamed : s.crossingNames slot = false) (e : Entry) (tag : Nat)
    (p : Person) : GangwayMoves a (s.admitTap n e tag slot p) := by
  by_cases room : s.filling.records.length + s.pendings.length < s.roomLimit
  · rw [admitTap_of_room room]
    exact (hs.next (.begun n _ opened (by rwa [slot_newCrossing]) room)).sendDecision e _
  · rw [admitTap_of_noRoom room]
    exact (hs.addBankHolds.raise _ _).refuseTap n e tag _

theorem crossTap {n : Nat} (opened : (s.lane n).state = .OPEN) (e : Entry) (tag slot : Nat) (p : Person) :
    GangwayMoves a (s.crossTap n e tag slot p) := by
  by_cases own : ∃ pc, (s.lane n).pending = some pc ∧ pc.slot = slot
  · obtain ⟨pc, crossing, same⟩ := own
    rw [crossTap_of_own crossing same]
    exact hs.sendDecision e _
  have notOwn : ∀ pc, (s.lane n).pending = some pc → pc.slot ≠ slot := fun pc crossing same => own ⟨pc, crossing, same⟩
  cases unnamed : s.crossingNames slot with
  | true =>
    rw [crossTap_of_named notOwn unnamed]
    exact hs.refuseTap n e tag _
  | false =>
    cases crossing : (s.lane n).pending with
    | none =>
      rw [crossTap_of_free crossing unnamed]
      exact hs.admitTap opened unnamed e tag p
    | some pc =>
      by_cases next : pc.stage = .AWAIT_NEXT
      · rw [crossTap_of_next crossing (notOwn pc crossing) unnamed next]
        cases person : s.persons.get pc.slot with
        | none =>
          rw [commitCrossing_of_noPerson person]
          exact hs.admitTap opened unnamed e tag p
        | some q =>
          exact (hs.commitCrossing crossing _).admitTap (open_commitCrossing person opened)
            (crossingNames_commitCrossing person unnamed) e tag p
      · rw [crossTap_of_busy crossing (notOwn pc crossing) unnamed next]
        exact hs.refuseTap n e tag _

theorem cardTap {n : Nat} (opened : (s.lane n).state = .OPEN) (e : Entry) (u : RawUid) (tag : Nat) :
    GangwayMoves a (s.cardTap n e u tag) := by
  have refused := hs.refuseTap n e tag
  unfold State.cardTap
  split
  · exact refused _
  · split
    · exact refused _
    · exact refused _
    · split
      · exact refused _
      · exact ite ((hs.raise _ _).refuseTap n e tag _) (hs.crossTap opened e tag _ _)

theorem decideLane (e : Entry) (u : RawUid) (tag : Nat) : GangwayMoves a (s.decideLane e u tag) := by
  have refused := hs.refuseTap (s.laneOfHead e.head) e tag
  refine ite (refused _) ?_
  split
  · exact refused _
  · exact refused _
  · exact hs.cardTap ‹_› e u tag

theorem applyPassed (n : Nat) : GangwayMoves a (s.applyPassed n) := by
  unfold State.applyPassed
  split
  · exact hs.commitCrossing ‹_› _
  · exact (hs.setLane n (la := { s.lane n with tailgates := bump (s.lane n).tailgates }) (.of_same rfl rfl rfl rfl)).raise _ _

theorem applyAccept (n : Nat) : GangwayMoves a (s.applyAccept n) := by
  unfold State.applyAccept
  dsimp only
  split
  · rename_i crossing
    exact hs.setLane n (follows_crossing crossing rfl)
  · exact hs

theorem applyReject (n : Nat) : GangwayMoves a (s.applyReject n) := by
  unfold State.applyReject
  split
  · exact hs.abandonCrossing n
  · exact hs

theorem staleCrossing (n tag : Nat) : GangwayMoves a (s.staleCrossing n tag) := by
  unfold State.staleCrossing
  split
  · exact ite (hs.loseCrossing n) hs
  · exact hs

theorem expirePending (n : Nat) : GangwayMoves a (s.expirePending n) := by
  unfold State.expirePending
  split
  · exact hs
  · split
    · exact (hs.passTime _).abandonCrossing n
    · exact (hs.passTime _).commitCrossing ‹_› _
    · exact hs

theorem expireOfficer (n : Nat) : GangwayMoves a (s.expireOfficer n) := by
  unfold State.expireOfficer
  split
  · exact hs
  · split
    · exact (hs.passTime _).abandonCrossing n
    all_goals exact hs

/-! ## Banks and the sweeper -/

theorem bankFlushWork : GangwayMoves a s.bankFlushWork.state := iteAnswer hs (iteAnswer hs hs.swapBanks)

theorem bankReleaseWork (n : Nat) : GangwayMoves a (s.bankReleaseWork n).state := by
  unfold State.bankReleaseWork
  split
  · exact hs
  · split
    · exact hs
    · rename_i number readable
      have emptied := hs.next (.emptied n (Nat.not_lt.1 number) (Decidable.not_not.1 readable))
      exact ite emptied.swapBanks emptied.removeBankHolds

theorem crossingBaseWork (number : Nat) : GangwayMoves a (s.crossingBaseWork number).state :=
  iteAnswer hs (iteAnswer hs (hs.away rfl))

theorem presenceSet {slot : Nat} {p : Person} (person : s.persons.get slot = some p)
    (room : s.filling.records.length + s.pendings.length < s.roomLimit) (after : Presence) :
    GangwayMoves a (s.presenceSet slot p after) :=
  ((hs.changePresence person after).next (.recorded _ (room_changePresence room))).swapCheck

theorem presenceSetWork (slot presence : Nat) : GangwayMoves a (s.presenceSetWork slot presence).state := by
  unfold State.presenceSetWork
  split
  · exact hs
  · refine iteAnswer hs ?_
    split
    · exact hs
    · refine iteAnswer hs ?_
      split
      · exact hs
      · rename_i room
        exact hs.presenceSet ‹_› (by simpa [State.hasRoom] using room) _

theorem allaboardStartWork : GangwayMoves a s.allaboardStartWork.state := by
  unfold State.allaboardStartWork
  split
  · exact hs
  all_goals exact hs.away rfl

theorem sweep : GangwayMoves a s.sweep := by
  have examined : GangwayMoves a { s with sweeper := s.examined } := hs.away rfl
  unfold State.sweep
  split
  · exact hs
  · exact hs
  · exact ite (examined.away rfl) examined

/-! ## Heads -/

theorem setHead (h : HeadId) (hd : Head) : GangwayMoves a (s.setHead h hd) := hs.away rfl

theorem unbind (cls : HeadClass) (bound : Nat) : GangwayMoves a (s.unbind cls bound) := by
  cases cls with
  | CABIN_DOOR => exact hs.kept (unbindCabin_keeps s bound) rfl
  | VENUE_TERMINAL => exact hs
  | GANGWAY_LANE => exact hs.setLane bound (.of_same rfl rfl rfl rfl)

theorem bind (h : HeadId) (cls : HeadClass) (bound : Nat) : GangwayMoves a (s.bind h cls bound) := by
  cases cls with
  | CABIN_DOOR => exact hs.kept (bindCabin_keeps s bound h) rfl
  | VENUE_TERMINAL => exact hs
  | GANGWAY_LANE => exact hs.setLane bound (.of_same rfl rfl rfl rfl)

theorem endInHand (h : HeadId) : GangwayMoves a (s.endInHand h) := ((hs.leaveOnline h).kept (tuneFrameEnds_keeps _ h) rfl).modifyHead h _

theorem raiseRecovered (h : HeadId) (was : HeadState) : GangwayMoves a (s.raiseRecovered h was) :=
  hs.kept (raiseRecovered_keeps s h was) rfl

theorem headPutWork (h : HeadId) (f : HeadFields) : GangwayMoves a (s.headPutWork h f).state := by
  have changed (hd : Head) (cls : HeadClass) : GangwayMoves a (s.headChanged h hd cls f) :=
    ((((hs.endInHand h).unbind _ _).bind h cls f.bound).modifyHead h _).raiseRecovered h _
  unfold State.headPutWork
  split
  · exact hs
  · split
    · exact hs
    · split
      · exact (hs.setHead h _).bind h _ f.bound
      · exact iteAnswer (hs.modifyHead h _) (changed _ _)

theorem headDropped (h : HeadId) (hd : Head) : GangwayMoves a (s.headDropped h hd) := by
  have unbound := ((hs.endInHand h).modifyLine h.line (fun ln => ln.dropHead h.address)).unbind hd.cls hd.bound
  refine raiseRecovered ?_ h _
  exact unbound.away rfl

theorem headDropWork (h : HeadId) : GangwayMoves a (s.headDropWork h).state := by
  refine iteAnswer hs ?_
  split
  · exact hs
  · exact hs.headDropped h _

theorem headTuneWork (h : HeadId) (kind : Nat) : GangwayMoves a (s.headTuneWork h kind).state := by
  unfold State.headTuneWork
  split
  · exact hs
  · refine iteAnswer hs ?_
    split
    · exact hs
    · exact iteAnswer hs (iteAnswer hs (hs.startTune h _))

theorem settingsPushWork (l dest : Nat) (page : List Byte) (map : Option (List Byte)) :
    GangwayMoves a (s.settingsPushWork l dest page map).state := by
  unfold State.settingsPushWork
  split
  · exact hs
  · exact ite (hs.away rfl) (hs.modifyLine l _)

theorem enqueuePush (l : Nat) : GangwayMoves a (s.enqueuePush l) := by
  unfold State.enqueuePush
  dsimp only
  split
  · exact hs
  · exact ite (hs.away rfl) hs

theorem enqueueWaitingTune (h : HeadId) : GangwayMoves a (s.enqueueWaitingTune h) := by
  unfold State.enqueueWaitingTune
  split
  · exact hs
  · exact ite (hs.kept (enqueueTune_keeps s h _) rfl) hs

theorem expireTune (h : HeadId) : GangwayMoves a (s.expireTune h) := by
  unfold State.expireTune
  split
  · exact hs
  · split
    · exact (hs.passTime _).faultHead h _ _
    · exact hs

theorem expireRetry (h : HeadId) : GangwayMoves a (s.expireRetry h) := by
  unfold State.expireRetry
  split
  · exact hs
  · split
    · exact hs.away rfl
    · exact hs

theorem becomeDue (h : HeadId) : GangwayMoves a (s.becomeDue h) := by
  unfold State.becomeDue
  split
  · exact hs
  · split
    · exact hs.away rfl
    · exact hs

theorem becomeOverdue (h : HeadId) : GangwayMoves a (s.becomeOverdue h) := by
  unfold State.becomeOverdue
  split
  · exact hs
  · split
    · exact ite hs (hs.away rfl)
    · exact hs

/-! ## Reader lines -/

theorem lineStartWork (l : Nat) : GangwayMoves a (s.lineStartWork l).state := by
  have running : GangwayMoves a (s.setLine l { Line.powerOn with state := .RUNNING }) := hs.away rfl
  exact iteAnswer hs (iteAnswer hs (running.foldl (fun h hu => hu.modifyHead h _) _))

theorem lineEmptied (l : Nat) : GangwayMoves a (s.lineEmptied l) := by
  unfold State.lineEmptied
  dsimp only
  split
  · exact (hs.kept (giveBackIntake_keeps s _) rfl).modifyLine l _
  · exact hs.modifyLine l _

theorem stopHead (h : HeadId) : GangwayMoves a (s.stopHead h) := by
  unfold State.stopHead
  split
  · exact hs
  · exact ((hs.leaveOnline h).modifyHead h _).raiseRecovered h _

theorem lineStopWork (l : Nat) : GangwayMoves a (s.lineStopWork l).state :=
  iteAnswer hs (iteAnswer (((hs.lineEmptied l).foldl (fun h hu => hu.stopHead h) _).modifyLine l _) hs)

theorem count (l : Nat) (f : LineCounters → LineCounters) : GangwayMoves a (s.count l f) := hs.modifyLine l _

theorem beginTurn (l : Nat) (t : Turn) : GangwayMoves a (s.beginTurn l t) := (hs.modifyLine l _).count l _

theorem beginPoll (l address : Nat) (f : TurnFrame) : GangwayMoves a (s.beginPoll l address f) := by
  unfold State.beginPoll
  dsimp only
  split
  · exact (((hs.kept (setIntake_keeps s _ _) rfl).modifyLine l _).modifyLine l _).beginTurn l _
  · exact (hs.modifyLine l _).beginTurn l _

theorem startTurn (l : Nat) : GangwayMoves a (s.startTurn l) := by
  unfold State.startTurn
  dsimp only
  split
  · split
    · exact hs.beginTurn l _
    · split
      · exact hs.beginPoll l _ _
      · exact hs
  · exact hs

theorem endTurn (l : Nat) (t : Turn) : GangwayMoves a (s.endTurn l t) := hs.kept (endTurn_keeps s l t) rfl

theorem groupSent (l : Nat) : GangwayMoves a (s.groupSent l) := by
  unfold State.groupSent
  split
  · exact ite hs ((hs.endTurn l _).modifyLine l _)
  · exact hs

theorem missTurn (h : HeadId) : GangwayMoves a (s.missTurn h) := by
  unfold State.missTurn
  split
  · exact hs
  · exact ite (ite ((hs.modifyHead h _).faultHead h _ _) (hs.modifyHead h _)) hs

theorem failTurn (l : Nat) (t : Turn) : GangwayMoves a (s.failTurn l t) := by
  have ended := ((hs.endTurn l t).count l (fun c => { c with failed := bump c.failed })).giveBackPoll l t.holds
  have missed : GangwayMoves a (if t.dropped then _ else State.missTurn _ _) := ite ended (ended.missTurn ⟨l, t.target⟩)
  unfold State.failTurn
  dsimp only
  split
  · exact missed.kept (frameFailed_keeps _ _ _ _) rfl
  all_goals exact missed

theorem failAttempt (l : Nat) (t : Turn) : GangwayMoves a (s.failAttempt l t) := ite (hs.failTurn l t) (hs.away rfl)

theorem routeEvent (h : HeadId) (hd : Head) (holds : Option HeadClass) (kind : Nat) (p : List Byte) :
    GangwayMoves a (s.routeEvent h hd holds kind p) := by
  refine ite ((hs.giveBackPoll _ holds).faultHead h _ _) ?_
  split
  · exact hs.kept (enterIntake_keeps s h _ _) rfl
  · exact (hs.giveBackPoll _ holds).count _ _

theorem takeEvent (h : HeadId) (hd : Head) (holds : Option HeadClass) (seq lost kind : Nat) (p : List Byte) :
    GangwayMoves a (s.takeEvent h hd holds seq lost kind p) :=
  ite ((hs.giveBackPoll _ holds).count _ _) (((hs.modifyHead h _).count _ _).routeEvent h hd holds kind p)

theorem takeIdent (h : HeadId) (hd : Head) (code : Nat) : GangwayMoves a (s.takeIdent h hd code) :=
  ite (ite ((hs.modifyHead h _).schedule _) ((hs.modifyHead h _).faultHead h _ _)) hs

theorem takeStale (h : HeadId) (hd : Head) (x : FrameContent) : GangwayMoves a (s.takeStale h hd x) := by
  unfold State.takeStale
  split
  · exact hs.modifyHead h _
  · exact hs.releaseTagged h _
  · exact hs.staleCrossing _ _
  · exact hs.staleCrossing _ _
  · exact hs

theorem takeAck (h : HeadId) (x : FrameContent) : GangwayMoves a (s.takeAck h x) := by
  have segment (more : Bool) : GangwayMoves a (s.takeSegmentAck h more) := by
    unfold State.takeSegmentAck
    split
    · exact hs
    · exact ite hs (ite (hs.modifyLine _ _) (hs.away rfl))
  unfold State.takeAck
  split
  · exact segment _
  all_goals exact hs

theorem takeAnswer (h : HeadId) (hd : Head) (t : Turn) (answer : HeadAnswer) : GangwayMoves a (s.takeAnswer h hd t answer) := by
  cases answer with
  | noEvent => exact hs.giveBackPoll _ _
  | event seq lost kind p => exact ite (hs.takeEvent h hd _ seq lost kind p) (hs.giveBackPoll _ _)
  | tuning => exact hs
  | tuneDone low high field => exact ite (hs.finishTune h hd low high field) hs
  | ident code => exact hs.takeIdent h hd code
  | taken => exact hs
  | stale =>
    unfold State.takeAnswer
    dsimp only
    split
    · exact ite (hs.takeStale h hd _) hs
    · exact hs
  | ack =>
    unfold State.takeAnswer
    dsimp only
    split
    · exact hs.takeAck h _
    · exact hs

theorem goodAnswer (l : Nat) (t : Turn) (answer : HeadAnswer) : GangwayMoves a (s.goodAnswer l t answer) := by
  have ended := hs.endTurn l t
  unfold State.goodAnswer
  dsimp only
  split
  · exact ended.giveBackPoll l _
  · exact (ended.modifyHead _ _).takeAnswer _ _ t answer

theorem receiveAnswer (l : Nat) (bytes : List Byte) : GangwayMoves a (s.receiveAnswer l bytes) := by
  unfold State.receiveAnswer
  split
  · exact hs
  · split
    · exact hs.goodAnswer l _ _
    all_goals exact (hs.count l _).failAttempt l _

theorem answerLate (l : Nat) : GangwayMoves a (s.answerLate l) := by
  unfold State.answerLate
  split
  · exact hs
  · exact hs.failAttempt l _

end Sys2Proof.Machine.GangwayMoves
end

section
/-! PROOFS. Every command makes only moves of the gangway, and so does every step: the laws of the lanes, the banks, the crossings and the
census hold after a step when they held before it. -/

namespace Sys2Proof.Machine

open Sys2Proof

/-- Every command answers a next state, which moves lead to. -/
theorem exec_moves (s : State) (c : Instr) : ∃ u, exec c s = .next u ∧ GangwayMoves s u := by
  have hs := GangwayMoves.refl (a := s)
  cases c with
  | powerOnReset => exact ⟨_, rfl, hs.next (.reset rfl)⟩
  | requestFrameTaken bytes => exact ⟨_, rfl, hs.transact bytes⟩
  | truncatedFrame bytes => exact ⟨_, rfl, hs.transact bytes⟩
  | readTransaction count => exact ⟨_, rfl, .ite hs (hs.readMessage _)⟩
  | noticeQueued => exact ⟨_, rfl, hs.queueNotice⟩
  | shipClockTick => exact ⟨_, rfl, hs.passTime _⟩
  | clockSet tag time => exact ⟨_, rfl, hs.serve _ (fun hu => hu.clockSetWork time)⟩
  | clockGet tag => exact ⟨_, rfl, hs.serveRead _ (fun u => u.clockGetWork_state)⟩
  | paramSet tag ident value => exact ⟨_, rfl, hs.serve _ (fun hu => hu.paramSetWork ident value)⟩
  | paramGet tag ident => exact ⟨_, rfl, hs.serveRead _ (fun u => u.paramGetWork_state ident)⟩
  | noticeMask tag classes => exact ⟨_, rfl, hs.serve _ (fun hu => hu.noticeMaskWork classes)⟩
  | noticeClear tag classes => exact ⟨_, rfl, hs.serve _ (fun hu => hu.noticeClearWork classes)⟩
  | statusGet tag => exact ⟨_, rfl, hs.serveRead _ (fun u => u.statusGetWork_state)⟩
  | restart tag => exact ⟨_, rfl, hs.serve _ (fun hu => hu.restartWork)⟩
  | personPut tag slot fields => exact ⟨_, rfl, hs.serve _ (fun hu => hu.personPutWork slot fields)⟩
  | personGet tag selector value => exact ⟨_, rfl, hs.serveRead _ (fun u => u.personGetWork_state selector value)⟩
  | personDrop tag slot => exact ⟨_, rfl, hs.serve _ (fun hu => hu.personDropWork slot)⟩
  | cardEnrol tag uid slot issue state => exact ⟨_, rfl, hs.serve _ (fun hu => hu.cardEnrolWork uid slot issue state)⟩
  | cardRevoke tag uid issue => exact ⟨_, rfl, hs.serve _ (fun hu => hu.cardChange _ _ _)⟩
  | cardSuspend tag uid issue => exact ⟨_, rfl, hs.serve _ (fun hu => hu.cardChange _ _ _)⟩
  | cardResume tag uid issue => exact ⟨_, rfl, hs.serve _ (fun hu => hu.cardChange _ _ _)⟩
  | cardFind tag uid => exact ⟨_, rfl, hs.serveRead _ (fun u => u.cardFindWork_state uid)⟩
  | cardPurge tag => exact ⟨_, rfl, hs.serve _ (fun hu => hu.away rfl)⟩
  | cabinPut tag number zone => exact ⟨_, rfl, hs.serve _ (fun hu => hu.cabinPutWork number zone)⟩
  | cabinGet tag number => exact ⟨_, rfl, hs.serveRead _ (fun u => u.cabinGetWork_state number)⟩
  | cabinDrop tag number => exact ⟨_, rfl, hs.serve _ (fun hu => hu.cabinDropWork number)⟩
  | privacySet tag number value => exact ⟨_, rfl, hs.serve _ (fun hu => hu.privacySetWork number value)⟩
  | indicatorOnRoom line => exact ⟨_, rfl, hs.serveOwed line⟩
  | folioPut tag slot fields => exact ⟨_, rfl, hs.serve _ (fun hu => hu.folioPutWork slot fields)⟩
  | reconcileScanStep => exact ⟨_, rfl, hs.scanStep⟩
  | folioLimit tag slot limit => exact ⟨_, rfl, hs.serve _ (fun hu => hu.folioLimitWork slot limit)⟩
  | folioState tag slot state => exact ⟨_, rfl, hs.serve _ (fun hu => hu.folioStateWork slot state)⟩
  | folioGet tag selector value => exact ⟨_, rfl, hs.serveRead _ (fun u => u.folioGetWork_state selector value)⟩
  | folioFree tag slot => exact ⟨_, rfl, hs.serve _ (fun hu => hu.folioFreeWork slot)⟩
  | venuePut tag venue rate eligible => exact ⟨_, rfl, hs.serve _ (fun hu => hu.venuePutWork venue rate eligible)⟩
  | upstreamSet tag value => exact ⟨_, rfl, hs.serve _ (fun hu => hu.upstreamSetWork value)⟩
  | journalBase tag number => exact ⟨_, rfl, hs.serve _ (fun hu => hu.journalBaseWork number)⟩
  | chargesRead tag start count => exact ⟨_, rfl, hs.serveRead _ (fun u => u.chargesReadWork_state start count)⟩
  | chargesRetire tag number => exact ⟨_, rfl, hs.serve _ (fun hu => hu.chargesRetireWork number)⟩
  | lanePut tag lane direction mode => exact ⟨_, rfl, hs.serve _ (fun hu => hu.lanePutWork lane direction mode)⟩
  | laneOpen tag lane => exact ⟨_, rfl, hs.serve _ (fun hu => hu.laneOpenWork lane)⟩
  | laneHold tag lane => exact ⟨_, rfl, hs.serve _ (fun hu => hu.laneHoldWork lane)⟩
  | laneRelease tag lane => exact ⟨_, rfl, hs.serve _ (fun hu => hu.laneReleaseWork lane)⟩
  | laneClose tag lane => exact ⟨_, rfl, hs.serve _ (fun hu => hu.laneCloseWork lane)⟩
  | laneGet tag lane => exact ⟨_, rfl, hs.serveRead _ (fun u => u.laneGetWork_state lane)⟩
  | bankFlush tag => exact ⟨_, rfl, hs.serve _ (fun hu => hu.bankFlushWork)⟩
  | crossingsRead tag start count => exact ⟨_, rfl, hs.serveRead _ (fun u => u.crossingsReadWork_state start count)⟩
  | bankRelease tag bank => exact ⟨_, rfl, hs.serve _ (fun hu => hu.bankReleaseWork bank)⟩
  | crossingBase tag number => exact ⟨_, rfl, hs.serve _ (fun hu => hu.crossingBaseWork number)⟩
  | presenceSet tag slot presence => exact ⟨_, rfl, hs.serve _ (fun hu => hu.presenceSetWork slot presence)⟩
  | censusGet tag => exact ⟨_, rfl, hs.serveRead _ (fun u => u.censusGetWork_state)⟩
  | allaboardStart tag => exact ⟨_, rfl, hs.serve _ (fun hu => hu.allaboardStartWork)⟩
  | sweepStep => exact ⟨_, rfl, hs.sweep⟩
  | missingRead tag start count => exact ⟨_, rfl, hs.serveRead _ (fun u => u.missingReadWork_state start count)⟩
  | lineStart tag line => exact ⟨_, rfl, hs.serve _ (fun hu => hu.lineStartWork line)⟩
  | lineStop tag line => exact ⟨_, rfl, hs.serve _ (fun hu => hu.lineStopWork line)⟩
  | lineGet tag line => exact ⟨_, rfl, hs.serveRead _ (fun u => u.lineGetWork_state line)⟩
  | headPut tag line address fields => exact ⟨_, rfl, hs.serve _ (fun hu => hu.headPutWork ⟨line, address⟩ fields)⟩
  | headDrop tag line address => exact ⟨_, rfl, hs.serve _ (fun hu => hu.headDropWork ⟨line, address⟩)⟩
  | headGet tag line address => exact ⟨_, rfl, hs.serveRead _ (fun u => u.headGetWork_state ⟨line, address⟩)⟩
  | headTune tag line address kind => exact ⟨_, rfl, hs.serve _ (fun hu => hu.headTuneWork ⟨line, address⟩ kind)⟩
  | settingsPush tag line dest page map => exact ⟨_, rfl, hs.serve _ (fun hu => hu.settingsPushWork line dest page map)⟩
  | settingsPushEnqueue line => exact ⟨_, rfl, hs.enqueuePush line⟩
  | turnStart line => exact ⟨_, rfl, hs.startTurn line⟩
  | groupFrameSent line => exact ⟨_, rfl, hs.groupSent line⟩
  | answerReceived line bytes => exact ⟨_, rfl, hs.receiveAnswer line bytes⟩
  | answerTimeout line => exact ⟨_, rfl, hs.answerLate line⟩
  | doorTap =>
    refine ⟨_, rfl, hs.takeOldest _ fun h hu => ?_⟩
    split at h <;> cases h
    exact hu.decideDoor _ _ _
  | opened =>
    refine ⟨_, rfl, hs.takeOldest _ fun h hu => ?_⟩
    split at h <;> cases h
    exact hu.applyOpened _ _
  | notOpened =>
    refine ⟨_, rfl, hs.takeOldest _ fun h hu => ?_⟩
    split at h <;> cases h
    exact hu.modifyHead _ _
  | privacyOn =>
    refine ⟨_, rfl, hs.takeOldest _ fun h hu => ?_⟩
    split at h <;> cases h
    exact hu.modifyCabinOf _ _
  | privacyOff =>
    refine ⟨_, rfl, hs.takeOldest _ fun h hu => ?_⟩
    split at h <;> cases h
    exact hu.modifyCabinOf _ _
  | deadboltOn =>
    refine ⟨_, rfl, hs.takeOldest _ fun h hu => ?_⟩
    split at h <;> cases h
    exact hu.modifyCabinOf _ _
  | deadboltOff =>
    refine ⟨_, rfl, hs.takeOldest _ fun h hu => ?_⟩
    split at h <;> cases h
    exact hu.modifyCabinOf _ _
  | purchaseTap =>
    refine ⟨_, rfl, hs.takePurchase fun h hu => ?_⟩
    split at h <;> cases h
    exact hu.decidePurchase _ _ _ _
  | confirm => exact ⟨_, rfl, hs.takeConfirm⟩
  | void =>
    refine ⟨_, rfl, hs.takePurchase fun h hu => ?_⟩
    split at h <;> cases h
    exact hu.releaseTagged _ _
  | holdExpiry line address => exact ⟨_, rfl, hs.expireHold ⟨line, address⟩⟩
  | laneTap =>
    refine ⟨_, rfl, hs.takeOldest _ fun h hu => ?_⟩
    split at h <;> cases h
    exact hu.decideLane _ _ _
  | passed =>
    refine ⟨_, rfl, hs.takeOldest _ fun h hu => ?_⟩
    split at h <;> cases h
    exact hu.applyPassed _
  | officerAccept =>
    refine ⟨_, rfl, hs.takeOldest _ fun h hu => ?_⟩
    split at h <;> cases h
    exact hu.applyAccept _
  | officerReject =>
    refine ⟨_, rfl, hs.takeOldest _ fun h hu => ?_⟩
    split at h <;> cases h
    exact hu.applyReject _
  | pendingTimeout lane => exact ⟨_, rfl, hs.expirePending lane⟩
  | officerWaitExpiry lane => exact ⟨_, rfl, hs.expireOfficer lane⟩
  | tuneStart => exact ⟨_, rfl, hs.scheduleOne⟩
  | tuneFrameEnqueue line address => exact ⟨_, rfl, hs.enqueueWaitingTune ⟨line, address⟩⟩
  | tuneTimeout line address => exact ⟨_, rfl, hs.expireTune ⟨line, address⟩⟩
  | faultRetryExpiry line address => exact ⟨_, rfl, hs.expireRetry ⟨line, address⟩⟩
  | headDueForTune line address => exact ⟨_, rfl, hs.becomeDue ⟨line, address⟩⟩
  | tuneOverdue line address => exact ⟨_, rfl, hs.becomeOverdue ⟨line, address⟩⟩

/-- A step makes only moves: the command at the front of the queue does, and the passing of a millisecond is away from the gangway. -/
theorem step_moves {s t : State} (h : step s = .next t) : GangwayMoves s t := by
  unfold step at h
  split at h
  · cases h
    exact GangwayMoves.refl.passTime 1
  · rename_i c rest _
    obtain ⟨u, next, moves⟩ := exec_moves { s with pending := rest } c
    rw [next] at h
    cases h
    exact moves.after rfl

/-- Settles O57: each law is kept by every move of the gangway, the room of the banks with the banks' own law, and the laws that count the
crossings with the lanes' canonical form. -/
theorem stepKeepsBankAndLaneLaws : Obligations.StepKeepsBankAndLaneLaws := by
  refine ⟨fun s t law h => ?banks, fun s t law h => ?lanes, fun s t wf banks law h => ?room, fun s t wf law h => ?crossings⟩
  case banks => exact (step_moves h).invariant (fun move law => move.bankLaw law) law
  case lanes => exact (step_moves h).invariant (fun move law => move.laneLaw law) law
  case room =>
    have kept := (step_moves h).invariant (P := fun s => s.lanes.wf = true ∧ s.bankLaw ∧ s.roomLaw)
      (fun move ⟨wf, banks, law⟩ => ⟨move.lanes_wf wf, move.bankLaw banks, move.roomLaw wf banks law⟩) ⟨wf, banks, law⟩
    exact kept.2.2
  case crossings =>
    have kept := (step_moves h).invariant (P := fun s => s.lanes.wf = true ∧ s.crossingLaw)
      (fun move ⟨wf, law⟩ => ⟨move.lanes_wf wf, move.crossingLaw wf law⟩) ⟨wf, law⟩
    exact kept.2

/-- Settles O58: every move that changes a standing hands it to the census. -/
theorem stepKeepsCensusLaw : Obligations.StepKeepsCensusLaw := by
  intro s t wf law h
  have kept := (step_moves h).invariant (P := fun s => s.persons.wf = true ∧ s.censusLaw)
    (fun move ⟨wf, law⟩ => ⟨move.persons_wf wf, move.censusLaw wf law⟩) ⟨wf, law⟩
  exact kept.2

end Sys2Proof.Machine
end

section
/-! PROOFS. ALLABOARD START and the steps of the sweep (R138, R139). -/

namespace Sys2Proof.Machine

open Sys2Proof

variable {s : State} {slot : Nat}

/-! ## One examination (R139) -/

theorem missingAt_iff : s.missingAt slot = true ↔
    ∃ p, s.persons.get slot = some p ∧ p.ident.category ≠ .VISITOR ∧ p.presence = .ASHORE ∧ p.ident.excused = false := by
  rw [State.missingAt, Option.any_eq_true]
  refine exists_congr fun p => and_congr_right fun _ => ?_
  rw [standing_missing]
  exact decide_eq_true_iff

theorem examined_of_room (missing : s.missingAt s.sweeper.cursor = true) (room : s.sweeper.missing.length < 256) : s.examined =
    ⟨s.sweeper.state, s.sweeper.cursor + 1, s.sweeper.missing ++ [s.sweeper.cursor], s.sweeper.overflow⟩ := by
  simp [State.examined, missing, Sweeper.append, Config.missingSlots, room]

theorem examined_of_full (missing : s.missingAt s.sweeper.cursor = true) (full : 256 ≤ s.sweeper.missing.length) : s.examined =
    ⟨s.sweeper.state, s.sweeper.cursor + 1, s.sweeper.missing, true⟩ := by
  simp [State.examined, missing, Sweeper.append, Config.missingSlots, Nat.not_lt.2 full]

theorem examined_of_present (present : ¬ s.missingAt s.sweeper.cursor = true) : s.examined =
    ⟨s.sweeper.state, s.sweeper.cursor + 1, s.sweeper.missing, s.sweeper.overflow⟩ := by
  simp [State.examined, present]

/-! ## One step of the sweep (R139) -/

theorem sweep_of_notSweeping (other : s.sweeper.state ≠ .SWEEPING) : s.sweep = s := by
  cases state : s.sweeper.state with
  | SWEEPING => exact absurd state other
  | IDLE => simp [State.sweep, state]
  | DONE => simp [State.sweep, state]

theorem sweep_of_more (sweeping : s.sweeper.state = .SWEEPING) (more : s.examined.cursor < 8192) :
    s.sweep = { s with sweeper := s.examined } := by
  simp [State.sweep, sweeping, Config.personSlots, Nat.not_le.2 more]

theorem sweep_of_last (sweeping : s.sweeper.state = .SWEEPING) (last : 8192 ≤ s.examined.cursor) :
    s.sweep = ({ s with sweeper := s.examined } : State).sweepDone := by
  simp [State.sweep, sweeping, Config.personSlots, last]

/-- A sweep that makes `list` and `overflow` of the Missing List moves its cursor on, and is DONE at the last slot. -/
theorem sweepStep_of_examined {list : List Nat} {overflow : Bool} (sweeping : s.sweeper.state = .SWEEPING)
    (examined : s.examined = ⟨.SWEEPING, s.sweeper.cursor + 1, list, overflow⟩) :
    (s.sweeper.cursor + 1 < 8192 →
        Gives .sweepStep s { s with sweeper := ⟨.SWEEPING, s.sweeper.cursor + 1, list, overflow⟩ })
      ∧ (8192 ≤ s.sweeper.cursor + 1 →
          Gives .sweepStep s
            (({ s with sweeper := ⟨.DONE, s.sweeper.cursor + 1, list, overflow⟩ } : State).raise .ALL_ABOARD_DONE
              (.allAboard s.census.missing s.census.visitorsAboard list.length overflow))) := by
  have stepped : exec .sweepStep s = .next s.sweep := rfl
  have cursor := congrArg Sweeper.cursor examined
  refine ⟨fun more => ?_, fun last => ?_⟩
  · rw [Gives, stepped, sweep_of_more sweeping (cursor ▸ more), examined]
  · rw [Gives, stepped, sweep_of_last sweeping (cursor ▸ last), examined]
    rfl

/-! ## ALLABOARD START (R138) -/

theorem allaboardStartWork_of_sweeping (sweeping : s.sweeper.state = .SWEEPING) : s.allaboardStartWork = s.refuse .BUSY := by
  simp [State.allaboardStartWork, sweeping]

theorem allaboardStartWork_of_notSweeping (other : s.sweeper.state ≠ .SWEEPING) : s.allaboardStartWork =
    ⟨{ s with sweeper := ⟨.SWEEPING, 0, [], false⟩ }, .ACCEPTED, []⟩ := by
  cases state : s.sweeper.state with
  | SWEEPING => exact absurd state other
  | IDLE => simp [State.allaboardStartWork, state]
  | DONE => simp [State.allaboardStartWork, state]

/-- Settles O43: the start by the sweeper's state, and a step by what the slot at the cursor holds and the room of the Missing List. -/
theorem sweepExaminesEverySlot : Obligations.SweepExaminesEverySlot := by
  refine ⟨fun s tag ready => ⟨fun sweeping => ?busy, fun other => ?started⟩,
    fun s => ⟨fun other => congrArg Host.Outcome.next (sweep_of_notSweeping other), fun sweeping => ?step⟩⟩
  case busy => exact refused_of_serve rfl ready rfl (allaboardStartWork_of_sweeping sweeping)
  case started => exact answers_of_serve rfl ready rfl (allaboardStartWork_of_notSweeping other)
  case step =>
    intro w missing examined
    refine ⟨fun isMissing room => ?_, fun isMissing full => ?_, fun present => ?_⟩
    all_goals refine sweepStep_of_examined sweeping (sweeping ▸ ?_)
    · exact examined_of_room (missingAt_iff.2 isMissing) room
    · exact examined_of_full (missingAt_iff.2 isMissing) full
    · exact examined_of_present (mt missingAt_iff.1 present)

end Sys2Proof.Machine
end

section
/-! PROOFS. BANK FLUSH (R129) and BANK RELEASE (R131). -/

namespace Sys2Proof.Machine

open Sys2Proof

variable {s : State} {n : Nat}

/-! ## BANK FLUSH (R129) -/

theorem bankFlushWork_of_noRecords (empty : s.filling.records = []) : s.bankFlushWork = s.refuse .WRONG_STATE := by
  simp [State.bankFlushWork, empty]

theorem bankFlushWork_of_readable (records : s.filling.records ≠ []) (readable : s.other.state = .READABLE) :
    s.bankFlushWork = s.refuse .BUSY := by
  simp [State.bankFlushWork, records, readable]

theorem bankFlushWork_of_notReadable (records : s.filling.records ≠ []) (other : s.other.state ≠ .READABLE) :
    s.bankFlushWork = s.swapBanks.done s.swapBanks.encBanks := by
  simp [State.bankFlushWork, records, other]

/-! ## BANK RELEASE (R131) -/

theorem bankReleaseWork_of_range (bad : 1 < n) : s.bankReleaseWork n = s.refuse .OUT_OF_RANGE := if_pos bad

theorem bankReleaseWork_of_notReadable (number : n ≤ 1) (other : (s.bank n).state ≠ .READABLE) :
    s.bankReleaseWork n = s.refuse .WRONG_STATE := by
  rw [State.bankReleaseWork, if_neg (Nat.not_lt.2 number), if_pos other]

theorem bankReleaseWork_of_readable (number : n ≤ 1) (readable : (s.bank n).state = .READABLE) :
    s.bankReleaseWork n = (s.bankReleased n).done (s.bankReleased n).encBanks := by
  rw [State.bankReleaseWork, if_neg (Nat.not_lt.2 number), if_neg (not_not_intro readable)]

section Released

variable (number : n ≤ 1) (fills : (s.bank (1 - n)).state = .FILLING)

include number fills

/-- Once a READABLE bank is emptied, the other bank fills as it did and the emptied one is the other. -/
theorem banks_emptied : (s.setBank n ⟨.EMPTY, []⟩).filling = s.bank (1 - n)
    ∧ (s.setBank n ⟨.EMPTY, []⟩).other = ⟨.EMPTY, []⟩ := by
  have filling : (s.setBank n ⟨.EMPTY, []⟩).bank (1 - n) = s.bank (1 - n) := by
    rw [bank_setBank number (by omega), if_neg (by omega)]
  have emptied : (s.setBank n ⟨.EMPTY, []⟩).bank n = ⟨.EMPTY, []⟩ := by rw [bank_setBank number number, if_pos rfl]
  have inFilling : (s.setBank n ⟨.EMPTY, []⟩).fillingNumber = 1 - n := by
    refine fillingNumber_of_bank (by omega) (by rw [filling, fills]) ?_
    rw [one_sub_one_sub number, emptied]
    simp
  rw [State.filling, State.other, inFilling, one_sub_one_sub number]
  exact ⟨filling, emptied⟩

theorem swapDue_emptied : (s.setBank n ⟨.EMPTY, []⟩).swapDue = true ↔ s.params.bankThreshold < (s.bank (1 - n)).records.length := by
  obtain ⟨filling, other⟩ := banks_emptied number fills
  have params : (s.setBank n ⟨.EMPTY, []⟩).params = s.params := setBank_keeps s n _ .params (by simp)
  rw [swapDue_iff, filling, other, params]
  exact and_iff_left rfl

theorem bankReleased_of_due (due : s.params.bankThreshold < (s.bank (1 - n)).records.length) :
    s.bankReleased n = (s.setBank n ⟨.EMPTY, []⟩).swapBanks :=
  if_pos ((swapDue_emptied number fills).2 due)

theorem bankReleased_of_notDue (notDue : (s.bank (1 - n)).records.length ≤ s.params.bankThreshold) :
    s.bankReleased n = (s.setBank n ⟨.EMPTY, []⟩).removeBankHolds :=
  if_neg (mt (swapDue_emptied number fills).1 (Nat.not_lt.2 notDue))

end Released

/-- Settles O41: the swap by its banks, lanes and notice; BANK FLUSH by its checks; BANK RELEASE by its checks and whether the bank that
fills is then due. -/
theorem bankFlushAndRelease : Obligations.BankFlushAndRelease := by
  intro s tag number b bankless
  refine ⟨?swap, fun ready => ⟨fun empty => ?noRecords, fun records readable => ?busy, fun records other => ?flushed⟩,
    fun ready => ⟨fun bad => ?range, fun inRange other => ?wrongState, fun inRange readable fills =>
      ⟨fun due => ?due, fun notDue => ?notDue⟩⟩⟩
  case swap =>
    obtain ⟨full, fresh⟩ := bank_swapBanks s
    exact ⟨swapBanks_keeps s, full, fresh, lane_swapBanks s, latch_swapBanks s⟩
  case noRecords => exact refused_of_serve rfl ready rfl (bankFlushWork_of_noRecords empty)
  case busy => exact refused_of_serve rfl ready rfl (bankFlushWork_of_readable records readable)
  case flushed => exact answers_ok_of_serve rfl ready rfl (bankFlushWork_of_notReadable records other)
  case range => exact refused_of_serve rfl ready rfl (bankReleaseWork_of_range bad)
  case wrongState => exact refused_of_serve rfl ready rfl (bankReleaseWork_of_notReadable inRange other)
  all_goals
    have released := bankReleaseWork_of_readable inRange readable
  case due =>
    rw [bankReleased_of_due inRange fills due] at released
    exact answers_ok_of_serve rfl ready rfl released
  case notDue =>
    have lanes : (s.setBank number ⟨.EMPTY, []⟩).lanes = s.lanes := setBank_keeps s number _ .lanes (by simp)
    rw [bankReleased_of_notDue inRange fills notDue] at released
    have answered := answers_ok_of_serve (c := .bankRelease tag number) rfl ready rfl released
    rw [State.removeBankHolds, lanes] at answered
    exact answered

end Sys2Proof.Machine
end

section
/-! PROOFS. PRESENCE SET: its checks (R135), and the manual crossing that it commits (R27, R28, R128, R137). -/

namespace Sys2Proof.Machine

open Sys2Proof

variable {s : State} {slot presence : Nat} {p : Person} {after : Presence}

/-! ## The checks -/

theorem presence_of_range (bad : presence = 0 ∨ 2 < presence) : Presence.ofCode presence = none := by
  unfold Presence.ofCode
  split <;> first | rfl | omega

theorem presence_of_inRange (low : 1 ≤ presence) (high : presence ≤ 2) :
    Presence.ofCode presence = some (if presence = 1 then .ABOARD else .ASHORE) := by
  obtain rfl | rfl : presence = 1 ∨ presence = 2 := by omega
  all_goals rfl

theorem manualDirection_eq (presence : Nat) : manualDirection (if presence = 1 then .ABOARD else .ASHORE) =
    if presence = 1 then .INBOUND else .OUTBOUND := by
  split <;> rfl

theorem presenceSetWork_of_range (bad : 8192 ≤ slot ∨ presence = 0 ∨ 2 < presence) :
    s.presenceSetWork slot presence = s.refuse .OUT_OF_RANGE := by
  unfold State.presenceSetWork
  cases code : Presence.ofCode presence with
  | none => rfl
  | some after =>
    rcases bad with tooHigh | noPresence
    · exact if_pos tooHigh
    · rw [presence_of_range noPresence] at code
      cases code

theorem presenceSetWork_of_noPerson (within : slot < 8192) (code : Presence.ofCode presence = some after)
    (absent : s.persons.get slot = none) : s.presenceSetWork slot presence = s.refuse .NOT_FOUND := by
  rw [State.presenceSetWork, code]
  refine (if_neg (Nat.not_le.2 within)).trans ?_
  rw [absent]

/-- PRESENCE SET of a person is decided by the crossings that name the person and the room of the banks. -/
theorem presenceSetWork_of_person (within : slot < 8192) (code : Presence.ofCode presence = some after)
    (person : s.persons.get slot = some p) : s.presenceSetWork slot presence =
      if s.crossingNames slot then s.refuse .IN_USE
      else if !s.hasRoom then s.refuse .FULL
      else (s.presenceSet slot p after).done (u32 s.nextCrossing) := by
  rw [State.presenceSetWork, code]
  refine (if_neg (Nat.not_le.2 within)).trans ?_
  rw [person]

theorem hasRoom_iff : s.hasRoom = true ↔ s.filling.records.length + s.pendings.length < s.roomLimit := decide_eq_true_iff

/-! ## The manual crossing -/

/-- The record of a manual crossing. -/
def State.manualRecord (s : State) (slot : Nat) (p : Person) (after : Presence) : Crossing where
  number := s.nextCrossing
  time := s.clock.time
  slot := slot
  personId := p.ident.id
  lane := none
  direction := manualDirection after
  before := p.presence
  after := after
  mismatch := false
  officer := false
  cause := .MANUAL

/-- The state after a manual crossing, but for the swap check at its end. -/
def State.manuallyCrossed (s : State) (slot : Nat) (p : Person) (after : Presence) : State :=
  (s.changePresence slot p after).appendCrossing (s.manualRecord slot p after)

theorem presenceSet_eq : s.presenceSet slot p after = (s.manuallyCrossed slot p after).swapCheck := rfl

theorem manuallyCrossed_keeps : Keeps [.bank0, .bank1, .nextCrossing] (s.changePresence slot p after) (s.manuallyCrossed slot p after) :=
  appendCrossing_keeps _ _

theorem manuallyCrossed_frame : Keeps [.persons, .census, .sweeper, .cabins, .lines, .bank0, .bank1, .nextCrossing] s
    (s.manuallyCrossed slot p after) :=
  ((changePresence_keeps s slot p after).weaken (by simp)).trans (manuallyCrossed_keeps.weaken (by simp))

theorem presenceSet_frame : Keeps [.persons, .census, .sweeper, .cabins, .lines, .lanes, .bank0, .bank1, .nextCrossing, .latches] s
    (s.presenceSet slot p after) :=
  (manuallyCrossed_frame.weaken (by simp)).trans ((swapCheck_keeps _).weaken (by simp))

/-- Beside the banks, the hand-offs of PRESENCE SET are those of the presence change. -/
theorem presenceSet_handsOff : Keeps [.bank0, .bank1, .nextCrossing, .lanes, .latches] (s.changePresence slot p after)
    (s.presenceSet slot p after) :=
  (manuallyCrossed_keeps.weaken (by simp)).trans ((swapCheck_keeps _).weaken (by simp))

/-- A manual crossing appends its record to the FILLING bank, and leaves the other. -/
theorem banks_manuallyCrossed : (s.manuallyCrossed slot p after).fillingNumber = s.fillingNumber
    ∧ (s.manuallyCrossed slot p after).filling =
        { s.filling with records := s.filling.records ++ [s.manualRecord slot p after] }
    ∧ (s.manuallyCrossed slot p after).other = s.other := by
  have changed := changePresence_keeps s slot p after
  obtain ⟨number, filling, other⟩ := filling_of_banks (changed .bank0 (by simp)) (changed .bank1 (by simp))
  have next : (s.changePresence slot p after).nextCrossing = s.nextCrossing := changed .nextCrossing (by simp)
  refine ⟨(fillingNumber_appendCrossing _).trans number, (filling_appendCrossing _).trans ?_, (other_appendCrossing _).trans other⟩
  rw [filling, next]
  rfl

theorem nextCrossing_manuallyCrossed : (s.manuallyCrossed slot p after).nextCrossing = crossingAfter s.nextCrossing :=
  congrArg crossingAfter (changePresence_keeps s slot p after .nextCrossing (by simp))

/-- The swap check of PRESENCE SET counts the record with those of the FILLING bank. -/
theorem swapDue_manuallyCrossed : (s.manuallyCrossed slot p after).swapDue = true ↔
    s.params.bankThreshold < s.filling.records.length + 1 ∧ s.other.state = .EMPTY := by
  obtain ⟨-, filling, other⟩ := banks_manuallyCrossed (s := s) (slot := slot) (p := p) (after := after)
  have params : (s.manuallyCrossed slot p after).params = s.params := manuallyCrossed_frame .params (by simp)
  rw [swapDue_iff, params, filling, other, List.length_append]
  exact Iff.rfl

theorem lane_presenceSet (n : Nat) : ((s.presenceSet slot p after).lane n).pending = (s.lane n).pending
    ∧ ((s.presenceSet slot p after).lane n).committed = (s.lane n).committed := by
  rw [← State.lane_of_lanes (s := s) (manuallyCrossed_frame (slot := slot) (p := p) (after := after) .lanes (by simp)) n]
  exact lane_swapCheck _ n

/-- What a due swap makes of PRESENCE SET's banks, lanes and notice. -/
theorem presenceSet_of_due (due : s.params.bankThreshold < s.filling.records.length + 1 ∧ s.other.state = .EMPTY) :
    ((s.presenceSet slot p after).bank s.fillingNumber).state = .READABLE
      ∧ (s.presenceSet slot p after).bank (1 - s.fillingNumber) = ⟨.FILLING, []⟩
      ∧ (∀ n, (s.presenceSet slot p after).lane n = (s.lane n).withoutBank)
      ∧ (s.presenceSet slot p after).latch .BANK_READY = (s.latch .BANK_READY).raised (.bank s.fillingNumber) s.clock.time := by
  have clock : (s.manuallyCrossed slot p after).clock = s.clock := manuallyCrossed_frame .clock (by simp)
  have latches : (s.manuallyCrossed slot p after).latches = s.latches := manuallyCrossed_frame .latches (by simp)
  have lanes : (s.manuallyCrossed slot p after).lanes = s.lanes := manuallyCrossed_frame .lanes (by simp)
  obtain ⟨full, fresh⟩ := bank_swapBanks (s.manuallyCrossed slot p after)
  rw [banks_manuallyCrossed.1] at full fresh
  rw [presenceSet_eq, swapCheck_of_due (swapDue_manuallyCrossed.2 due)]
  refine ⟨congrArg Bank.state full, fresh, fun n => ?_, ?_⟩
  · rw [lane_swapBanks, State.lane_of_lanes lanes]
  · rw [latch_swapBanks, State.latch_of_latches latches, clock, banks_manuallyCrossed.1]

theorem presenceSet_of_notDue (notDue : ¬ (s.params.bankThreshold < s.filling.records.length + 1 ∧ s.other.state = .EMPTY)) :
    ((s.presenceSet slot p after).bank s.fillingNumber).state = s.filling.state
      ∧ (s.presenceSet slot p after).bank (1 - s.fillingNumber) = s.other
      ∧ (s.presenceSet slot p after).lanes = s.lanes ∧ (s.presenceSet slot p after).latches = s.latches := by
  obtain ⟨number, filling, other⟩ := banks_manuallyCrossed (s := s) (slot := slot) (p := p) (after := after)
  rw [State.filling, number] at filling
  rw [State.other, number] at other
  rw [presenceSet_eq, swapCheck_of_notDue (mt swapDue_manuallyCrossed.1 notDue)]
  have state := congrArg Bank.state filling
  exact ⟨state, other, manuallyCrossed_frame .lanes (by simp), manuallyCrossed_frame .latches (by simp)⟩

/-- Settles O42: the refusals by the checks in order; an accepted request is the presence change with its hand-offs, the record, and then
the swap check, which finds the record in its bank. -/
theorem presenceSetCommits : Obligations.PresenceSetCommits := by
  intro s tag slot presence ready c after room b bankless
  refine ⟨fun bad => refused_of_serve rfl ready rfl (presenceSetWork_of_range bad), fun within low high => ?_⟩
  have code := presence_of_inRange low high
  refine ⟨fun absent => ?notFound, fun present named => ?inUse, fun present unnamed full => ?full,
    fun p person unnamed fits => ?accepted⟩
  case notFound => exact refused_of_serve rfl ready rfl (presenceSetWork_of_noPerson within code absent)
  case inUse =>
    obtain ⟨p, person⟩ := Option.ne_none_iff_exists'.1 present
    exact refused_of_serve rfl ready rfl ((presenceSetWork_of_person within code person).trans (if_pos named))
  case full =>
    obtain ⟨p, person⟩ := Option.ne_none_iff_exists'.1 present
    have work := presenceSetWork_of_person within code person
    simp only [unnamed, Bool.eq_false_iff.2 (mt hasRoom_iff.1 full)] at work
    exact refused_of_serve rfl ready rfl work
  case accepted =>
    have work := presenceSetWork_of_person within code person
    simp only [unnamed, hasRoom_iff.2 fits] at work
    have handed := presenceSet_handsOff (s := s) (slot := slot) (p := p) (after := after)
    rw [changePresence_eq] at handed
    obtain ⟨number, filling, -⟩ := banks_manuallyCrossed (s := s) (slot := slot) (p := p) (after := after)
    have records := records_swapCheck (s.manuallyCrossed slot p after)
    rw [number, filling, State.manualRecord, manualDirection_eq] at records
    refine ⟨s.presenceSet slot p after, answers_ok_of_serve rfl ready rfl work, presenceSet_frame, handed .persons (by simp),
      handed .census (by simp), (handed .sweeper (by simp)).trans sweeper_presenceWritten, fun wf => ?cabins, records,
      (swapCheck_keeps _ .nextCrossing (by simp)).trans nextCrossing_manuallyCrossed, lane_presenceSet, presenceSet_of_due,
      presenceSet_of_notDue⟩
    case cabins =>
      have moved := presenceAtCabins_eq s wf p.presence after p.ident.cabins
      exact ⟨moved ▸ handed .cabins (by simp), moved ▸ handed .lines (by simp)⟩

end Sys2Proof.Machine
end

section
/-! PROOFS. A head that leaves ONLINE and a head whose tune starts: what becomes of its record, of its line and of the latches (R164,
R168), and what the tuning limits allow. -/

namespace Sys2Proof.Machine

open Sys2Proof

section Records

variable {s t : State} {h : HeadId} {hd y : Head}

/-! ## The record of one head -/

theorem heads_modifyHead (held : s.head? h = some hd) (f : Head → Head) : (s.modifyHead h f).heads = s.heads.set h.key (f hd) :=
  Table.modify_of_get _ _ _ (State.heads_get_of_head held)

theorem modifyHead_of_head (held : s.head? h = some hd) (f : Head → Head) :
    s.modifyHead h f = { s with heads := s.heads.set h.key (f hd) } := by
  rw [← heads_modifyHead held f]
  rfl

theorem heads_modifyHead_of_set (heads : t.heads = s.heads.set h.key y) (f : Head → Head) :
    (t.modifyHead h f).heads = s.heads.set h.key (f y) := by
  rw [State.modifyHead_heads, heads, Table.modify_of_get _ _ _ (v := y) (by simp), Table.set_set]

/-! ## Leaving ONLINE (R164) -/

/-- A head after the departure with which it leaves ONLINE; the outcome is what the push that it may lose leaves. -/
def Head.departed (hd : Head) (outcome : SettingsOutcome) : Head :=
  { hd with settings := outcome, lastGrant := none, due := false, hold := none }

theorem leaveOnline_of_notOnline (held : s.head? h = some hd) (state : hd.state ≠ .ONLINE) : s.leaveOnline h = s := by
  simp [State.leaveOnline, held, state]

theorem leaveOnline_of_online (held : s.head? h = some hd) (state : hd.state = .ONLINE) :
    s.leaveOnline h = ((((s.failPush h).lineDeparture h).grantDeparture h).holdDeparture h).gangwayDeparture hd := by
  simp [State.leaveOnline, held, state]

theorem heads_failPush (held : s.head? h = some hd) (f : Head → Head) :
    ∃ outcome, ((s.failPush h).heads.modify h.key f) = s.heads.set h.key (f { hd with settings := outcome }) := by
  have failed (outcome : SettingsOutcome) (u : State) (same : u.heads = s.heads) :
      ((u.modifyHead h (fun x => { x with settings := outcome })).heads.modify h.key f)
        = s.heads.set h.key (f { hd with settings := outcome }) :=
    heads_modifyHead_of_set (t := u.modifyHead h _) ((heads_modifyHead ((State.head_of_heads same h).trans held) _).trans (by rw [same])) f
  have kept : (s.heads.modify h.key f) = s.heads.set h.key (f { hd with settings := hd.settings }) := heads_modifyHead held f
  unfold State.failPush
  split
  · exact ⟨_, kept⟩
  · split
    · exact ⟨_, failed _ _ rfl⟩
    · exact ⟨_, kept⟩

theorem heads_holdDeparture (hh : h.inRange = true) (heads : t.heads = s.heads.set h.key y) :
    (t.holdDeparture h).heads = s.heads.set h.key { y with hold := none } := by
  have held : t.head? h = some y := (State.head_set hh heads h).trans (if_pos rfl)
  have removed := heads_modifyHead_of_set heads (fun x => { x with hold := none })
  unfold State.holdDeparture
  simp only [held]
  cases hold : y.hold with
  | none =>
    have same : { y with hold := none } = y := by rw [← hold]
    exact heads.trans (by rw [same])
  | some o =>
    dsimp only
    split
    · exact removed
    · exact removed

/-- R164: what leaving ONLINE makes of the Head Table. -/
theorem heads_leaveOnline (held : s.head? h = some hd) (state : hd.state = .ONLINE) :
    ∃ outcome, (s.leaveOnline h).heads = s.heads.set h.key (hd.departed outcome) := by
  have hh := State.inRange_of_head held
  obtain ⟨outcome, granted⟩ := heads_failPush held (fun x => { x with lastGrant := none, due := false })
  have left := heads_holdDeparture (t := ((s.failPush h).lineDeparture h).grantDeparture h) hh granted
  refine ⟨outcome, ?_⟩
  rw [leaveOnline_of_online held state]
  exact (gangwayDeparture_keeps _ hd .heads (by simp)).trans left

/-- A head as it stands once it has left ONLINE, whatever its state was. -/
def Head.LeftAs (hd x : Head) : Prop :=
  (hd.state ≠ .ONLINE ∧ x = hd) ∨ (hd.state = .ONLINE ∧ ∃ outcome, x = hd.departed outcome)

/-- R164: a write to a head that has left ONLINE. -/
theorem leaveOnline_modify (held : s.head? h = some hd) :
    ∃ x, hd.LeftAs x ∧ (s.leaveOnline h).head? h = some x
      ∧ ∀ f, ((s.leaveOnline h).modifyHead h f).heads = s.heads.set h.key (f x) := by
  by_cases state : hd.state = .ONLINE
  · obtain ⟨outcome, heads⟩ := heads_leaveOnline held state
    exact ⟨_, .inr ⟨state, outcome, rfl⟩, (State.head_set (State.inRange_of_head held) heads h).trans (if_pos rfl),
      fun f => heads_modifyHead_of_set heads f⟩
  · rw [leaveOnline_of_notOnline held state]
    exact ⟨hd, .inl ⟨state, rfl⟩, held, fun f => heads_modifyHead held f⟩

section LeftAs

variable {x : Head} (left : hd.LeftAs x)

include left

theorem Head.LeftAs.state_eq : x.state = hd.state := by obtain ⟨-, rfl⟩ | ⟨-, _, rfl⟩ := left <;> rfl
theorem Head.LeftAs.cls_eq : x.cls = hd.cls := by obtain ⟨-, rfl⟩ | ⟨-, _, rfl⟩ := left <;> rfl
theorem Head.LeftAs.bound_eq : x.bound = hd.bound := by obtain ⟨-, rfl⟩ | ⟨-, _, rfl⟩ := left <;> rfl
theorem Head.LeftAs.neighbourhood_eq : x.neighbourhood = hd.neighbourhood := by obtain ⟨-, rfl⟩ | ⟨-, _, rfl⟩ := left <;> rfl
theorem Head.LeftAs.missed_eq : x.missed = hd.missed := by obtain ⟨-, rfl⟩ | ⟨-, _, rfl⟩ := left <;> rfl

end LeftAs

/-! ## Tune starts (R168) -/

/-- A head whose tune of a kind starts at an elapsed-time count; its TUNE frame waits or not. -/
def Head.tuneStarted (x : Head) (kind : TuneKind) (now : Nat) (waits : Bool) : Head :=
  { x with state := .TUNING, tuneKind := kind, tuneWait := none, lastTurnEnd := none, due := false,
           tuneTimer := some ⟨now, tuneMs kind⟩, frameWaits := waits }

theorem heads_enqueueTune_of_set (heads : t.heads = s.heads.set h.key y) (kind : TuneKind) :
    (t.enqueueTune h kind).heads = s.heads.set h.key { y with frameWaits := decide ((t.line h.line).free = 0) } := by
  unfold State.enqueueTune
  by_cases room : 0 < (t.line h.line).free
  · rw [if_pos room, decide_eq_false (by omega)]
    exact heads_modifyHead_of_set (t := t.modifyLine _ _) heads _
  · rw [if_neg room, decide_eq_true (by omega)]
    exact heads_modifyHead_of_set heads _

theorem heads_startTune (held : s.head? h = some hd) (kind : TuneKind) :
    ∃ x, hd.LeftAs x ∧ (s.leaveOnline h).head? h = some x
      ∧ (s.startTune h kind).heads =
          s.heads.set h.key (x.tuneStarted kind s.elapsed (decide (((s.leaveOnline h).line h.line).free = 0))) := by
  obtain ⟨x, left, gone, written⟩ := leaveOnline_modify held
  have now : (s.leaveOnline h).elapsed = s.elapsed := leaveOnline_keeps s h .elapsed (by simp)
  refine ⟨x, left, gone, ?_⟩
  rw [State.startTune, heads_enqueueTune_of_set (written _), State.startTimer, now]
  rfl

/-! ## The tuning limits (R168) -/

theorem tuningCount_eq_zero {p : Nat → Head → Bool} :
    s.tuningCount p = 0 ↔ ∀ x ∈ s.heads.cells, x.2.state = .TUNING → p x.1 x.2 = false := by
  simp [State.tuningCount, List.filter_eq_nil_iff]

theorem limitsAllow_iff : s.limitsAllow h hd = true ↔
    (hd.neighbourhood ≠ 0 → ∀ x ∈ s.heads.cells, x.1 ≠ h.key → x.2.state = .TUNING → x.2.neighbourhood ≠ hd.neighbourhood)
      ∧ (s.heads.cells.filter (fun x => decide (x.2.state = .TUNING) && decide (x.1 / 256 = h.line))).length
          < s.params.tuningPerLine := by
  have alone : s.tuningCount (fun k x => decide (k ≠ h.key) && decide (x.neighbourhood = hd.neighbourhood)) = 0 ↔
      ∀ x ∈ s.heads.cells, x.1 ≠ h.key → x.2.state = .TUNING → x.2.neighbourhood ≠ hd.neighbourhood := by
    simp only [tuningCount_eq_zero, Bool.and_eq_false_iff, decide_eq_false_iff_not]
    grind
  rw [State.limitsAllow, Bool.and_eq_true, Bool.or_eq_true, decide_eq_true_eq, decide_eq_true_eq, decide_eq_true_eq, alone,
    Decidable.or_iff_not_imp_left]
  exact Iff.rfl

end Records

end Sys2Proof.Machine
end

section
/-! PROOFS. The scheduler (R173): when a head waits to tune, when it is idle, and that the head started next has waited longest of those
that may start. -/

namespace Sys2Proof.Machine

open Sys2Proof

/-- The keys of the canonical form rise. -/
theorem Table.risingFrom_pairwise {α : Type} {low : Nat} {l : List (Nat × α)} (rising : Table.risingFrom low l = true) :
    l.Pairwise (fun c d => c.1 < d.1) := by
  have above {low : Nat} {l : List (Nat × α)} (rising : Table.risingFrom low l = true) : ∀ c ∈ l, low ≤ c.1 := by
    intro c hc
    refine Nat.not_lt.1 fun below => ?_
    have none_there := Table.lookupCells_below rising below
    rw [(Table.lookupCells_iff_mem rising).2 hc] at none_there
    cases none_there
  induction l generalizing low with
  | nil => exact List.Pairwise.nil
  | cons c rest ih =>
    simp only [Table.risingFrom, Bool.and_eq_true] at rising
    exact List.Pairwise.cons (above rising.2) (ih rising.2)

/-- Induction by the last element of a list. -/
theorem list_concat_induction {α : Type} {p : List α → Prop} (nil : p [])
    (concat : ∀ l a, p l → p (l ++ [a])) (l : List α) : p l := by
  have reversed : ∀ m : List α, p m.reverse := by
    intro m
    induction m with
    | nil => exact nil
    | cons a m ih =>
      rw [List.reverse_cons]
      exact concat _ a ih
  simpa using reversed l.reverse

section Scheduler

variable {s : State} {h : HeadId} {hd : Head} {l : List (Nat × Head)} {c : Nat × Head} {t : Nat}

/-! ## Waiting heads -/

theorem waitsSince_iff : s.waitsSince hd = some t ↔
    (hd.state = .ONLINE ∧ hd.nextDue = some t ∧ (hd.due = true ∨ s.since t < 2147483648))
      ∨ (hd.state = .PROBING ∧ hd.tuneWait = some t) := by
  cases state : hd.state <;>
    simp [State.waitsSince, state, State.reached, mod32, Option.filter_eq_some_iff]

theorem isSome_waitsSince_state (waits : s.waitsSince hd = some t) : hd.state = .ONLINE ∨ hd.state = .PROBING := by
  obtain ⟨state, -⟩ | ⟨state, -⟩ := waitsSince_iff.1 waits
  · exact .inl state
  · exact .inr state

/-- The head in a cell may start, and has waited since `t`. -/
def State.candidate (s : State) (c : Nat × Head) (t : Nat) : Prop :=
  s.waitsSince c.2 = some t ∧ s.mayStart (HeadId.ofKey c.1) c.2 = true

theorem candidate_iff : s.candidate c t ↔ s.waitsSince c.2 = some t ∧ s.limitsAllow (HeadId.ofKey c.1) c.2 = true
    ∧ (c.2.state = .ONLINE → s.idle (HeadId.ofKey c.1) c.2 = true) := by
  refine and_congr_right fun waits => ?_
  obtain state | state := isSome_waitsSince_state waits <;> simp [State.mayStart, waits, state]

/-! ## The choice among them -/

/-- One cell's turn in the choice of the head started next. -/
def State.sooner (s : State) (best : Option (Nat × Nat)) (c : Nat × Head) : Option (Nat × Nat) :=
  match s.waitsSince c.2 with
  | none => best
  | some t =>
    if s.mayStart (HeadId.ofKey c.1) c.2 then
      match best with
      | none => some (c.1, t)
      | some (_, b) => if s.waitedLonger t b then some (c.1, t) else best
    else best

theorem nextStart_eq (s : State) : s.nextStart = (s.heads.cells.foldl s.sooner none).map (fun b => HeadId.ofKey b.1) := rfl

theorem sooner_of_other (other : ∀ t, ¬ s.candidate c t) (best : Option (Nat × Nat)) : s.sooner best c = best := by
  unfold State.sooner
  split
  · rfl
  · rename_i t waits
    exact if_neg fun may => other t ⟨waits, may⟩

theorem sooner_none (candidate : s.candidate c t) : s.sooner none c = some (c.1, t) := by
  obtain ⟨waits, may⟩ := candidate
  simp [State.sooner, waits, may]

theorem sooner_some (candidate : s.candidate c t) (b : Nat × Nat) :
    s.sooner (some b) c = if s.since b.2 < s.since t then some (c.1, t) else some b := by
  obtain ⟨waits, may⟩ := candidate
  simp [State.sooner, waits, may, State.waitedLonger]

theorem foldl_sooner_eq_none : l.foldl s.sooner none = none ↔ ∀ c ∈ l, ∀ t, ¬ s.candidate c t := by
  induction l using list_concat_induction with
  | nil => simp
  | concat l c ih =>
    rw [List.foldl_append, List.forall_mem_append, ← ih, List.forall_mem_singleton]
    cases best : l.foldl s.sooner none with
    | none =>
      simp only [List.foldl_cons, List.foldl_nil, true_and]
      refine ⟨fun still t candidate => ?_, fun other => sooner_of_other other none⟩
      rw [sooner_none candidate] at still
      cases still
    | some b =>
      simp only [List.foldl_cons, List.foldl_nil, reduceCtorEq, false_and, iff_false]
      by_cases candidate : ∃ t, s.candidate c t
      · obtain ⟨t, candidate⟩ := candidate
        rw [sooner_some candidate]
        split <;> simp
      · rw [sooner_of_other (not_exists.1 candidate)]
        simp

/-- The place `b.1` holds a head that may start, has waited since `b.2`, and comes first of those that may start: by the longest wait,
and by the lowest place among equals. -/
def State.firstOf (s : State) (l : List (Nat × Head)) (b : Nat × Nat) : Prop :=
  (∃ x, (b.1, x) ∈ l ∧ s.candidate (b.1, x) b.2)
    ∧ ∀ c ∈ l, ∀ u, s.candidate c u → s.since u ≤ s.since b.2 ∧ (s.since u = s.since b.2 → b.1 ≤ c.1)

theorem foldl_sooner_first (rising : l.Pairwise (fun c d => c.1 < d.1)) {b : Nat × Nat} (best : l.foldl s.sooner none = some b) :
    s.firstOf l b := by
  induction l using list_concat_induction generalizing b with
  | nil => cases best
  | concat l c ih =>
    obtain ⟨risingBefore, -, before⟩ := List.pairwise_append.1 rising
    rw [List.foldl_append, List.foldl_cons, List.foldl_nil] at best
    simp only [State.firstOf, List.forall_mem_append, List.forall_mem_singleton]
    by_cases waiting : ∃ t, s.candidate c t
    case neg =>
      have other := not_exists.1 waiting
      rw [sooner_of_other other] at best
      obtain ⟨⟨x, mem, may⟩, first⟩ := ih risingBefore best
      exact ⟨⟨x, List.mem_append_left _ mem, may⟩, first, fun u may => absurd may (other u)⟩
    obtain ⟨t, candidate⟩ := waiting
    have only : ∀ u, s.candidate c u → u = t := fun u may => Option.some.inj (may.1.symm.trans candidate.1)
    have itself : ∀ u, s.candidate c u → s.since u ≤ s.since t ∧ (s.since u = s.since t → c.1 ≤ c.1) :=
      fun u may => ⟨Nat.le_of_eq (by rw [only u may]), fun _ => Nat.le_refl _⟩
    cases held : l.foldl s.sooner none with
    | none =>
      rw [held, sooner_none candidate] at best
      obtain rfl := Option.some.inj best
      exact ⟨⟨c.2, by simp, candidate⟩, fun d hd u may => absurd may (foldl_sooner_eq_none.1 held d hd u), itself⟩
    | some a =>
      obtain ⟨⟨x, mem, may⟩, first⟩ := ih risingBefore held
      rw [held, sooner_some candidate] at best
      split at best
      case isTrue longer =>
        obtain rfl := Option.some.inj best
        refine ⟨⟨c.2, by simp, candidate⟩, fun d hd u may => ?_, itself⟩
        have shorter := (first d hd u may).1
        exact ⟨by dsimp only; omega, by dsimp only; omega⟩
      case isFalse notLonger =>
        obtain rfl := Option.some.inj best
        refine ⟨⟨x, List.mem_append_left _ mem, may⟩, first, fun u may => ?_⟩
        rw [only u may]
        exact ⟨Nat.le_of_not_lt notLonger, fun _ => Nat.le_of_lt (before _ mem c (by simp))⟩

theorem ofKey_key_eq (k : Nat) : (HeadId.ofKey k).key = k := by
  simp only [HeadId.ofKey, HeadId.key]
  omega

/-- R173: the head started next, when it is in its place, may start and comes first of those that may. -/
theorem nextStart_first (wf : s.heads.wf = true) (next : s.nextStart = some h) (held : s.head? h = some hd) :
    ∃ t, s.candidate (h.key, hd) t
      ∧ ∀ c ∈ s.heads.cells, ∀ u, s.candidate c u → s.since u ≤ s.since t ∧ (s.since u = s.since t → h.key ≤ c.1) := by
  rw [nextStart_eq] at next
  obtain ⟨⟨k, t⟩, best, rfl⟩ := Option.map_eq_some_iff.1 next
  obtain ⟨⟨x, mem, candidate⟩, first⟩ := foldl_sooner_first (Table.risingFrom_pairwise wf) best
  have there := (Table.get_iff_mem wf).2 mem
  have here := State.heads_get_of_head held
  rw [ofKey_key_eq] at here ⊢
  rw [here] at there
  obtain rfl := Option.some.inj there
  exact ⟨t, candidate, first⟩

end Scheduler

end Sys2Proof.Machine
end

section
/-! PROOFS. The operations, the requests and the events that leave the Head Table as it is. -/

namespace Sys2Proof.Machine

open Sys2Proof

section Aside

variable (s : State)

theorem heads_of_keeps {s t : State} {l : List Part} (keeps : Keeps l s t) (apart : l.contains .heads = false) : t.heads = s.heads :=
  keeps .heads (by simpa using apart)

theorem heads_foldl {β : Type} {f : State → β → State} (hf : ∀ u b, (f u b).heads = u.heads) (bs : List β) (s : State) :
    (bs.foldl f s).heads = s.heads := by
  induction bs generalizing s with
  | nil => rfl
  | cons b rest ih => exact (ih _).trans (hf s b)

/-! ## Shared operations -/

@[simp] theorem State.refuse_state (status : Status) : (s.refuse status).state = s := rfl
@[simp] theorem State.done_state (body : List Byte) : (s.done body).state = s := rfl

@[simp] theorem heads_swapBanks : s.swapBanks.heads = s.heads := heads_of_keeps (swapBanks_keeps s) rfl
@[simp] theorem heads_swapCheck : s.swapCheck.heads = s.heads := heads_of_keeps (swapCheck_keeps s) rfl
@[simp] theorem heads_removeBankHolds : s.removeBankHolds.heads = s.heads := rfl
@[simp] theorem heads_appendCrossing (c : Crossing) : (s.appendCrossing c).heads = s.heads :=
  heads_of_keeps (appendCrossing_keeps s c) rfl
@[simp] theorem heads_evaluateJournal : s.evaluateJournal.heads = s.heads := heads_of_keeps (evaluateJournal_keeps s) rfl
@[simp] theorem heads_indicatorWork (k : Nat) : (s.indicatorWork k).heads = s.heads := heads_of_keeps (indicatorWork_keeps s k) rfl
@[simp] theorem heads_moveCabins (slot : Nat) (p : Presence) (old new : List Nat) : (s.moveCabins slot p old new).heads = s.heads :=
  heads_of_keeps (moveCabins_keeps s slot p old new) rfl
@[simp] theorem heads_changePresence (slot : Nat) (p : Person) (after : Presence) : (s.changePresence slot p after).heads = s.heads :=
  heads_of_keeps (changePresence_keeps s slot p after) rfl
@[simp] theorem heads_commitCrossing (n : Nat) (pc : Pending) (cause : Cause) : (s.commitCrossing n pc cause).heads = s.heads :=
  heads_of_keeps (commitCrossing_keeps s n pc cause) rfl
@[simp] theorem heads_abandonCrossing (n : Nat) : (s.abandonCrossing n).heads = s.heads := rfl
@[simp] theorem heads_sendDecision (e : Entry) (x : FrameContent) : (s.sendDecision e x).heads = s.heads := rfl
@[simp] theorem heads_sendLane (e : Entry) (tag : Nat) (d : LaneDecision) : (s.sendLane e tag d).heads = s.heads := rfl
@[simp] theorem heads_refuseTap (n : Nat) (e : Entry) (tag : Nat) (code : LaneRefusal) : (s.refuseTap n e tag code).heads = s.heads := rfl

/-! ## The system link, parameters and notices -/

@[simp] theorem heads_transact (bytes : List Byte) : (s.transact bytes).heads = s.heads := by
  unfold State.transact
  split <;> rfl

@[simp] theorem heads_queueNotice : s.queueNotice.heads = s.heads := by
  unfold State.queueNotice
  split
  · split <;> rfl
  · rfl

@[simp] theorem heads_clockSetWork (time : Nat) : (s.clockSetWork time).state.heads = s.heads := by
  unfold State.clockSetWork
  split <;> rfl

@[simp] theorem heads_stored (p : Params) (ident v : Nat) (asked : Int) : (s.stored p ident v asked).state.heads = s.heads := rfl

@[simp] theorem heads_setBucketByte (ident : Nat) (value : Int) (other : Nat) (p : Nat → Params) :
    (s.setBucketByte ident value other p).state.heads = s.heads := by
  unfold State.setBucketByte
  repeat' split
  all_goals rfl

@[simp] theorem heads_paramDecided (ident : Nat) (value : Int) : (s.paramDecided ident value).state.heads = s.heads := by
  unfold State.paramDecided
  dsimp only
  repeat' split
  all_goals simp

@[simp] theorem heads_paramSetWork (ident : Nat) (value : Int) : (s.paramSetWork ident value).state.heads = s.heads := by
  unfold State.paramSetWork State.paramWork
  dsimp only
  repeat' split
  all_goals simp

@[simp] theorem heads_noticeMaskWork (classes : Nat) : (s.noticeMaskWork classes).state.heads = s.heads := by
  unfold State.noticeMaskWork
  split
  · rfl
  · exact heads_foldl (f := fun u c => u.setLatch c _) (fun _ _ => rfl) _ s

@[simp] theorem heads_noticeClearWork (classes : Nat) : (s.noticeClearWork classes).state.heads = s.heads := by
  unfold State.noticeClearWork
  split
  · rfl
  · exact heads_foldl (f := fun u c => u.setLatch c _) (fun _ _ => rfl) _ s

/-! ## Persons, cards and cabins -/

@[simp] theorem heads_personWritten (slot : Nat) (i : Identity) : (s.personWritten slot i).heads = s.heads := by
  unfold State.personWritten
  split <;> simp [State.censusHandoff]

@[simp] theorem heads_personPutWork (slot : Nat) (f : PersonFields) : (s.personPutWork slot f).state.heads = s.heads := by
  unfold State.personPutWork
  split <;> simp

@[simp] theorem heads_personDropped (slot : Nat) (p : Person) : (s.personDropped slot p).heads = s.heads :=
  heads_foldl (fun u n => heads_of_keeps (leaveCabin_keeps u slot p.presence n) rfl) p.ident.cabins _

@[simp] theorem heads_personDropWork (slot : Nat) : (s.personDropWork slot).state.heads = s.heads := by
  unfold State.personDropWork
  repeat' split
  all_goals simp

@[simp] theorem heads_enrolled (k : Nat) (e : CardEntry) : (s.enrolled k e).heads = s.heads := heads_of_keeps (enrolled_keeps s k e) rfl

@[simp] theorem heads_cardEnrolWork (u : RawUid) (slot issue state : Nat) : (s.cardEnrolWork u slot issue state).state.heads = s.heads := by
  unfold State.cardEnrolWork
  repeat' split
  all_goals simp

@[simp] theorem heads_cardChange (u : RawUid) (issue : Nat) (change : CardEntry → Except Status CardState) :
    (s.cardChange u issue change).state.heads = s.heads := by
  unfold State.cardChange
  repeat' split
  all_goals rfl

@[simp] theorem heads_cardPurgeWork : s.cardPurgeWork.state.heads = s.heads := rfl

@[simp] theorem heads_cabinPutWork (number zone : Nat) : (s.cabinPutWork number zone).state.heads = s.heads := by
  unfold State.cabinPutWork
  repeat' split
  all_goals rfl

@[simp] theorem heads_cabinDropWork (number : Nat) : (s.cabinDropWork number).state.heads = s.heads := by
  unfold State.cabinDropWork
  repeat' split
  all_goals rfl

@[simp] theorem heads_privacySetWork (number value : Nat) : (s.privacySetWork number value).state.heads = s.heads := by
  unfold State.privacySetWork
  repeat' split
  all_goals simp

@[simp] theorem heads_serveOwed (l : Nat) : (s.serveOwed l).heads = s.heads := by
  refine heads_foldl (fun u k => ?_) _ _
  repeat' split
  all_goals simp

/-! ## Folios, venues and the journal -/

@[simp] theorem heads_folioLimitWork (slot limit : Nat) : (s.folioLimitWork slot limit).state.heads = s.heads := by
  unfold State.folioLimitWork
  repeat' split
  all_goals rfl

@[simp] theorem heads_folioStateWork (slot state : Nat) : (s.folioStateWork slot state).state.heads = s.heads := by
  unfold State.folioStateWork
  repeat' split
  all_goals rfl

@[simp] theorem heads_folioFreeWork (slot : Nat) : (s.folioFreeWork slot).state.heads = s.heads := by
  unfold State.folioFreeWork
  repeat' split
  all_goals rfl

@[simp] theorem heads_venuePutWork (venue rate eligible : Nat) : (s.venuePutWork venue rate eligible).state.heads = s.heads := by
  unfold State.venuePutWork
  repeat' split
  all_goals rfl

@[simp] theorem heads_withUpstream (u : Upstream) : (s.withUpstream u).heads = s.heads := by
  unfold State.withUpstream
  split <;> rfl

@[simp] theorem heads_upstreamSetWork (value : Nat) : (s.upstreamSetWork value).state.heads = s.heads := by
  unfold State.upstreamSetWork
  split <;> simp

@[simp] theorem heads_journalBaseWork (number : Nat) : (s.journalBaseWork number).state.heads = s.heads := by
  unfold State.journalBaseWork
  repeat' split
  all_goals simp

@[simp] theorem heads_retired (n : Nat) : (s.retired n).heads = s.heads := heads_of_keeps (retired_keeps s n) rfl

@[simp] theorem heads_chargesRetireWork (number : Nat) : (s.chargesRetireWork number).state.heads = s.heads := by
  unfold State.chargesRetireWork
  repeat' split
  all_goals simp

/-! ## Lanes -/

@[simp] theorem heads_lanePutWork (n direction mode : Nat) : (s.lanePutWork n direction mode).state.heads = s.heads := by
  unfold State.lanePutWork
  repeat' split
  all_goals rfl

@[simp] theorem heads_laneOpenWork (n : Nat) : (s.laneOpenWork n).state.heads = s.heads := by
  unfold State.laneOpenWork
  dsimp only
  repeat' split
  all_goals rfl

@[simp] theorem heads_laneHoldWork (n : Nat) : (s.laneHoldWork n).state.heads = s.heads := by
  unfold State.laneHoldWork
  dsimp only
  repeat' split
  all_goals rfl

@[simp] theorem heads_laneReleaseWork (n : Nat) : (s.laneReleaseWork n).state.heads = s.heads := by
  unfold State.laneReleaseWork
  dsimp only
  repeat' split
  all_goals rfl

@[simp] theorem heads_endForClose (n : Nat) : (s.endForClose n).heads = s.heads := by
  unfold State.endForClose
  repeat' split
  all_goals simp

@[simp] theorem heads_laneCloseWork (n : Nat) : (s.laneCloseWork n).state.heads = s.heads := by
  unfold State.laneCloseWork State.closedByHost
  repeat' split
  all_goals simp

@[simp] theorem heads_admitTap (n : Nat) (e : Entry) (tag slot : Nat) (p : Person) : (s.admitTap n e tag slot p).heads = s.heads := by
  unfold State.admitTap
  split <;> rfl

@[simp] theorem heads_crossTap (n : Nat) (e : Entry) (tag slot : Nat) (p : Person) : (s.crossTap n e tag slot p).heads = s.heads := by
  unfold State.crossTap
  repeat' split
  all_goals simp

@[simp] theorem heads_cardTap (n : Nat) (e : Entry) (u : RawUid) (tag : Nat) : (s.cardTap n e u tag).heads = s.heads := by
  unfold State.cardTap
  repeat' split
  all_goals simp

@[simp] theorem heads_decideLane (e : Entry) (u : RawUid) (tag : Nat) : (s.decideLane e u tag).heads = s.heads := by
  unfold State.decideLane
  dsimp only
  repeat' split
  all_goals simp

@[simp] theorem heads_applyPassed (n : Nat) : (s.applyPassed n).heads = s.heads := by
  unfold State.applyPassed
  split <;> simp

@[simp] theorem heads_applyAccept (n : Nat) : (s.applyAccept n).heads = s.heads := by
  unfold State.applyAccept
  dsimp only
  split <;> rfl

@[simp] theorem heads_applyReject (n : Nat) : (s.applyReject n).heads = s.heads := by
  unfold State.applyReject
  split <;> rfl

@[simp] theorem heads_staleCrossing (n tag : Nat) : (s.staleCrossing n tag).heads = s.heads := by
  unfold State.staleCrossing
  repeat' split
  all_goals rfl

@[simp] theorem heads_expirePending (n : Nat) : (s.expirePending n).heads = s.heads := by
  unfold State.expirePending
  repeat' split
  all_goals simp

@[simp] theorem heads_expireOfficer (n : Nat) : (s.expireOfficer n).heads = s.heads := by
  unfold State.expireOfficer
  repeat' split
  all_goals rfl

/-! ## Banks and the sweeper -/

@[simp] theorem heads_bankFlushWork : s.bankFlushWork.state.heads = s.heads := by
  unfold State.bankFlushWork
  repeat' split
  all_goals simp

@[simp] theorem heads_bankReleaseWork (n : Nat) : (s.bankReleaseWork n).state.heads = s.heads := by
  unfold State.bankReleaseWork State.bankReleased
  dsimp only
  repeat' split
  all_goals simp

@[simp] theorem heads_crossingBaseWork (number : Nat) : (s.crossingBaseWork number).state.heads = s.heads := by
  unfold State.crossingBaseWork
  repeat' split
  all_goals rfl

@[simp] theorem heads_presenceSetWork (slot presence : Nat) : (s.presenceSetWork slot presence).state.heads = s.heads := by
  unfold State.presenceSetWork State.presenceSet
  repeat' split
  all_goals simp

@[simp] theorem heads_allaboardStartWork : s.allaboardStartWork.state.heads = s.heads := by
  unfold State.allaboardStartWork
  split <;> rfl

@[simp] theorem heads_sweep : s.sweep.heads = s.heads := by
  unfold State.sweep
  dsimp only
  repeat' split
  all_goals rfl

/-! ## Lines -/

@[simp] theorem heads_enqueuePush (l : Nat) : (s.enqueuePush l).heads = s.heads := by
  unfold State.enqueuePush
  dsimp only
  repeat' split
  all_goals rfl

@[simp] theorem heads_beginTurn (l : Nat) (t : Turn) : (s.beginTurn l t).heads = s.heads := rfl

@[simp] theorem heads_beginPoll (l address : Nat) (f : TurnFrame) : (s.beginPoll l address f).heads = s.heads := by
  unfold State.beginPoll State.reservePoll
  dsimp only
  split <;> simp

@[simp] theorem heads_startTurn (l : Nat) : (s.startTurn l).heads = s.heads := by
  unfold State.startTurn
  dsimp only
  repeat' split
  all_goals simp

end Aside

end Sys2Proof.Machine
end

section
/-! PROOFS. Every operation keeps at most one TUNING head in each neighbourhood other than 0 (R168): only a start makes a head TUNING, and
only HEAD PUT moves one to another neighbourhood, and both ask for the others first. A lemma `State.tuned.op` says it of the operation
`State.op`, so that a proof reads like the operation. -/

namespace Sys2Proof.Machine

open Sys2Proof

/-- Law 10 of a Head Table in its canonical form. -/
structure State.tuned (s : State) : Prop where
  wf : s.heads.wf = true
  law : s.tuningLaw

/-- A head rewritten so that it is TUNING only where it was. -/
def Head.Calm (old new : Head) : Prop := new.state = .TUNING → old.state = .TUNING ∧ new.neighbourhood = old.neighbourhood

theorem Head.Calm.beside {old new : Head} (state : new.state = old.state) (near : new.neighbourhood = old.neighbourhood) : old.Calm new :=
  fun tuning => ⟨state ▸ tuning, near⟩

theorem Head.Calm.settled {old new : Head} (state : new.state ≠ .TUNING) : old.Calm new := fun tuning => absurd tuning state

/-- No other place holds a TUNING head of the head's neighbourhood, or that is 0. -/
def State.aloneAt (s : State) (k : Nat) (y : Head) : Prop :=
  y.neighbourhood ≠ 0 → ∀ x ∈ s.heads.cells, x.1 ≠ k → x.2.state = .TUNING → x.2.neighbourhood ≠ y.neighbourhood

theorem aloneAt_of_limitsAllow {s : State} {h : HeadId} {hd : Head} (allowed : s.limitsAllow h hd = true) : s.aloneAt h.key hd :=
  (limitsAllow_iff.1 allowed).1

/-- R165: a TUNING head that a HEAD PUT may move finds no other TUNING in its new neighbourhood. -/
theorem aloneAt_of_accepted {s : State} {h : HeadId} {hd : Head} {cls : HeadClass} {f : HeadFields}
    (accepted : s.headPutRefusal h cls f = none)
    (held : s.head? h = some hd) (tuning : hd.state = .TUNING) (near : f.neighbourhood ≠ 0) :
    ∀ x ∈ s.heads.cells, x.1 ≠ h.key → x.2.state = .TUNING → x.2.neighbourhood ≠ f.neighbourhood := by
  unfold State.headPutRefusal at accepted
  split at accepted
  · cases accepted
  · simp only [held, Option.any_some, tuning, decide_true, near, ne_eq, not_false_eq_true, Bool.and_true, Bool.true_and,
      decide_eq_true_eq, ite_eq_right_iff, reduceCtorEq, imp_false, Decidable.not_not, tuningCount_eq_zero] at accepted
    intro x mem other tx same
    simpa [other, same] using accepted x mem tx

namespace State.tuned

theorem ite {c : Prop} [Decidable c] {t u : State} (ht : t.tuned) (hu : u.tuned) : (if c then t else u).tuned := by split <;> assumption

/-- A request that is refused in one case and does its work in the other. -/
theorem iteAnswer {c : Prop} [Decidable c] {x y : Answer} (hx : x.state.tuned) (hy : y.state.tuned) :
    (if c then x else y).state.tuned := by split <;> assumption

variable {s t : State} (hs : s.tuned)

include hs

/-! ## What is done to the Head Table -/

theorem elsewhere (heads : t.heads = s.heads) : t.tuned where
  wf := heads ▸ hs.wf
  law := by
    unfold State.tuningLaw
    rw [heads]
    exact hs.law

theorem kept {l : List Part} (keeps : Keeps l s t) (apart : l.contains .heads = false) : t.tuned :=
  hs.elsewhere (heads_of_keeps keeps apart)

/-- A TUNING head may be written where its neighbourhood has no other. -/
theorem put {k : Nat} {y : Head} (heads : t.heads = s.heads.set k y) (alone : y.state = .TUNING → s.aloneAt k y) : t.tuned where
  wf := heads ▸ Table.wf_set k y hs.wf
  law := by
    have clear : ∀ j x, j ≠ k → s.heads.get j = some x → x.state = .TUNING → y.state = .TUNING →
        x.neighbourhood = y.neighbourhood → y.neighbourhood = 0 := by
      intro j x other held tuning starting same
      refine Decidable.by_contra fun near => alone starting near _ ((Table.get_iff_mem hs.wf).1 held) other tuning same
    intro i j x z differ hx hz tx tz same
    rw [heads, Table.get_set] at hx hz
    split at hx <;> split at hz
    · omega
    · obtain rfl := Option.some.inj hx
      exact clear j z ‹_› hz tz tx same.symm
    · obtain rfl := Option.some.inj hz
      exact same.trans (clear i x ‹_› hx tx tz same)
    · exact hs.law i j x z differ hx hz tx tz same

theorem rewritten (only : ∀ k y, t.heads.get k = some y → ∃ x, s.heads.get k = some x ∧ x.Calm y) (wf : t.heads.wf = true) :
    t.tuned where
  wf := wf
  law := by
    intro i j x z differ hx hz tx tz same
    obtain ⟨x', hx', calmX⟩ := only i x hx
    obtain ⟨z', hz', calmZ⟩ := only j z hz
    obtain ⟨tx', nearX⟩ := calmX tx
    obtain ⟨tz', nearZ⟩ := calmZ tz
    rw [nearX]
    exact hs.law i j x' z' differ hx' hz' tx' tz' (by rw [← nearX, ← nearZ, same])

theorem modifyHead (h : HeadId) {f : Head → Head} (calm : ∀ x : Head, x.Calm (f x)) : (s.modifyHead h f).tuned := by
  refine hs.rewritten (fun k y hy => ?_) (Table.wf_modify _ _ hs.wf)
  rw [State.modifyHead_heads, Table.get_modify] at hy
  split at hy
  · rename_i same
    obtain ⟨x, hx, rfl⟩ := Option.map_eq_some_iff.1 hy
    exact ⟨x, same ▸ hx, calm x⟩
  · exact ⟨y, hy, .beside rfl rfl⟩

/-- A write beside the state and the neighbourhood. -/
theorem beside (h : HeadId) {f : Head → Head} (same : ∀ x : Head, ((f x).state, (f x).neighbourhood) = (x.state, x.neighbourhood)) :
    (s.modifyHead h f).tuned :=
  hs.modifyHead h fun x => .beside (congrArg Prod.fst (same x)) (congrArg Prod.snd (same x))

/-- A write of a state that is not TUNING. -/
theorem enters (h : HeadId) (st : HeadState) {f : Head → Head} (other : decide (st ≠ .TUNING) = true)
    (state : ∀ x, (f x).state = st) :
    (s.modifyHead h f).tuned :=
  hs.modifyHead h fun x => .settled (state x ▸ of_decide_eq_true other)

theorem raise (c : NoticeClass) (x : Subject) : (s.raise c x).tuned := hs.elsewhere rfl

theorem passTime (ms : Nat) : (s.passTime ms).tuned := hs.elsewhere rfl

theorem modifyLine (l : Nat) (f : Line → Line) : (s.modifyLine l f).tuned := hs.elsewhere rfl

theorem sendDecision (e : Entry) (x : FrameContent) : (s.sendDecision e x).tuned := hs.elsewhere rfl

theorem giveBackEntry (e : Entry) : (s.giveBackEntry e).tuned := hs.kept (giveBackEntry_keeps s e) rfl

theorem giveBackPoll (l : Nat) (holds : Option HeadClass) : (s.giveBackPoll l holds).tuned := hs.kept (giveBackPoll_keeps s l holds) rfl

theorem count (l : Nat) (f : LineCounters → LineCounters) : (s.count l f).tuned := hs.modifyLine l _

theorem foldl {β : Type} {f : State → β → State} (hf : ∀ {u : State} (b : β), u.tuned → (f u b).tuned) (bs : List β) :
    (bs.foldl f s).tuned := by
  induction bs generalizing s with
  | nil => exact hs
  | cons b rest ih => exact ih (hf b hs)

/-- Queuing a request and its reply touches the link alone. -/
theorem serve (c : Instr) {work : State → Answer} (hw : ∀ {u : State}, u.tuned → (work u).state.tuned) : (s.serve c work).tuned := by
  have received : (s.received c).tuned := by
    unfold State.received
    split
    · exact hs
    · exact hs.elsewhere rfl
  unfold State.serve
  split
  · exact hs
  · dsimp only
    split
    · exact (hw received).elsewhere rfl
    · exact received

/-- A request that leaves the Head Table as it is. -/
theorem serveAside (c : Instr) {work : State → Answer} (hw : ∀ u, (work u).state.heads = u.heads) : (s.serve c work).tuned :=
  hs.serve c fun hu => hu.elsewhere (hw _)

theorem takeOldest (c : HeadClass) {handle : Entry → Option (State → State)}
    (ha : ∀ {e apply u}, handle e = some apply → u.tuned → (apply u).tuned) : (s.takeOldest c handle).tuned := by
  have dropped := hs.kept (dropOldest_keeps s c) rfl
  unfold State.takeOldest
  split
  · exact hs
  · split
    · exact hs
    · exact ite (dropped.giveBackEntry _) (ite ((dropped.giveBackEntry _).raise _ _) (ha ‹_› dropped))

/-! ## Doors, purchases and folios -/

theorem grantAnswered (h : HeadId) (tag : Nat) : (s.modifyHead h (fun x => x.grantAnswered tag)).tuned := by
  refine hs.modifyHead h fun x => ?_
  unfold Head.grantAnswered
  repeat' split
  all_goals exact .beside rfl rfl

theorem decideDoor (e : Entry) (u : RawUid) (tag : Nat) : (s.decideDoor e u tag).tuned := by
  refine ((hs.sendDecision e _).modifyHead e.head fun x => ?_).kept (raisePerson_keeps _ _ _) rfl
  unfold Head.afterDecision
  split <;> exact .beside rfl rfl

theorem applyOpened (e : Entry) (tag : Option Nat) : (s.applyOpened e tag).tuned := by
  cases tag with
  | none => exact hs.kept (modifyCabinOf_keeps s e.head _) rfl
  | some t => exact (hs.kept (modifyCabinOf_keeps s e.head _) rfl).grantAnswered e.head t

theorem releaseHold (id : HeadId) (h : Hold) : (s.releaseHold id h).tuned :=
  (hs.kept (releaseAmounts_keeps s h) rfl).beside id fun _ => by rfl

theorem openHold (id : HeadId) (h : Hold) : (s.openHold id h).tuned := by
  have reserved : ((s.modifyFolio h.folio (fun f => f.reserved h s.epoch)).modifyPerson h.slot (fun p => p.reserved h)).tuned :=
    hs.elsewhere rfl
  have opened := reserved.beside id (f := fun hd => { hd with hold := some h }) fun _ => by rfl
  exact ite (opened.raise _ _) opened

theorem decideAuth (e : Entry) (venue : Nat) (u : RawUid) (tag : Nat) (raw : List RawLine) : (s.decideAuth e venue u tag raw).tuned := by
  unfold State.decideAuth
  split
  · exact hs.sendDecision e _
  · exact (hs.openHold _ _).sendDecision e _

theorem decidePurchase (e : Entry) (u : RawUid) (tag : Nat) (raw : List RawLine) : (s.decidePurchase e u tag raw).tuned := by
  unfold State.decidePurchase
  split
  · exact hs
  · split
    · exact hs.decideAuth e _ u tag raw
    · exact ite (hs.sendDecision e _) ((hs.releaseHold _ _).decideAuth e _ u tag raw)

theorem deferConfirm (e : Entry) (tag : Nat) (h : Hold) : (s.deferConfirm e tag h).tuned := by
  have marked := hs.beside e.head (f := fun hd => { hd with hold := some { h with confirming := true } }) fun _ => by rfl
  have joined : ({ s.modifyHead e.head (fun hd => { hd with hold := some { h with confirming := true } }) with
      deferred := s.deferred ++ [⟨e.head, tag, none⟩] } : State).tuned := marked.elsewhere rfl
  exact joined.giveBackEntry e

theorem confirmNow (e : Entry) (tag : Nat) (h : Hold) : (s.confirmNow e tag h).tuned :=
  ((hs.kept (applyConfirm_keeps s h) rfl).beside e.head fun _ => by rfl).sendDecision e _

theorem decideConfirm (e : Entry) (tag : Nat) : (s.decideConfirm e tag).tuned := by
  unfold State.decideConfirm
  split
  · exact hs.sendDecision e _
  · exact ite (hs.sendDecision e _) (ite (hs.giveBackEntry e) (ite (hs.deferConfirm e tag _) (hs.confirmNow e tag _)))

theorem releaseTagged (id : HeadId) (tag : Nat) : (s.releaseTagged id tag).tuned := by
  unfold State.releaseTagged
  split
  · exact hs
  · exact ite (hs.releaseHold id _) hs

theorem expireHold (id : HeadId) : (s.expireHold id).tuned := by
  unfold State.expireHold
  split
  · exact hs
  · exact ite (hs.passTime _) ((hs.passTime _).releaseHold id _)

theorem takePurchase {handle : Entry → Option (State → State)}
    (ha : ∀ {e apply u}, handle e = some apply → u.tuned → (apply u).tuned) : (s.takePurchase handle).tuned :=
  ite hs (hs.takeOldest _ ha)

theorem takeConfirm : s.takeConfirm.tuned := by
  unfold State.takeConfirm
  split
  · exact hs
  · split
    · refine ite (hs.elsewhere rfl) (hs.takePurchase ?_)
      rintro e _ u ⟨⟩ hu
      exact hu.decideConfirm e _
    · exact hs

theorem applyDeferred (d : Deferred) : (s.applyDeferred d).tuned := by
  have applied (h : Hold) := hs.kept (applyConfirm_keeps s h) rfl
  unfold State.applyDeferred
  split
  · exact applied _
  · split
    · exact hs
    · exact ite (((applied _).beside d.head fun _ => by rfl).modifyLine _ _) ((applied _).beside d.head fun _ => by rfl)

theorem scanCheck (sc : Scan) : (s.scanCheck sc).tuned := by
  have installed : ((s.modifyFolio sc.slot (fun f => f.installed sc)).raise .RECONCILE_DONE (.folio sc.slot)).tuned := hs.elsewhere rfl
  have completed : (s.completeReconcile sc).tuned := elsewhere (installed.foldl (fun d hu => hu.applyDeferred d) _) rfl
  exact ite completed (hs.elsewhere rfl)

theorem folioPutWork (slot : Nat) (f : FolioFields) : (s.folioPutWork slot f).state.tuned := by
  unfold State.folioPutWork
  split
  · split
    · exact hs.elsewhere rfl
    · exact hs.scanCheck _
  all_goals exact hs

theorem scanStep : s.scanStep.tuned := by
  unfold State.scanStep
  split
  · exact hs
  · exact hs.scanCheck _

/-! ## RESTART -/

/-- R179: no head is TUNING after RESTART. -/
theorem blocksRestarted : s.blocksRestarted.tuned := by
  have released := hs.foldl (fun h hu => hu.kept (releaseAmounts_keeps _ h) rfl) s.openHolds
  refine kept ?_ (evaluateJournal_keeps _) rfl
  refine released.rewritten (fun k y hy => ?_) (Table.wf_map _ released.wf)
  obtain ⟨x, hx, rfl⟩ := Option.map_eq_some_iff.1 ((Table.get_map _ _ _).symm.trans hy)
  refine ⟨x, hx, .settled ?_⟩
  unfold State.headRestarted
  dsimp only
  split <;> decide

theorem restartWork : s.restartWork.state.tuned := by
  have silenced : ({ s with link := s.link.withoutNotices } : State).clearLatches.tuned := hs.elsewhere rfl
  have noticed {u : State} (hu : u.tuned) : u.noticeBeforeReply.tuned := by
    have drawn : ({ u with draws := u.draws + 1 } : State).tuned := hu.elsewhere rfl
    exact ite (drawn.elsewhere (heads_queueNotice _)) drawn
  exact iteAnswer hs (noticed silenced.blocksRestarted)

/-! ## Heads -/

theorem leaveOnline (h : HeadId) : (s.leaveOnline h).tuned := by
  cases held : s.head? h with
  | none => simpa [State.leaveOnline, held] using hs
  | some hd =>
    by_cases state : hd.state = .ONLINE
    · obtain ⟨outcome, heads⟩ := heads_leaveOnline held state
      exact hs.put heads fun tuning => absurd (state.symm.trans tuning) (by decide)
    · rwa [leaveOnline_of_notOnline held state]

theorem faultHead (h : HeadId) (r : FaultReason) (code : Nat) : (s.faultHead h r code).tuned := by
  have left := hs.leaveOnline h
  have removed : (if r.removesTune = true then (s.leaveOnline h).removeTuneFrame h else s.leaveOnline h).tuned :=
    ite (left.modifyLine _ _) left
  exact (removed.enters h .FAULTED rfl fun _ => by rfl).raise _ _

theorem enqueueTune (h : HeadId) (kind : TuneKind) : (s.enqueueTune h kind).tuned :=
  ite ((hs.modifyLine _ _).beside h fun _ => by rfl) (hs.beside h fun _ => by rfl)

/-- R168: a start that the limits allow. -/
theorem startTune {h : HeadId} {hd : Head} (held : s.head? h = some hd) (allowed : s.limitsAllow h hd = true) (kind : TuneKind) :
    (s.startTune h kind).tuned := by
  obtain ⟨x, left, -, heads⟩ := heads_startTune held kind
  refine hs.put heads fun _ => ?_
  unfold State.aloneAt Head.tuneStarted
  rw [left.neighbourhood_eq]
  exact aloneAt_of_limitsAllow allowed

theorem scheduleOne : s.scheduleOne.tuned := by
  unfold State.scheduleOne
  split
  · exact hs
  · rename_i next
    split
    · exact hs
    · rename_i held
      obtain ⟨t, candidate, -⟩ := nextStart_first hs.wf next held
      obtain ⟨-, allowed, -⟩ := candidate_iff.1 candidate
      rw [HeadId.ofKey_key (State.inRange_of_head held)] at allowed
      exact hs.startTune held allowed _

theorem schedule (n : Nat) : (State.schedule n s).tuned := by
  induction n generalizing s with
  | zero => exact hs
  | succ n ih =>
    unfold State.schedule
    split
    · exact hs
    · exact ih hs.scheduleOne

theorem enterOnline (h : HeadId) : (s.enterOnline h).tuned := by
  have entered := hs.enters h .ONLINE (f := fun hd => { hd with state := .ONLINE }) rfl fun _ => by rfl
  unfold State.enterOnline
  dsimp only
  split
  · exact entered.kept (cabinEntry_keeps _ _) rfl
  · exact entered

theorem finishTune (h : HeadId) (hd : Head) (low high field : Nat) : (s.finishTune h hd low high field).tuned := by
  unfold State.finishTune
  dsimp only
  split
  · exact (hs.beside h fun _ => by rfl).faultHead h _ _
  · exact ite (((hs.beside h fun _ => by rfl).enterOnline h).raise _ _) ((hs.beside h fun _ => by rfl).enterOnline h)

theorem endInHand (h : HeadId) : (s.endInHand h).tuned := ((hs.leaveOnline h).kept (tuneFrameEnds_keeps _ h) rfl).beside h fun _ => by rfl

theorem bind (h : HeadId) (cls : HeadClass) (bound : Nat) : (s.bind h cls bound).tuned := hs.kept (bind_keeps s h cls bound) rfl

theorem unbind (cls : HeadClass) (bound : Nat) : (s.unbind cls bound).tuned := hs.kept (unbind_keeps s cls bound) rfl

theorem raiseRecovered (h : HeadId) (was : HeadState) : (s.raiseRecovered h was).tuned := hs.kept (raiseRecovered_keeps s h was) rfl

/-- R165: HEAD PUT moves a TUNING head only to a neighbourhood that has no other. -/
theorem headPutWork (h : HeadId) (f : HeadFields) : (s.headPutWork h f).state.tuned := by
  have byLine (x : Head) (running : Bool) : (x.byLine running).state ≠ .TUNING := by cases running <;> exact nofun
  unfold State.headPutWork
  split
  · exact hs
  · split
    · exact hs
    · rename_i cls _ _ accepted
      split
      · have created := hs.put (t := s.setHead h ((Head.fresh cls f).byLine (s.lineRunning h.line))) rfl
          fun tuning => absurd tuning (byLine _ _)
        exact created.bind h cls f.bound
      · rename_i hd held
        refine iteAnswer (hs.put (heads_modifyHead held _) fun tuning => aloneAt_of_accepted accepted held tuning) ?_
        exact ((((hs.endInHand h).unbind _ _).bind h cls f.bound).modifyHead h fun _ => .settled (byLine _ _)).raiseRecovered h _

theorem headDropWork (h : HeadId) : (s.headDropWork h).state.tuned := by
  refine iteAnswer hs ?_
  split
  · exact hs
  · have unbound := ((hs.endInHand h).modifyLine h.line (fun ln => ln.dropHead h.address)).unbind ‹Head›.cls ‹Head›.bound
    refine raiseRecovered ?_ h _
    refine unbound.rewritten (fun k y hy => ⟨y, ?_, .beside rfl rfl⟩) (Table.wf_erase _ unbound.wf)
    rw [Table.get_erase] at hy
    split at hy
    · cases hy
    · exact hy

theorem headTuneWork (h : HeadId) (kind : Nat) : (s.headTuneWork h kind).state.tuned := by
  unfold State.headTuneWork
  split
  · exact hs
  · refine iteAnswer hs ?_
    split
    · exact hs
    · rename_i hd held
      refine iteAnswer hs ?_
      split
      · exact hs
      · rename_i free
        have allowed : s.limitsAllow h hd = true := by simp_all
        exact hs.startTune held allowed _

theorem settingsPushWork (l dest : Nat) (page : List Byte) (map : Option (List Byte)) :
    (s.settingsPushWork l dest page map).state.tuned := by
  unfold State.settingsPushWork
  split
  · exact hs
  · exact ite ((hs.modifyLine l _).beside _ fun _ => by rfl) (hs.modifyLine l _)

theorem enqueueWaitingTune (h : HeadId) : (s.enqueueWaitingTune h).tuned := by
  unfold State.enqueueWaitingTune
  split
  · exact hs
  · exact ite (hs.enqueueTune h _) hs

theorem expireTune (h : HeadId) : (s.expireTune h).tuned := by
  unfold State.expireTune
  split
  · exact hs
  · split
    · exact (hs.passTime _).faultHead h _ _
    · exact hs

theorem expireRetry (h : HeadId) : (s.expireRetry h).tuned := by
  unfold State.expireRetry
  split
  · exact hs
  · split
    · exact ((hs.passTime _).enters h .PROBING rfl fun _ => by rfl).raise _ _
    · exact hs

theorem becomeDue (h : HeadId) : (s.becomeDue h).tuned := by
  unfold State.becomeDue
  split
  · exact hs
  · split
    · exact (hs.passTime _).beside h fun _ => by rfl
    · exact hs

theorem becomeOverdue (h : HeadId) : (s.becomeOverdue h).tuned := by
  unfold State.becomeOverdue
  split
  · exact hs
  · split
    · exact ite hs (((hs.passTime _).beside h fun _ => by rfl).raise _ _)
    · exact hs

/-! ## Reader lines -/

theorem lineStartWork (l : Nat) : (s.lineStartWork l).state.tuned := by
  have running : (s.setLine l { Line.powerOn with state := .RUNNING }).tuned := hs.elsewhere rfl
  exact iteAnswer hs (iteAnswer hs (running.foldl (fun h hu => hu.enters h .PROBING rfl fun _ => by rfl) _))

theorem lineEmptied (l : Nat) : (s.lineEmptied l).tuned := by
  unfold State.lineEmptied
  dsimp only
  split
  · exact (hs.kept (giveBackIntake_keeps s _) rfl).modifyLine l _
  · exact hs.modifyLine l _

theorem stopHead (h : HeadId) : (s.stopHead h).tuned := by
  unfold State.stopHead
  split
  · exact hs
  · exact ((hs.leaveOnline h).enters h .IDLE rfl fun _ => by rfl).raiseRecovered h _

theorem lineStopWork (l : Nat) : (s.lineStopWork l).state.tuned :=
  iteAnswer hs (iteAnswer (((hs.lineEmptied l).foldl (fun h hu => hu.stopHead h) _).modifyLine l _) hs)

theorem endTurn (l : Nat) (t : Turn) : (s.endTurn l t).tuned := ite (hs.modifyLine l _) ((hs.modifyLine l _).beside _ fun _ => by rfl)

theorem groupSent (l : Nat) : (s.groupSent l).tuned := by
  unfold State.groupSent
  split
  · exact ite hs ((hs.endTurn l _).modifyLine l _)
  · exact hs

theorem missTurn (h : HeadId) : (s.missTurn h).tuned := by
  unfold State.missTurn
  split
  · exact hs
  · exact ite (ite ((hs.beside h fun _ => by rfl).faultHead h _ _) (hs.beside h fun _ => by rfl)) hs

theorem failPush (h : HeadId) : (s.failPush h).tuned := by
  unfold State.failPush
  split
  · exact hs
  · exact ite ((hs.modifyLine _ _).beside h fun _ => by rfl) hs

theorem resendTune (h : HeadId) : (s.resendTune h).tuned := by
  unfold State.resendTune
  split
  · exact hs
  · exact ite (hs.enqueueTune h _) hs

theorem frameFailed (h : HeadId) (dropped : Bool) (f : OutFrame) : (s.frameFailed h dropped f).tuned := by
  unfold State.frameFailed
  split
  · exact hs.kept (indicatorLost_keeps s _) rfl
  · exact ite hs (hs.failPush h)
  · exact ite hs (hs.resendTune h)
  all_goals exact hs

theorem failTurn (l : Nat) (t : Turn) : (s.failTurn l t).tuned := by
  have ended := ((hs.endTurn l t).count l (fun c => { c with failed := bump c.failed })).giveBackPoll l t.holds
  have missed : (if t.dropped then _ else State.missTurn _ _).tuned := ite ended (ended.missTurn ⟨l, t.target⟩)
  unfold State.failTurn
  dsimp only
  split
  · exact missed.frameFailed _ _ _
  all_goals exact missed

theorem failAttempt (l : Nat) (t : Turn) : (s.failAttempt l t).tuned := ite (hs.failTurn l t) ((hs.modifyLine l _).count l _)

theorem routeEvent (h : HeadId) (hd : Head) (holds : Option HeadClass) (kind : Nat) (p : List Byte) :
    (s.routeEvent h hd holds kind p).tuned := by
  refine ite ((hs.giveBackPoll _ holds).faultHead h _ _) ?_
  split
  · exact hs.kept (enterIntake_keeps s h _ _) rfl
  · exact (hs.giveBackPoll _ holds).count _ _

theorem takeEvent (h : HeadId) (hd : Head) (holds : Option HeadClass) (seq lost kind : Nat) (p : List Byte) :
    (s.takeEvent h hd holds seq lost kind p).tuned :=
  ite ((hs.giveBackPoll _ holds).count _ _) (((hs.beside h fun _ => by rfl).count _ _).routeEvent h hd holds kind p)

theorem takeIdent (h : HeadId) (hd : Head) (code : Nat) : (s.takeIdent h hd code).tuned :=
  ite (ite ((hs.beside h fun _ => by rfl).schedule _) ((hs.beside h fun _ => by rfl).faultHead h _ _)) hs

theorem takeStale (h : HeadId) (hd : Head) (x : FrameContent) : (s.takeStale h hd x).tuned := by
  unfold State.takeStale
  split
  · exact hs.grantAnswered h _
  · exact hs.releaseTagged h _
  · exact hs.elsewhere (heads_staleCrossing s _ _)
  · exact hs.elsewhere (heads_staleCrossing s _ _)
  · exact hs

theorem takeSegmentAck (h : HeadId) (more : Bool) : (s.takeSegmentAck h more).tuned := by
  unfold State.takeSegmentAck
  split
  · exact hs
  · exact ite hs (ite (hs.modifyLine _ _) ((hs.modifyLine _ _).beside h fun _ => by rfl))

theorem takeAck (h : HeadId) (x : FrameContent) : (s.takeAck h x).tuned := by
  unfold State.takeAck
  split
  · exact hs.takeSegmentAck h _
  all_goals exact hs

theorem takeAnswer (h : HeadId) (hd : Head) (t : Turn) (answer : HeadAnswer) : (s.takeAnswer h hd t answer).tuned := by
  cases answer with
  | noEvent => exact hs.giveBackPoll _ _
  | event seq lost kind p => exact ite (hs.takeEvent h hd _ seq lost kind p) (hs.giveBackPoll _ _)
  | tuning => exact hs
  | tuneDone low high field => exact ite (hs.finishTune h hd low high field) hs
  | ident code => exact hs.takeIdent h hd code
  | taken => exact hs
  | stale =>
    unfold State.takeAnswer
    dsimp only
    split
    · exact ite (hs.takeStale h hd _) hs
    · exact hs
  | ack =>
    unfold State.takeAnswer
    dsimp only
    split
    · exact hs.takeAck h _
    · exact hs

theorem goodAnswer (l : Nat) (t : Turn) (answer : HeadAnswer) : (s.goodAnswer l t answer).tuned := by
  have ended := hs.endTurn l t
  unfold State.goodAnswer
  dsimp only
  split
  · exact ended.giveBackPoll l _
  · exact (ended.beside _ fun _ => by rfl).takeAnswer _ _ t answer

theorem receiveAnswer (l : Nat) (bytes : List Byte) : (s.receiveAnswer l bytes).tuned := by
  unfold State.receiveAnswer
  split
  · exact hs
  · split
    · exact hs.goodAnswer l _ _
    all_goals exact (hs.count l _).failAttempt l _

theorem answerLate (l : Nat) : (s.answerLate l).tuned := by
  unfold State.answerLate
  split
  · exact hs
  · exact hs.failAttempt l _

end State.tuned

end Sys2Proof.Machine
end

section
/-! PROOFS. Every command keeps at most one TUNING head in each neighbourhood other than 0, and so does every step (R168). -/

namespace Sys2Proof.Machine

open Sys2Proof

theorem State.reset_tuned : State.reset.tuned where
  wf := rfl
  law := fun _ _ _ _ _ hx => nomatch hx

/-- Every command answers a next state that keeps Law 10. -/
theorem State.tuned.exec {s : State} (hs : s.tuned) (c : Instr) : ∃ u, exec c s = .next u ∧ u.tuned := by
  cases c with
  | powerOnReset => exact ⟨_, rfl, State.reset_tuned.elsewhere rfl⟩
  | requestFrameTaken bytes | truncatedFrame bytes => exact ⟨_, rfl, hs.elsewhere (heads_transact s bytes)⟩
  | readTransaction count => exact ⟨_, rfl, ite hs (hs.elsewhere rfl)⟩
  | noticeQueued => exact ⟨_, rfl, hs.elsewhere (heads_queueNotice s)⟩
  | shipClockTick => exact ⟨_, rfl, hs.passTime _⟩
  | clockSet | paramSet | noticeMask | noticeClear | personPut | personDrop | cardEnrol | cardPurge | cabinPut | cabinDrop | privacySet
  | folioLimit | folioState | folioFree | venuePut | upstreamSet | journalBase | chargesRetire | lanePut | laneOpen | laneHold
  | laneRelease | laneClose | bankFlush | bankRelease | crossingBase | presenceSet
  | allaboardStart =>
    exact ⟨_, rfl, hs.serveAside _ (fun u => by simp)⟩
  | cardRevoke | cardSuspend | cardResume => exact ⟨_, rfl, hs.serveAside _ (fun u => heads_cardChange u _ _ _)⟩
  | clockGet | paramGet | statusGet | personGet | cardFind | cabinGet | folioGet | chargesRead | laneGet | crossingsRead | censusGet
  | missingRead | lineGet | headGet =>
    exact ⟨_, rfl, hs.serveAside _ (fun u => by simp)⟩
  | restart tag => exact ⟨_, rfl, hs.serve _ (fun hu => hu.restartWork)⟩
  | folioPut tag slot fields => exact ⟨_, rfl, hs.serve _ (fun hu => hu.folioPutWork slot fields)⟩
  | lineStart tag line => exact ⟨_, rfl, hs.serve _ (fun hu => hu.lineStartWork line)⟩
  | lineStop tag line => exact ⟨_, rfl, hs.serve _ (fun hu => hu.lineStopWork line)⟩
  | headPut tag line address fields => exact ⟨_, rfl, hs.serve _ (fun hu => hu.headPutWork ⟨line, address⟩ fields)⟩
  | headDrop tag line address => exact ⟨_, rfl, hs.serve _ (fun hu => hu.headDropWork ⟨line, address⟩)⟩
  | headTune tag line address kind => exact ⟨_, rfl, hs.serve _ (fun hu => hu.headTuneWork ⟨line, address⟩ kind)⟩
  | settingsPush tag line dest page map => exact ⟨_, rfl, hs.serve _ (fun hu => hu.settingsPushWork line dest page map)⟩
  | indicatorOnRoom line => exact ⟨_, rfl, hs.elsewhere (heads_serveOwed s line)⟩
  | reconcileScanStep => exact ⟨_, rfl, hs.scanStep⟩
  | sweepStep => exact ⟨_, rfl, hs.elsewhere (heads_sweep s)⟩
  | settingsPushEnqueue line => exact ⟨_, rfl, hs.elsewhere (heads_enqueuePush s line)⟩
  | turnStart line => exact ⟨_, rfl, hs.elsewhere (heads_startTurn s line)⟩
  | groupFrameSent line => exact ⟨_, rfl, hs.groupSent line⟩
  | answerReceived line bytes => exact ⟨_, rfl, hs.receiveAnswer line bytes⟩
  | answerTimeout line => exact ⟨_, rfl, hs.answerLate line⟩
  | doorTap =>
    refine ⟨_, rfl, hs.takeOldest _ fun h hu => ?_⟩
    split at h <;> cases h
    exact hu.decideDoor _ _ _
  | opened =>
    refine ⟨_, rfl, hs.takeOldest _ fun h hu => ?_⟩
    split at h <;> cases h
    exact hu.applyOpened _ _
  | notOpened =>
    refine ⟨_, rfl, hs.takeOldest _ fun h hu => ?_⟩
    split at h <;> cases h
    exact hu.grantAnswered _ _
  | privacyOn | privacyOff | deadboltOn | deadboltOff =>
    refine ⟨_, rfl, hs.takeOldest _ fun h hu => ?_⟩
    split at h <;> cases h
    exact hu.kept (modifyCabinOf_keeps _ _ _) rfl
  | purchaseTap =>
    refine ⟨_, rfl, hs.takePurchase fun h hu => ?_⟩
    split at h <;> cases h
    exact hu.decidePurchase _ _ _ _
  | confirm => exact ⟨_, rfl, hs.takeConfirm⟩
  | void =>
    refine ⟨_, rfl, hs.takePurchase fun h hu => ?_⟩
    split at h <;> cases h
    exact hu.releaseTagged _ _
  | holdExpiry line address => exact ⟨_, rfl, hs.expireHold ⟨line, address⟩⟩
  | laneTap | passed | officerAccept | officerReject =>
    refine ⟨_, rfl, hs.takeOldest _ fun h hu => ?_⟩
    split at h <;> cases h
    exact hu.elsewhere (by simp)
  | pendingTimeout lane => exact ⟨_, rfl, hs.elsewhere (heads_expirePending s lane)⟩
  | officerWaitExpiry lane => exact ⟨_, rfl, hs.elsewhere (heads_expireOfficer s lane)⟩
  | tuneStart => exact ⟨_, rfl, hs.scheduleOne⟩
  | tuneFrameEnqueue line address => exact ⟨_, rfl, hs.enqueueWaitingTune ⟨line, address⟩⟩
  | tuneTimeout line address => exact ⟨_, rfl, hs.expireTune ⟨line, address⟩⟩
  | faultRetryExpiry line address => exact ⟨_, rfl, hs.expireRetry ⟨line, address⟩⟩
  | headDueForTune line address => exact ⟨_, rfl, hs.becomeDue ⟨line, address⟩⟩
  | tuneOverdue line address => exact ⟨_, rfl, hs.becomeOverdue ⟨line, address⟩⟩

/-- Settles O59: the command at the front of the queue keeps Law 10, since only a start that the limits allow makes a head TUNING and only
an accepted HEAD PUT moves one; the passing of a millisecond touches no head. -/
theorem stepKeepsTuningLaw : Obligations.StepKeepsTuningLaw := by
  intro s t wf law h
  have hs : s.tuned := ⟨wf, law⟩
  unfold step at h
  split at h
  · cases h
    exact (hs.passTime 1).law
  · rename_i c rest _
    have queued : ({ s with pending := rest } : State).tuned := hs.elsewhere rfl
    obtain ⟨u, next, hu⟩ := queued.exec c
    rw [next] at h
    cases h
    exact hu.law

end Sys2Proof.Machine
end

section
/-! PROOFS. The head timers (R169, R172 to R174): what a fault makes of a head that is not ONLINE, and what each timer that runs out
does. -/

namespace Sys2Proof.Machine

open Sys2Proof

section Faults

variable {s : State} {h : HeadId} {hd : Head}

/-! ## Faults (R169, R172) -/

theorem address_beq (m n : Nat) : (m == n) = decide (m = n) := rfl

theorem isTuneFor_eq (a : Nat) : isTuneFor a = fun f => decide (f.dest = a ∧ f.content.kind = 0x06) := by
  funext f
  obtain ⟨dest, content⟩ := f
  cases content <;> simp [isTuneFor, FrameContent.kind, address_beq]

/-- The lines once the TUNE frame that is still queued for a head has gone unsent (R165, R169). -/
def State.linesWithoutTune (s : State) (h : HeadId) : Table Line :=
  s.lines.set h.line { s.line h.line with
    queue := (s.line h.line).queueWithout (fun f => decide (f.dest = h.address ∧ f.content.kind = 0x06)) }

theorem removeTuneFrame_eq (s : State) (h : HeadId) : s.removeTuneFrame h = { s with lines := s.linesWithoutTune h } := by
  rw [State.removeTuneFrame, State.modifyLine, removeFrames_eq, isTuneFor_eq]
  rfl

/-- A head that has become FAULTED, with the retry timer of its reason. -/
def Head.faulted (hd : Head) (reason : FaultReason) (retry : Option Timer) : Head :=
  { hd.tuneOver with state := .FAULTED, faultReason := some reason, retryTimer := retry }

/-- The fault retry timer that starts with a fault: none for CLASS_MISMATCH (R172). -/
def State.retryAfter (s : State) (reason : FaultReason) : Option Timer :=
  if reason = .CLASS_MISMATCH then none else some (s.startTimer (1000 * s.params.faultRetry))

/-- R172: a head that was not ONLINE becomes FAULTED; only the reasons of R169 remove its TUNE frame. -/
theorem faultHead_of_notOnline (held : s.head? h = some hd) (state : hd.state ≠ .ONLINE) (reason : FaultReason) (code : Nat) :
    s.faultHead h reason code =
      ({ s with lines := if reason.removesTune then s.linesWithoutTune h else s.lines,
                heads := s.heads.set h.key (hd.faulted reason (s.retryAfter reason)) } : State).raise
        .HEAD_STATE (.headState h (some .FAULTED) (some reason) code) := by
  unfold State.faultHead
  dsimp only
  rw [leaveOnline_of_notOnline held state]
  by_cases removes : reason.removesTune = true
  · rw [if_pos removes, if_pos removes, removeTuneFrame_eq,
      modifyHead_of_head (s := { s with lines := s.linesWithoutTune h }) held]
    rfl
  · rw [if_neg removes, if_neg removes, modifyHead_of_head held]
    rfl

end Faults

/-- A write of lines and heads keeps every other part. -/
theorem keeps_linesHeads (s : State) (lines : Table Line) (heads : Table Head) :
    Keeps [.lines, .heads] s { s with lines := lines, heads := heads } := by
  intro p hp
  cases p <;> simp_all [Part.same]

section Timers

variable {s : State} {l a : Nat} {hd : Head}

/-! ## Time by the count's difference (R157) -/

theorem since_passTime (s : State) (ms t : Nat) : (s.passTime ms).since t = (s.since t + ms) % mod32 := by
  simp only [State.since, State.passTime_elapsed, Nat.mod_add_mod]
  congr 1
  omega

/-- R174: a head that was not yet overdue is overdue once the time to it has passed. -/
theorem overdue_reached {last next span : Nat} (is : span = (next + (mod32 - last % mod32)) % mod32) (fits : 2 * span + 1 < mod32) :
    2 * span < (s.passTime (s.msUntilOverdue last next)).since last := by
  have below : s.since last < mod32 := Nat.mod_lt _ (by decide)
  rw [since_passTime, State.msUntilOverdue, ← is]
  by_cases late : 2 * span + 1 ≤ s.since last
  · rw [Nat.sub_eq_zero_of_le late, Nat.add_zero, Nat.mod_eq_of_lt below]
    exact late
  · rw [Nat.add_sub_cancel' (by omega), Nat.mod_eq_of_lt fits]
    exact Nat.lt_succ_self _

/-! ## The tune timer (R169) -/

theorem expireTune_of_other (held : s.head? ⟨l, a⟩ = some hd) (other : hd.state ≠ .TUNING ∨ hd.tuneTimer = none) :
    s.expireTune ⟨l, a⟩ = s := by
  unfold State.expireTune
  rw [held]
  dsimp only
  split
  · simp_all
  · rfl

theorem expireTune_of_tuning {tm : Timer} (held : s.head? ⟨l, a⟩ = some hd) (state : hd.state = .TUNING)
    (timer : hd.tuneTimer = some tm) : s.expireTune ⟨l, a⟩ = (s.passTime (tm.duration - s.since tm.start)).faultHead ⟨l, a⟩ .TUNE_TIMEOUT 0 := by
  unfold State.expireTune
  rw [held]
  dsimp only
  rw [state, timer]
  rfl

/-! ## The retry timer (R172) -/

theorem expireRetry_of_other (held : s.head? ⟨l, a⟩ = some hd) (other : hd.state ≠ .FAULTED ∨ hd.retryTimer = none) :
    s.expireRetry ⟨l, a⟩ = s := by
  unfold State.expireRetry
  rw [held]
  dsimp only
  split
  · simp_all
  · rfl

theorem expireRetry_of_faulted {tm : Timer} (held : s.head? ⟨l, a⟩ = some hd) (state : hd.state = .FAULTED)
    (timer : hd.retryTimer = some tm) :
    s.expireRetry ⟨l, a⟩ =
      ({ s.passTime (tm.duration - s.since tm.start) with
          heads := s.heads.set (HeadId.key ⟨l, a⟩) { hd.probing with retryTimer := none } } : State).raise
        .HEAD_STATE (.headState ⟨l, a⟩ (some .PROBING) none 0) := by
  unfold State.expireRetry
  rw [held]
  dsimp only
  rw [state, timer]
  dsimp only
  rw [modifyHead_of_head (s := s.passTime _) held]
  rfl

/-! ## The due time and the overdue time (R173, R174) -/

theorem becomeDue_of_other (held : s.head? ⟨l, a⟩ = some hd) (other : hd.state ≠ .ONLINE ∨ hd.nextDue = none) :
    s.becomeDue ⟨l, a⟩ = s := by
  unfold State.becomeDue
  rw [held]
  dsimp only
  split
  · simp_all
  · rfl

theorem becomeDue_of_online {due : Nat} (held : s.head? ⟨l, a⟩ = some hd) (state : hd.state = .ONLINE) (next : hd.nextDue = some due) :
    s.becomeDue ⟨l, a⟩ = { s.passTime (s.msUntil due) with heads := s.heads.set (HeadId.key ⟨l, a⟩) { hd with due := true } } := by
  simp only [State.becomeDue, held, state, next, modifyHead_of_head (s := s.passTime _) held]
  rfl

theorem becomeOverdue_of_other (held : s.head? ⟨l, a⟩ = some hd)
    (other : hd.state ≠ .ONLINE ∨ hd.nextDue = none ∨ hd.notified = true) : s.becomeOverdue ⟨l, a⟩ = s := by
  unfold State.becomeOverdue
  rw [held]
  dsimp only
  split
  · exact if_pos (by simp_all)
  · rfl

theorem becomeOverdue_of_online {last due : Nat} (held : s.head? ⟨l, a⟩ = some hd) (state : hd.state = .ONLINE)
    (next : hd.nextDue = some due) (fresh : hd.notified = false) (tuned : hd.lastTune = some last) :
    s.becomeOverdue ⟨l, a⟩ =
      ({ s.passTime (s.msUntilOverdue last due) with
          heads := s.heads.set (HeadId.key ⟨l, a⟩) { hd with notified := true } } : State).raise .TUNE_OVERDUE (.head ⟨l, a⟩) := by
  simp only [State.becomeOverdue, held, state, next, fresh, tuned, modifyHead_of_head (s := s.passTime _) held]
  rfl

/-- Settles O52: each timer's step by the state of its head and the presence of the timer. -/
theorem headTimersRunOut : Obligations.HeadTimersRunOut := by
  intro s l a
  refine ⟨fun absent => ?_, fun hd held => ⟨fun other => ?_, fun tm state timer => ?_, fun other => ?_, fun tm state timer => ?_,
    fun other => ⟨?_, ?_⟩, fun due state next => ⟨?_, fun notified => ?_, fun last fresh tuned => ⟨?_, ?_⟩⟩⟩⟩
  case refine_1 =>
    have still : s.expireTune ⟨l, a⟩ = s ∧ s.expireRetry ⟨l, a⟩ = s ∧ s.becomeDue ⟨l, a⟩ = s
        ∧ s.becomeOverdue ⟨l, a⟩ = s := by
      simp [State.expireTune, State.expireRetry, State.becomeDue, State.becomeOverdue, absent]
    obtain ⟨tune, retry, due, overdue⟩ := still
    exact ⟨congrArg _ tune, congrArg _ retry, congrArg _ due, congrArg _ overdue⟩
  · exact congrArg _ (expireTune_of_other held other)
  · have online : hd.state ≠ .ONLINE := by simp [state]
    have hh := State.inRange_of_head held
    have run := (expireTune_of_tuning held state timer).trans
      (faultHead_of_notOnline (s := s.passTime (tm.duration - s.since tm.start)) held online .TUNE_TIMEOUT 0)
    have keeps : Keeps [.elapsed, .clock, .lines, .heads, .latches] s (s.expireTune ⟨l, a⟩) := by
      rw [run]
      exact (((passTime_keeps s _).weaken (by simp)).trans ((keeps_linesHeads _ _ _).weaken (by simp))).trans
        ((raise_keeps _ _ _).weaken (by simp))
    have heads := congrArg State.heads run
    have lines := congrArg State.lines run
    refine ⟨_, hd.faulted .TUNE_TIMEOUT _, rfl, keeps, by rw [run]; rfl, by rw [run]; rfl,
      (State.head_set hh heads _).trans (if_pos rfl), fun o other => (State.head_set hh heads o).trans (if_neg other), rfl, rfl, rfl, rfl,
      rfl, (State.line_set lines l).trans (if_pos rfl), fun m other => (State.line_set lines m).trans (if_neg other), ?_⟩
    rw [run, State.latch_raise, if_pos rfl]
    rfl
  · exact congrArg _ (expireRetry_of_other held other)
  · exact congrArg _ (expireRetry_of_faulted held state timer)
  · exact congrArg _ (becomeDue_of_other held other)
  · exact congrArg _ (becomeOverdue_of_other held (other.imp_right .inl))
  · exact congrArg _ (becomeDue_of_online held state next)
  · exact congrArg _ (becomeOverdue_of_other held (.inr (.inr notified)))
  · exact congrArg _ (becomeOverdue_of_online held state next fresh tuned)
  · exact overdue_reached rfl

end Timers

end Sys2Proof.Machine
end

section
/-! PROOFS. Tune starts (R168, R173, R175): when a head is idle, what a start does to the head and its line, what HEAD TUNE refuses, and
which head the scheduler starts. -/

namespace Sys2Proof.Machine

open Sys2Proof

section Idle

variable {s : State} {h : HeadId} {hd x : Head}

/-! ## Idle heads (R173) -/

/-- A head is idle: no entry of an intake, no poll that holds reservations, no decision or settings frame, no hold, no last grant, and
for a lane head a CLOSED lane. -/
def State.Idle (s : State) (h : HeadId) (x : Head) : Prop :=
  (∀ i, ∀ e ∈ (s.intake i).entries, e.head ≠ h)
    ∧ (∀ t, (s.line h.line).turn = some t → t.target = h.address → t.holds = none)
    ∧ (∀ f ∈ (s.line h.line).queue, f.dest = h.address → f.content.kind ≠ 0x04 ∧ f.content.kind ≠ 0x07)
    ∧ x.hold = none ∧ x.lastGrant = none ∧ (x.cls = .GANGWAY_LANE → (s.lane x.bound).state = .CLOSED)

theorem isSegmentFor_eq (a : Nat) : isSegmentFor a = fun f => decide (f.dest = a ∧ f.content.kind = 0x07) := by
  funext f
  obtain ⟨dest, content⟩ := f
  cases content <;> simp [isSegmentFor, FrameContent.kind, address_beq]

theorem hasFrom_eq_false {q : Intake} : q.hasFrom h = false ↔ ∀ e ∈ q.entries, e.head ≠ h := by
  simp [Intake.hasFrom, List.any_eq_false]

theorem intakes_iff {p : Intake → Prop} : (∀ c, p (s.intake c)) ↔ p s.doorIn ∧ p s.purchaseIn ∧ p s.laneIn :=
  ⟨fun all => ⟨all .CABIN_DOOR, all .VENUE_TERMINAL, all .GANGWAY_LANE⟩, fun ⟨door, purchase, lane⟩ c => by
    cases c
    · exact door
    · exact purchase
    · exact lane⟩

theorem idle_iff : s.idle h x = true ↔ s.Idle h x := by
  have intakes : (∀ i, ∀ e ∈ (s.intake i).entries, e.head ≠ h) ↔
      s.doorIn.hasFrom h = false ∧ s.purchaseIn.hasFrom h = false ∧ s.laneIn.hasFrom h = false := by
    simp only [hasFrom_eq_false]
    exact intakes_iff (p := fun q => ∀ e ∈ q.entries, e.head ≠ h)
  have turn : (∀ t, (s.line h.line).turn = some t → t.target = h.address → t.holds = none) ↔
      (s.line h.line).turn.any (fun t => decide (t.target = h.address) && t.holds.isSome) = false := by
    cases (s.line h.line).turn <;> simp
  have queue : (∀ f ∈ (s.line h.line).queue, f.dest = h.address → f.content.kind ≠ 0x04 ∧ f.content.kind ≠ 0x07) ↔
      (s.line h.line).queue.any (fun f => isDecisionFor h.address f || isSegmentFor h.address f) = false := by
    simp only [isSegmentFor_eq, isDecisionFor, List.any_eq_false]
    refine forall₂_congr fun f _ => ?_
    simp
    grind
  simp [State.idle, State.Idle, intakes, turn, queue, and_assoc, Decidable.or_iff_not_imp_left]

end Idle

section Starts

variable {s : State} {h : HeadId} {hd x : Head} {kind : TuneKind}

/-! ## The TUNE frame (R168 step 4) -/

theorem enqueueTune_of_free (held : s.head? h = some hd) (kind : TuneKind) (free : 0 < (s.line h.line).free) :
    s.enqueueTune h kind =
      { s with lines := s.lines.set h.line { s.line h.line with queue := (s.line h.line).queue ++ [⟨h.address, .tune kind⟩] },
               heads := s.heads.set h.key { hd with frameWaits := false } } := by
  rw [State.enqueueTune, if_pos free, modifyHead_of_head (s := s.modifyLine _ _) held, State.modifyLine, Line.enqueue, if_pos free]
  rfl

theorem enqueueTune_of_full (held : s.head? h = some hd) (kind : TuneKind) (full : (s.line h.line).free = 0) :
    s.enqueueTune h kind = { s with heads := s.heads.set h.key { hd with frameWaits := true } } := by
  rw [State.enqueueTune, if_neg (by omega), modifyHead_of_head held]

theorem lines_enqueueTune (s : State) (h : HeadId) (kind : TuneKind) :
    (s.enqueueTune h kind).lines =
      if 0 < (s.line h.line).free then s.lines.set h.line ((s.line h.line).joined ⟨h.address, .tune kind⟩) else s.lines := by
  unfold State.enqueueTune
  split
  case isTrue free =>
    rw [State.modifyHead_lines, State.modifyLine, Line.enqueue, if_pos free]
    rfl
  case isFalse => rfl

/-! ## A start (R168) -/

theorem startTune_keeps_gone (s : State) (h : HeadId) (kind : TuneKind) : Keeps [.lines, .heads] (s.leaveOnline h) (s.startTune h kind) :=
  ((modifyHead_keeps _ h _).weaken (by simp)).trans (enqueueTune_keeps _ h kind)

/-- The lines of a start: those that the departure leaves, with the TUNE frame when there is a slot for it. -/
theorem lines_startTune (s : State) (h : HeadId) (kind : TuneKind) :
    (s.startTune h kind).lines =
      if 0 < ((s.leaveOnline h).line h.line).free
      then (s.leaveOnline h).lines.set h.line (((s.leaveOnline h).line h.line).joined ⟨h.address, .tune kind⟩)
      else (s.leaveOnline h).lines := lines_enqueueTune _ h kind

theorem tuneFrame_startTune (s : State) (h : HeadId) (kind : TuneKind) :
    (((s.leaveOnline h).line h.line).free ≠ 0 ∧ ⟨h.address, .tune kind⟩ ∈ ((s.startTune h kind).line h.line).queue)
      ∨ (((s.leaveOnline h).line h.line).free = 0 ∧ ((s.startTune h kind).line h.line).free = 0) := by
  have lines := lines_startTune s h kind
  by_cases full : ((s.leaveOnline h).line h.line).free = 0
  · rw [if_neg (by omega)] at lines
    exact .inr ⟨full, by rw [State.line_of_lines lines, full]⟩
  · rw [if_pos (by omega)] at lines
    refine .inl ⟨full, ?_⟩
    rw [State.line_set lines, if_pos rfl]
    exact List.mem_append_right _ (List.mem_singleton_self _)

theorem head_startTune (held : s.head? h = some hd) (kind : TuneKind) :
    ∃ x, hd.LeftAs x ∧ (s.leaveOnline h).head? h = some x
      ∧ (s.startTune h kind).head? h =
          some (x.tuneStarted kind s.elapsed (decide (((s.leaveOnline h).line h.line).free = 0)))
      ∧ ∀ o, o ≠ h → (s.startTune h kind).head? o = s.head? o := by
  obtain ⟨x, left, gone, heads⟩ := heads_startTune held kind
  have hh := State.inRange_of_head held
  exact ⟨x, left, gone, (State.head_set hh heads h).trans (if_pos rfl), fun o other => (State.head_set hh heads o).trans (if_neg other)⟩

theorem tuneMs_eq (kind : TuneKind) : tuneMs kind = if kind = .LONG then 3000 else 500 := by cases kind <;> rfl

end Starts

section HeadTune

variable {s : State} {l a : Nat} {hd : Head} {kind : Nat} {k : TuneKind}

/-! ## HEAD TUNE (R175) -/

theorem laneStateOf_open : (s.laneStateOf hd).any (fun st => decide (st ≠ .CLOSED)) = true ↔
    hd.cls = .GANGWAY_LANE ∧ (s.lane hd.bound).state ≠ .CLOSED := by
  unfold State.laneStateOf
  cases cls : hd.cls <;> simp

theorem TuneKind.ofCode_eq (code : Nat) :
    TuneKind.ofCode code = if code ≤ 1 then some (if code = 0 then .LONG else .SHORT) else none := by
  rcases code with _ | _ | _ <;> simp [TuneKind.ofCode]

theorem headTuneWork_of_outOfRange (outside : 16 ≤ l ∨ a = 0 ∨ 200 < a ∨ 1 < kind) :
    s.headTuneWork ⟨l, a⟩ kind = s.refuse .OUT_OF_RANGE := by
  rw [State.headTuneWork, TuneKind.ofCode_eq]
  by_cases known : kind ≤ 1
  · rw [if_pos known]
    refine if_pos ?_
    rw [Bool.not_eq_true', ← Bool.not_eq_true, HeadId.inRange_iff]
    dsimp only
    omega
  · rw [if_neg known]

/-- HEAD TUNE past its range checks. -/
theorem headTuneWork_eq (inside : (⟨l, a⟩ : HeadId).inRange = true) (known : kind ≤ 1) :
    s.headTuneWork ⟨l, a⟩ kind =
      match s.head? ⟨l, a⟩ with
      | none => s.refuse .NOT_FOUND
      | some hd =>
        if hd.state ≠ .ONLINE ∨ (hd.cls = .GANGWAY_LANE ∧ (s.lane hd.bound).state ≠ .CLOSED) then s.refuse .WRONG_STATE
        else if s.idle ⟨l, a⟩ hd = true ∧ s.limitsAllow ⟨l, a⟩ hd = true then
          (s.startTune ⟨l, a⟩ (if kind = 0 then .LONG else .SHORT)).done
        else s.refuse .BUSY := by
  rw [State.headTuneWork, TuneKind.ofCode_eq, if_pos known]
  dsimp only
  rw [if_neg (by simp [inside])]
  cases s.head? ⟨l, a⟩ with
  | none => rfl
  | some hd =>
    dsimp only
    simp only [laneStateOf_open, Bool.or_eq_true, Bool.not_eq_true']
    by_cases free : s.idle ⟨l, a⟩ hd = true ∧ s.limitsAllow ⟨l, a⟩ hd = true
    · rw [if_pos free, if_neg (c := _ ∨ _ = false) (by simp [free])]
    · rw [if_neg free, if_pos (c := _ ∨ _ = false) (by grind)]

end HeadTune

section Scheduling

variable {s : State} {h o : HeadId} {hd x : Head} {u : Nat}

/-! ## The scheduler and the waiting frame (R173, R168) -/

theorem mem_of_lookupCells {α : Type} {l : List (Nat × α)} {k : Nat} {v : α} (found : Table.lookupCells l k = some v) :
    (k, v) ∈ l := by
  induction l with
  | nil => cases found
  | cons c rest ih =>
    obtain ⟨j, w⟩ := c
    rw [Table.lookupCells] at found
    split at found
    case isTrue same =>
      cases found
      rw [same]
      exact List.mem_cons_self
    case isFalse => exact List.mem_cons_of_mem _ (ih found)

theorem cell_of_head (held : s.head? h = some hd) : (h.key, hd) ∈ s.heads.cells := mem_of_lookupCells (State.heads_get_of_head held)

theorem candidate_of_head (held : s.head? o = some x) : s.candidate (o.key, x) u ↔
    s.waitsSince x = some u ∧ s.limitsAllow o x = true ∧ (x.state = .ONLINE → s.Idle o x) := by
  rw [candidate_iff, HeadId.ofKey_key (State.inRange_of_head held), idle_iff]

theorem nextStart_eq_none : s.nextStart = none ↔ ∀ c ∈ s.heads.cells, ∀ t, ¬ s.candidate c t := by
  rw [nextStart_eq, Option.map_eq_none_iff, foldl_sooner_eq_none]

theorem scheduleOne_of_nextStart (next : s.nextStart = some h) (held : s.head? h = some hd) :
    s.scheduleOne = s.startTune h (if hd.state = .PROBING then .LONG else .SHORT) := by
  simp only [State.scheduleOne, next, held, waitingKind]

theorem scheduleOne_of_none (next : s.nextStart = none) : s.scheduleOne = s := by
  simp only [State.scheduleOne, next]

theorem enqueueWaitingTune_of_none (absent : s.head? h = none) : s.enqueueWaitingTune h = s := by
  simp only [State.enqueueWaitingTune, absent]

theorem enqueueWaitingTune_of_head (held : s.head? h = some hd) :
    s.enqueueWaitingTune h = if hd.state = .TUNING ∧ hd.frameWaits = true then s.enqueueTune h hd.tuneKind else s := by
  simp only [State.enqueueWaitingTune, held]

theorem enqueueTune_still (held : s.head? h = some hd) (wf : s.heads.wf = true) (waits : hd.frameWaits = true) (kind : TuneKind)
    (full : (s.line h.line).free = 0) : s.enqueueTune h kind = s := by
  have same : { hd with frameWaits := true } = hd := by rw [← waits]
  rw [enqueueTune_of_full held kind full, same, Table.set_of_get wf (State.heads_get_of_head held)]

/-- R173: what the first waiting head that may start has before every other one that may. -/
theorem nextStart_waits_longest (wf : s.heads.wf = true) (next : s.nextStart = some h) (held : s.head? h = some hd) :
    s.limitsAllow h hd = true ∧ (hd.state = .ONLINE → s.Idle h hd)
      ∧ ∃ t, s.waitsSince hd = some t ∧ ∀ o x u, s.head? o = some x → s.waitsSince x = some u → s.limitsAllow o x = true →
          (x.state = .ONLINE → s.Idle o x) → s.since u ≤ s.since t ∧ (s.since u = s.since t → h.key ≤ o.key) := by
  obtain ⟨t, candidate, first⟩ := nextStart_first wf next held
  obtain ⟨waits, allowed, idle⟩ := (candidate_of_head held).1 candidate
  exact ⟨allowed, idle, t, waits, fun o x u there waits' allowed' idle' =>
    first _ (cell_of_head there) u ((candidate_of_head there).2 ⟨waits', allowed', idle'⟩)⟩

/-- Settles O50: HEAD TUNE by its checks, a start by what the departure leaves, and the scheduler's choice by the fold over the heads. -/
theorem tuneStartsByRule : Obligations.TuneStartsByRule := by
  intro s l a h idle
  refine ⟨fun tag kind ready => ⟨fun outside => ?_, fun hl ha ha' known => ?_⟩, fun hd kind held => ⟨limitsAllow_iff, ?_⟩,
    fun next => congrArg _ (scheduleOne_of_none next), fun hd wf next held =>
      ⟨congrArg _ (scheduleOne_of_nextStart next held), nextStart_waits_longest wf next held⟩,
    fun o x u there waits allowed idle next =>
      nextStart_eq_none.1 next _ (cell_of_head there) u ((candidate_of_head there).2 ⟨waits, allowed, idle⟩),
    fun hd t => waitsSince_iff, fun absent => congrArg _ (enqueueWaitingTune_of_none absent), fun hd held => ⟨fun other => ?_,
    fun state waits free => ?_, fun state waits full wf => ?_⟩⟩
  · exact refused_of_serve rfl ready rfl (headTuneWork_of_outOfRange outside)
  · have work := headTuneWork_eq (s := s) (kind := kind) ((HeadId.inRange_iff h).2 ⟨hl, ha, ha'⟩) known
    refine ⟨fun absent => refused_of_serve rfl ready rfl ?_, fun hd held => ⟨fun wrong => refused_of_serve rfl ready rfl ?_,
      fun right busy => refused_of_serve rfl ready rfl ?_, fun right free allowed => answers_ok_of_serve rfl ready rfl ?_⟩⟩
    · rw [work, absent]
    · rw [work, held]
      exact if_pos wrong
    · rw [work, held]
      refine (if_neg right).trans (if_neg ?_)
      rintro ⟨free, allowed⟩
      rcases busy with busy | busy
      · exact busy (idle_iff.1 free)
      · rw [allowed] at busy
        cases busy
    · rw [work, held]
      exact (if_neg right).trans (if_pos ⟨idle_iff.2 free, allowed⟩)
  · obtain ⟨x, -, gone, started, others⟩ := head_startTune held kind
    refine ⟨_, started, rfl, rfl, rfl, ?_, ?_, ⟨x, gone, rfl⟩, startTune_keeps_gone s h kind, startTune_keeps s h kind, others⟩
    · rw [← tuneMs_eq]
      rfl
    · obtain ⟨free, mem⟩ | ⟨full, still⟩ := tuneFrame_startTune s h kind
      · exact .inl ⟨decide_eq_false free, mem⟩
      · exact .inr ⟨decide_eq_true full, still⟩
  · refine congrArg _ ((enqueueWaitingTune_of_head held).trans (if_neg ?_))
    rintro ⟨state, waits⟩
    rcases other with other | other
    · exact other state
    · rw [waits] at other
      cases other
  · exact congrArg _ (((enqueueWaitingTune_of_head held).trans (if_pos ⟨state, waits⟩)).trans (enqueueTune_of_free held _ free))
  · exact congrArg _ (((enqueueWaitingTune_of_head held).trans (if_pos ⟨state, waits⟩)).trans (enqueueTune_still held wf waits _ full))

end Scheduling

end Sys2Proof.Machine
end

section
/-! PROOFS. The good answers of the heads (R150, R193): how the bytes of one are judged, and the end of the turn that each makes. -/

namespace Sys2Proof.Machine

open Sys2Proof

section Judging

variable {t : Turn} {kind : Byte} {payload : List Byte} {answer : HeadAnswer} {n : Nat}

/-! ## What the bytes of an answer are judged (R193) -/

theorem toNat_ofNat_byte (fits : n < 256) : (BitVec.ofNat 8 n).toNat = n := by
  rw [BitVec.toNat_ofNat]
  exact Nat.mod_eq_of_lt fits

theorem numberOf_u16 (fits : n < 65536) : numberOf (u16 n) = n := by
  simp only [numberOf, u16, List.foldl_cons, List.foldl_nil, BitVec.toNat_ofNat]
  omega

/-- An answer that is no event, with the length of its kind, to a frame that allows it is a good one. -/
theorem judge_answerFrame (address : t.target < 256) (length : payload.length < 256)
    (is : headAnswerOf kind.toNat payload = some answer) (noEvent : ∀ seq lost ev p, answer ≠ .event seq lost ev p)
    (allowed : t.frame.allows answer = true) : judge t (answerFrame t.target kind payload) = .good answer := by
  have bytes : answerFrame t.target kind payload =
      (BitVec.ofNat 8 t.target :: kind :: BitVec.ofNat 8 payload.length :: payload)
        ++ [crc8 (BitVec.ofNat 8 t.target :: kind :: BitVec.ofNat 8 payload.length :: payload)] := rfl
  unfold judge
  rw [bytes, List.getLast?_concat, List.dropLast_concat]
  dsimp only
  rw [if_neg (by simp), if_pos ⟨toNat_ofNat_byte address, toNat_ofNat_byte length⟩, is]
  split
  case h_1 same => exact absurd (Option.some.inj same) (noEvent _ _ _ _)
  case h_2 same =>
    obtain rfl := Option.some.inj same
    exact if_pos allowed
  case h_3 none => cases none

theorem headAnswerOf_tuneDone (low high field : Nat) : headAnswerOf 0x84 (u16 low ++ u16 high ++ u16 field) =
    some (.tuneDone (numberOf (u16 low)) (numberOf (u16 high)) (numberOf (u16 field))) := rfl

theorem headAnswerOf_ident (code : Byte) : headAnswerOf 0x85 [code] = some (.ident code.toNat) := by
  simp [headAnswerOf, numberOf]

end Judging

section Turns

variable {s : State} {l : Nat} {t : Turn} {hd : Head} {answer : HeadAnswer} {bytes : List Byte}

theorem modifyLine_of_lines_set {u : State} {ln : Line} (lines : u.lines = s.lines.set l ln) (f : Line → Line) :
    u.modifyLine l f = { u with lines := s.lines.set l (f ln) } := by
  rw [State.modifyLine, State.setLine, State.line_set lines l, if_pos rfl, lines, Table.set_set]

/-! ## The end of a turn with a good answer (R150, R151) -/

/-- A line whose turn is over: a queued frame has left the queue. -/
def Line.turnOver (ln : Line) (t : Turn) : Line :=
  { ln with turn := none, queue := match t.frame with | .queued _ => ln.queue.drop 1 | _ => ln.queue }

/-- A head whose turn ended at an elapsed-time count (R148). -/
def Head.turnEnded (hd : Head) (t : Turn) (now : Nat) : Head :=
  { hd with lastTurnEnd := some now,
            lastIdentEnd := match t.frame with | .ident => some now | _ => hd.lastIdentEnd }

/-- The state once a head has been heard in its turn. -/
def State.heard (s : State) (l : Nat) (t : Turn) (hd : Head) : State :=
  { s with lines := s.lines.set l ((s.line l).turnOver t),
           heads := s.heads.set (HeadId.key ⟨l, t.target⟩) { hd.turnEnded t s.elapsed with missed := 0 } }

theorem endTurn_of_head (held : s.head? ⟨l, t.target⟩ = some hd) (kept : t.dropped = false) :
    s.endTurn l t = { s with lines := s.lines.set l ((s.line l).turnOver t),
                             heads := s.heads.set (HeadId.key ⟨l, t.target⟩) (hd.turnEnded t s.elapsed) } := by
  obtain ⟨-, -, single⟩ := (HeadId.inRange_iff _).1 (State.inRange_of_head held)
  unfold State.endTurn
  dsimp only
  rw [if_neg (by simp [kept, singleHead, single]), modifyHead_of_head (s := s.modifyLine l _) held]
  rfl

theorem endTurn_of_group (group : 200 < t.target) :
    s.endTurn l t = { s with lines := s.lines.set l ((s.line l).turnOver t) } := by
  unfold State.endTurn
  dsimp only
  rw [if_pos (by simp [singleHead, group])]
  rfl

theorem goodAnswer_of_head (held : s.head? ⟨l, t.target⟩ = some hd) (kept : t.dropped = false) (answer : HeadAnswer) :
    s.goodAnswer l t answer = (s.heard l t hd).takeAnswer ⟨l, t.target⟩ (hd.turnEnded t s.elapsed) t answer := by
  have ended := endTurn_of_head held kept
  have now : (s.endTurn l t).turnHead l t = some (hd.turnEnded t s.elapsed) := by
    rw [State.turnHead, if_neg (by simp [kept]), State.head_set (State.inRange_of_head held) (congrArg State.heads ended), if_pos rfl]
  have heads : (s.endTurn l t).head? ⟨l, t.target⟩ = some (hd.turnEnded t s.elapsed) := by
    rw [State.head_set (State.inRange_of_head held) (congrArg State.heads ended), if_pos rfl]
  have heard : (s.endTurn l t).modifyHead ⟨l, t.target⟩ (fun x => { x with missed := 0 }) = s.heard l t hd := by
    rw [modifyHead_of_head heads, ended]
    simp only [Table.set_set, State.heard]
  simp only [State.goodAnswer, now, heard]

/-- R150: a good answer to a turn whose head has not been dropped ends the turn and is handed on. -/
theorem receiveAnswer_of_good (turn : (s.line l).turn = some t) (held : s.head? ⟨l, t.target⟩ = some hd) (kept : t.dropped = false)
    (good : judge t bytes = .good answer) :
    s.receiveAnswer l bytes = (s.heard l t hd).takeAnswer ⟨l, t.target⟩ (hd.turnEnded t s.elapsed) t answer := by
  obtain ⟨-, -, single⟩ := (HeadId.inRange_iff _).1 (State.inRange_of_head held)
  have awaiting : (s.line l).awaiting = some t := by
    rw [Line.awaiting, turn]
    exact if_pos (decide_eq_true single)
  simp only [State.receiveAnswer, awaiting, good, goodAnswer_of_head held kept]

theorem head_heard (held : s.head? ⟨l, t.target⟩ = some hd) :
    (s.heard l t hd).head? ⟨l, t.target⟩ = some { hd.turnEnded t s.elapsed with missed := 0 } :=
  (State.head_set (State.inRange_of_head held) rfl _).trans (if_pos rfl)

theorem line_heard (s : State) (l : Nat) (t : Turn) (hd : Head) : (s.heard l t hd).line l = (s.line l).turnOver t :=
  (State.line_set rfl l).trans (if_pos rfl)

end Turns

end Sys2Proof.Machine
end

section
/-! PROOFS. Settings pushes (R160, R177): the checks of SETTINGS PUSH in their order, the segments of a page, and how a push ends. -/

namespace Sys2Proof.Machine

open Sys2Proof

section Checks

variable {s : State} {l dest : Nat} {page : List Byte} {map : Option (List Byte)}

/-! ## The checks of SETTINGS PUSH (R177) -/

/-- The range check of R177: the line, the destination, the page length, and a group map for more than one head. -/
def pushInRange (l dest : Nat) (page : List Byte) (map : Option (List Byte)) : Prop :=
  l < 16 ∧ ((1 ≤ dest ∧ dest ≤ 200) ∨ (224 ≤ dest ∧ dest ≤ 239) ∨ dest = 255) ∧ 1 ≤ page.length ∧ page.length ≤ 96
    ∧ (200 < dest → map ≠ none)

/-- A single destination names a head. -/
def State.pushFound (s : State) (l dest : Nat) : Prop := dest ≤ 200 → s.head? ⟨l, dest⟩ ≠ none

/-- The line is RUNNING, and a single head ONLINE. -/
def State.pushServed (s : State) (l dest : Nat) : Prop := (s.line l).state = .RUNNING ∧ (dest ≤ 200 → s.online ⟨l, dest⟩ = true)

theorem pushOutside_iff : (Config.lines ≤ l ∨ pushDestination dest = false ∨ page.length = 0 ∨ 96 < page.length
    ∨ (singleHead dest = false ∧ map = none)) ↔ ¬ pushInRange l dest page map := by
  have destination : pushDestination dest = false ↔
      ¬ ((1 ≤ dest ∧ dest ≤ 200) ∨ (224 ≤ dest ∧ dest ≤ 239) ∨ dest = 255) := by
    rw [← Bool.not_eq_true]
    simp [pushDestination, or_assoc]
  have group : (singleHead dest = false ∧ map = none) ↔ ¬ (200 < dest → map ≠ none) := by
    simp [singleHead]
  rw [destination, group, pushInRange]
  have lines : Config.lines = 16 := rfl
  rw [lines]
  grind

theorem pushMissing_iff : (singleHead dest && (s.head? ⟨l, dest⟩).isNone) = true ↔ ¬ s.pushFound l dest := by
  simp [singleHead, State.pushFound]

theorem pushUnserved_iff : (!s.lineRunning l || (singleHead dest && !s.online ⟨l, dest⟩)) = true ↔ ¬ s.pushServed l dest := by
  simp only [State.pushServed, State.lineRunning, singleHead, Bool.or_eq_true, Bool.not_eq_true', decide_eq_false_iff_not,
    Bool.and_eq_true, decide_eq_true_eq]
  grind

theorem pushRefusal_outOfRange (outside : ¬ pushInRange l dest page map) : s.pushRefusal l dest page map = some .OUT_OF_RANGE :=
  if_pos (pushOutside_iff.2 outside)

theorem pushRefusal_notFound (inside : pushInRange l dest page map) (missing : ¬ s.pushFound l dest) :
    s.pushRefusal l dest page map = some .NOT_FOUND :=
  (if_neg fun no => pushOutside_iff.1 no inside).trans (if_pos (pushMissing_iff.2 missing))

/-- A push past its checks of range and head. -/
theorem pushRefusal_of_found (inside : pushInRange l dest page map) (found : s.pushFound l dest) :
    s.pushRefusal l dest page map =
      if !s.lineRunning l || (singleHead dest && !s.online ⟨l, dest⟩) then some .WRONG_STATE
      else if (s.line l).push.isSome then some .BUSY
      else none :=
  (if_neg fun no => pushOutside_iff.1 no inside).trans (if_neg fun no => pushMissing_iff.1 no found)

theorem pushRefusal_wrongState (inside : pushInRange l dest page map) (found : s.pushFound l dest) (unserved : ¬ s.pushServed l dest) :
    s.pushRefusal l dest page map = some .WRONG_STATE :=
  (pushRefusal_of_found inside found).trans (if_pos (pushUnserved_iff.2 unserved))

theorem pushRefusal_of_served (inside : pushInRange l dest page map) (found : s.pushFound l dest) (served : s.pushServed l dest) :
    s.pushRefusal l dest page map = if (s.line l).push.isSome then some .BUSY else none :=
  (pushRefusal_of_found inside found).trans (if_neg fun no => pushUnserved_iff.1 no served)

theorem pushRefusal_busy (inside : pushInRange l dest page map) (found : s.pushFound l dest) (served : s.pushServed l dest)
    (pushing : (s.line l).push ≠ none) : s.pushRefusal l dest page map = some .BUSY :=
  (pushRefusal_of_served inside found served).trans (if_pos (Option.isSome_iff_ne_none.2 pushing))

theorem pushRefusal_none (inside : pushInRange l dest page map) (found : s.pushFound l dest) (served : s.pushServed l dest)
    (free : (s.line l).push = none) : s.pushRefusal l dest page map = none :=
  (pushRefusal_of_served inside found served).trans (if_neg (by simp [free]))

theorem settingsPushWork_of_refusal {status : Status} (refusal : s.pushRefusal l dest page map = some status) :
    s.settingsPushWork l dest page map = s.refuse status := by
  simp only [State.settingsPushWork, refusal]

/-- The lines once a push waits on a line. -/
def State.linesPushing (s : State) (l dest : Nat) (page : List Byte) (map : Option (List Byte)) : Table Line :=
  s.lines.set l { s.line l with push := some ⟨dest, page, map, false, 0⟩ }

theorem settingsPushWork_of_group (accepted : s.pushRefusal l dest page map = none) (group : 200 < dest) :
    s.settingsPushWork l dest page map = ⟨{ s with lines := s.linesPushing l dest page map }, .ACCEPTED, []⟩ := by
  have many : singleHead dest = false := decide_eq_false (by omega)
  simp only [State.settingsPushWork, accepted, many]
  rfl

theorem settingsPushWork_of_single {hd : Head} (accepted : s.pushRefusal l dest page map = none) (single : dest ≤ 200)
    (held : s.head? ⟨l, dest⟩ = some hd) :
    s.settingsPushWork l dest page map =
      ⟨{ s with lines := s.linesPushing l dest page map,
                heads := s.heads.set (HeadId.key ⟨l, dest⟩) { hd with settings := .PENDING } }, .ACCEPTED, []⟩ := by
  have one : singleHead dest = true := decide_eq_true single
  simp only [State.settingsPushWork, accepted, one]
  rw [if_pos trivial, modifyHead_of_head (s := s.modifyLine l _) held]
  rfl

end Checks

section Segments

variable {s : State} {l : Nat} {p : Push}

/-! ## The segments of a page (R160) -/

theorem segmentsFrom_eq (dest : Nat) (map : Option (List Byte)) (n i : Nat) (page : List Byte) :
    segmentsFrom dest map n i page =
      (List.range n).map (fun j => ⟨dest, .segment (i + j) (decide (j + 1 < n)) map ((page.drop (32 * j)).take 32)⟩) := by
  induction n generalizing i page with
  | zero => rfl
  | succ n ih =>
    rw [segmentsFrom, ih, List.range_succ_eq_map, List.map_cons, List.map_map]
    congr 1
    · simp [Nat.pos_iff_ne_zero]
    · refine List.map_congr_left fun j _ => ?_
      simp [Nat.mul_add, Nat.add_assoc, Nat.add_comm 1 j, Nat.add_comm 32]

theorem frames_eq (p : Push) : p.frames =
    (List.range ((p.page.length + 31) / 32)).map (fun i =>
      ⟨p.dest, .segment i (decide (i + 1 < (p.page.length + 31) / 32)) (if p.dest ≤ 200 then none else p.map)
        ((p.page.drop (32 * i)).take 32)⟩) := by
  rw [Push.frames, segmentsFrom_eq]
  simp only [Nat.zero_add, segmentCount]
  rfl

theorem enqueuePush_of_none (absent : (s.line l).push = none) : s.enqueuePush l = s := by
  simp only [State.enqueuePush, absent]

theorem enqueuePush_of_push (waiting : (s.line l).push = some p) :
    s.enqueuePush l =
      if p.queued = false ∧ segmentCount p.page ≤ (s.line l).free then
        { s with lines := s.lines.set l { s.line l with queue := (s.line l).queue ++ p.frames, push := some { p with queued := true } } }
      else s := by
  simp only [State.enqueuePush, waiting]
  rfl

end Segments

section Ends

variable {s : State} {l i : Nat} {f : OutFrame} {retry dropped more : Bool} {holds : Option HeadClass} {mp : Option (List Byte)}
  {b : List Byte} {p : Push} {hd : Head}

/-! ## How a push ends (R150, R159, R177) -/

theorem groupSent_of_noTurn (free : (s.line l).turn = none) : s.groupSent l = s := by
  simp only [State.groupSent, free]

theorem groupSent_of_single (turn : (s.line l).turn = some ⟨.queued f, f.dest, retry, holds, dropped⟩) (single : f.dest ≤ 200) :
    s.groupSent l = s := by
  simp only [State.groupSent, turn]
  exact if_pos (decide_eq_true single)

theorem groupSent_of_group (turn : (s.line l).turn = some ⟨.queued f, f.dest, retry, holds, dropped⟩) (group : 200 < f.dest) :
    s.groupSent l =
      { s with lines := s.lines.set l (Line.groupSent { s.line l with turn := none, queue := (s.line l).queue.drop 1 } f) } := by
  simp only [State.groupSent, turn]
  rw [if_neg (by simp [singleHead, group]), endTurn_of_group (s := s) (t := ⟨.queued f, f.dest, retry, holds, dropped⟩) group,
    modifyLine_of_lines_set (s := s) rfl]
  rfl

theorem judge_ack (single : f.dest ≤ 200) (segment : f.content = .segment i more mp b) :
    judge ⟨.queued f, f.dest, retry, holds, dropped⟩ (answerFrame f.dest 0x88#8 []) = .good .ack := by
  refine judge_answerFrame (t := ⟨.queued f, f.dest, retry, holds, dropped⟩) (by dsimp only; omega) (by decide) rfl (by simp) ?_
  simp [TurnFrame.allows, segment, FrameContent.kind]

theorem takeSegmentAck_of_push {h : HeadId} {x : Head} (pushing : (s.line h.line).push = some p) (same : p.dest = h.address)
    (held : s.head? h = some x) (more : Bool) :
    s.takeSegmentAck h more =
      if more then { s with lines := s.lines.set h.line { s.line h.line with push := some { p with answered := p.answered + 1 } } }
      else { s with lines := s.lines.set h.line { s.line h.line with push := none },
                    heads := s.heads.set h.key { x with settings := .APPLIED } } := by
  simp only [State.takeSegmentAck, pushing]
  rw [if_neg (not_not_intro same), modifyHead_of_head (s := s.modifyLine _ _) held]
  rfl

/-- A head whose queued frame has been acknowledged. -/
def Head.acknowledged (hd : Head) (now : Nat) : Head := { hd with missed := 0, lastTurnEnd := some now }

/-- The state once a head has acknowledged the segment whose turn it was, with what becomes of the push. -/
def State.segmentTaken (s : State) (h : HeadId) (push : Option Push) (x : Head) : State :=
  { s with lines := s.lines.set h.line
             { s.line h.line with turn := none, queue := (s.line h.line).queue.drop 1, push := push },
           heads := s.heads.set h.key x }

theorem receiveAnswer_ack (turn : (s.line l).turn = some ⟨.queued f, f.dest, retry, holds, false⟩)
    (segment : f.content = .segment i more mp b) (pushing : (s.line l).push = some p) (same : p.dest = f.dest)
    (held : s.head? ⟨l, f.dest⟩ = some hd) :
    s.receiveAnswer l (answerFrame f.dest 0x88#8 []) =
      if more then s.segmentTaken ⟨l, f.dest⟩ (some { p with answered := p.answered + 1 }) (hd.acknowledged s.elapsed)
      else s.segmentTaken ⟨l, f.dest⟩ none { hd.acknowledged s.elapsed with settings := .APPLIED } := by
  obtain ⟨-, -, single⟩ := (HeadId.inRange_iff _).1 (State.inRange_of_head held)
  have line := line_heard s l ⟨.queued f, f.dest, retry, holds, false⟩ hd
  have taken := takeSegmentAck_of_push (s := s.heard l ⟨.queued f, f.dest, retry, holds, false⟩ hd) (h := ⟨l, f.dest⟩)
    ((congrArg Line.push line).trans pushing) same (head_heard held) more
  rw [line] at taken
  rw [receiveAnswer_of_good turn held rfl (judge_ack single segment)]
  simp only [State.takeAnswer, segment, State.takeAck]
  refine taken.trans ?_
  cases more <;> simp only [State.heard, Table.set_set] <;> rfl

end Ends

/-- Settles O48: SETTINGS PUSH by its checks in order, the enqueuing of its segments, and the end of each segment's turn. -/
theorem settingsPushTravels : Obligations.SettingsPushTravels := by
  intro s l ln
  refine ⟨fun tag dest page map ready => ⟨fun outside => ?_, fun inside missing => ?_, fun inside found unserved => ?_,
    fun inside found served pushing => ?_, fun inside found served idle => ⟨fun group => ?_, fun hd single held => ?_⟩⟩,
    fun absent => congrArg _ (enqueuePush_of_none absent), fun p waiting => ⟨fun fresh room => ?_, fun other => ?_⟩,
    fun f retry holds dropped turn => ⟨fun group => ⟨fun i mp b segment => ?_, fun i mp b segment => ?_⟩,
      fun single => congrArg _ (groupSent_of_single turn single),
      fun p i more mp b hd single none kept segment pushing same held => ⟨fun goes => ?_, fun ends => ?_⟩⟩,
    fun free => congrArg _ (groupSent_of_noTurn free)⟩
  · exact refused_of_serve rfl ready rfl (settingsPushWork_of_refusal (pushRefusal_outOfRange outside))
  · exact refused_of_serve rfl ready rfl (settingsPushWork_of_refusal (pushRefusal_notFound inside missing))
  · exact refused_of_serve rfl ready rfl (settingsPushWork_of_refusal (pushRefusal_wrongState inside found unserved))
  · exact refused_of_serve rfl ready rfl (settingsPushWork_of_refusal (pushRefusal_busy inside found served pushing))
  · exact answers_of_serve rfl ready rfl (settingsPushWork_of_group (pushRefusal_none inside found served idle) group)
  · exact answers_of_serve rfl ready rfl (settingsPushWork_of_single (pushRefusal_none inside found served idle) single held)
  · refine congrArg _ ((enqueuePush_of_push waiting).trans ((if_pos ⟨fresh, room⟩).trans ?_))
    rw [frames_eq]
  · refine congrArg _ ((enqueuePush_of_push waiting).trans (if_neg ?_))
    rintro ⟨fresh, room⟩
    rcases other with queued | full
    · rw [fresh] at queued
      cases queued
    · exact absurd room (Nat.not_le_of_lt full)
  · refine congrArg _ ((groupSent_of_group turn group).trans ?_)
    simp only [Line.groupSent, segment]
    rfl
  · refine congrArg _ ((groupSent_of_group turn group).trans ?_)
    simp only [Line.groupSent, segment]
    rfl
  · subst kept
    exact congrArg _ ((receiveAnswer_ack turn segment pushing same held).trans (if_pos goes))
  · subst kept
    exact congrArg _ ((receiveAnswer_ack turn segment pushing same held).trans (if_neg (by simp [ends])))

end Sys2Proof.Machine
end

section
/-! PROOFS. What a head that leaves ONLINE, and one whose tune starts, leave of its line and of the latches (R144, R164, R168). -/

namespace Sys2Proof.Machine

open Sys2Proof

section Departures

variable {s : State} {h : HeadId} {hd : Head}

/-! ## The line of a head that leaves ONLINE (R146, R160, R164) -/

/-- A line without the queued frames of an address, with what the departure of its head leaves of the push and the reservations. -/
def Line.without (ln : Line) (address : Nat) (push : Option Push) (reserved : Nat) : Line :=
  { ln with queue := ln.queueWithout (fun f => decide (f.dest = address)), push := push, reserved := reserved }

theorem lineDeparture_lines (s : State) (h : HeadId) (ln : Line) (at_line : s.line h.line = ln) :
    ∃ reserved, (s.lineDeparture h).lines = s.lines.set h.line (ln.without h.address ln.push reserved) := by
  refine ⟨ln.reserved - (s.doorIn.heldBy h + s.purchaseIn.heldBy h + s.laneIn.heldBy h), ?_⟩
  unfold State.lineDeparture
  simp only [State.modifyLine, State.setLine, at_line, removeFrames_eq, address_beq]
  rfl

/-- A departure removes the segments of a failed push with the other frames of the head. -/
theorem without_of_failedPush (ln : Line) (a reserved : Nat) (push : Option Push) :
    Line.without ((ln.removeFrames (isSegmentFor a)).withoutPush) a push reserved = ln.without a push reserved := by
  have both : (fun f : OutFrame => decide (f.dest = a ∧ f.content.kind = 0x07) || decide (f.dest = a))
      = fun f => decide (f.dest = a) := by
    funext f
    simp +contextual
  have queue := queueWithout_queueWithout ln (isSegmentFor a) (fun f => decide (f.dest = a))
  rw [isSegmentFor_eq, both] at queue
  rw [removeFrames_eq, isSegmentFor_eq]
  simp only [Line.without, Line.withoutPush]
  rw [← queue]
  rfl

theorem failPush_lineDeparture_lines (s : State) (h : HeadId) :
    ∃ push reserved, ((s.failPush h).lineDeparture h).lines = s.lines.set h.line ((s.line h.line).without h.address push reserved) := by
  have kept : ∃ push reserved, (s.lineDeparture h).lines = s.lines.set h.line ((s.line h.line).without h.address push reserved) :=
    ⟨_, lineDeparture_lines s h _ rfl⟩
  have failed (u : State) (lines : u.lines = s.lines.set h.line ((s.line h.line).removeFrames (isSegmentFor h.address)).withoutPush) :
      ∃ push reserved, (u.lineDeparture h).lines = s.lines.set h.line ((s.line h.line).without h.address push reserved) := by
    obtain ⟨reserved, left⟩ := lineDeparture_lines u h _ ((State.line_set lines h.line).trans (if_pos rfl))
    rw [lines, Table.set_set, without_of_failedPush] at left
    exact ⟨_, reserved, left⟩
  unfold State.failPush
  split
  · exact kept
  · split
    · exact failed _ rfl
    · exact kept

/-- R164: what the departure of an ONLINE head leaves of the lines. -/
theorem lines_leaveOnline (held : s.head? h = some hd) (state : hd.state = .ONLINE) :
    ∃ push reserved, (s.leaveOnline h).lines = s.lines.set h.line ((s.line h.line).without h.address push reserved) := by
  obtain ⟨push, reserved, lines⟩ := failPush_lineDeparture_lines s h
  refine ⟨push, reserved, ?_⟩
  rw [leaveOnline_of_online held state]
  calc ((((((s.failPush h).lineDeparture h).grantDeparture h).holdDeparture h).gangwayDeparture hd)).lines
      = ((((s.failPush h).lineDeparture h).grantDeparture h).holdDeparture h).lines := gangwayDeparture_keeps _ hd .lines (by simp)
    _ = (((s.failPush h).lineDeparture h).grantDeparture h).lines := holdDeparture_keeps _ h .lines (by simp)
    _ = ((s.failPush h).lineDeparture h).lines := rfl
    _ = _ := lines

/-- The line of a head that has left ONLINE, whatever its state was. -/
theorem line_leaveOnline (s : State) (h : HeadId) :
    (s.leaveOnline h).line h.line = s.line h.line
      ∨ ∃ push reserved, (s.leaveOnline h).line h.line = (s.line h.line).without h.address push reserved := by
  cases held : s.head? h with
  | none => exact .inl (by rw [State.leaveOnline, held])
  | some hd =>
    by_cases state : hd.state = .ONLINE
    · obtain ⟨push, reserved, lines⟩ := lines_leaveOnline held state
      exact .inr ⟨push, reserved, (State.line_set lines _).trans (if_pos rfl)⟩
    · exact .inl (by rw [leaveOnline_of_notOnline held state])

theorem line_leaveOnline_other (s : State) (h : HeadId) {m : Nat} (other : m ≠ h.line) : (s.leaveOnline h).line m = s.line m := by
  cases held : s.head? h with
  | none => rw [State.leaveOnline, held]
  | some hd =>
    by_cases state : hd.state = .ONLINE
    · obtain ⟨push, reserved, lines⟩ := lines_leaveOnline held state
      exact (State.line_set lines m).trans (if_neg other)
    · rw [leaveOnline_of_notOnline held state]

theorem turn_leaveOnline (s : State) (h : HeadId) (m : Nat) : ((s.leaveOnline h).line m).turn = (s.line m).turn := by
  by_cases here : m = h.line
  · subst here
    obtain same | ⟨push, reserved, line⟩ := line_leaveOnline s h
    · rw [same]
    · rw [line]
      rfl
  · rw [line_leaveOnline_other s h here]

theorem turn_startTune (s : State) (h : HeadId) (kind : TuneKind) (m : Nat) : ((s.startTune h kind).line m).turn = (s.line m).turn := by
  have lines := lines_startTune s h kind
  rw [← turn_leaveOnline s h m]
  split at lines
  · rw [State.line_set lines]
    split
    · rename_i here
      rw [here]
      rfl
    · rfl
  · rw [State.line_of_lines lines]

/-! ## The latches of a head that leaves ONLINE (R121, R123) -/

theorem latch_laneDeparture (s : State) (n : Nat) {c : NoticeClass} (other : c ≠ .PENDING_LOST) :
    (s.laneDeparture n).latch c = s.latch c := by
  have lost : (if (s.lane n).pending.isSome then s.loseCrossing n else s).latch c = s.latch c := by
    split
    · exact (State.latch_raise (s.abandonCrossing n) .PENDING_LOST c _).trans (if_neg other)
    · rfl
  unfold State.laneDeparture
  dsimp only
  split
  · rfl
  all_goals exact lost

theorem latch_gangwayDeparture (s : State) (hd : Head) {c : NoticeClass} (other : c ≠ .PENDING_LOST) :
    (s.gangwayDeparture hd).latch c = s.latch c := by
  unfold State.gangwayDeparture
  split
  · exact latch_laneDeparture s _ other
  all_goals rfl

/-- R164: a departure raises no class but PENDING_LOST. -/
theorem latch_leaveOnline (s : State) (h : HeadId) {c : NoticeClass} (other : c ≠ .PENDING_LOST) :
    (s.leaveOnline h).latch c = s.latch c := by
  unfold State.leaveOnline
  split
  · rfl
  · split
    · rename_i hd _ _
      have keeps : Keeps [.lines, .heads, .doorIn, .purchaseIn, .laneIn, .folios, .persons, .deferred] s
          ((((s.failPush h).lineDeparture h).grantDeparture h).holdDeparture h) :=
        ((((failPush_keeps s h).weaken (by simp)).trans ((lineDeparture_keeps _ h).weaken (by simp))).trans
          ((modifyHead_keeps _ h _).weaken (by simp))).trans ((holdDeparture_keeps _ h).weaken (by simp))
      exact (latch_gangwayDeparture _ hd other).trans (State.latch_of_latches (keeps .latches (by simp)) c)
    · rfl

end Departures

end Sys2Proof.Machine
end

section
/-! PROOFS. The IDENT answers (R167, R173): the tune wait, the starts of the attempt that follows, and the fault of another class. -/

namespace Sys2Proof.Machine

open Sys2Proof

section Attempts

variable {s t u : State} {h o : HeadId} {hd x y z : Head} {now n : Nat}

/-! ## What an attempt of the scheduler makes of the heads (R173) -/

/-- A head after the starts of an attempt: as it was, or a waiting head that has started to tune. -/
def Head.StartedAs (now : Nat) (x y : Head) : Prop :=
  y = x ∨ ((x.state = .PROBING ∨ x.state = .ONLINE) ∧ y.state = .TUNING
    ∧ y.tuneKind = (if x.state = .PROBING then .LONG else .SHORT)
    ∧ y.tuneTimer = some ⟨now, if x.state = .PROBING then 3000 else 500⟩
    ∧ y.cls = x.cls ∧ y.bound = x.bound ∧ y.missed = x.missed)

theorem Head.StartedAs.of_tuning (started : x.StartedAs now y) (state : x.state = .TUNING) : y = x := by
  obtain same | ⟨waited, -⟩ := started
  · exact same
  · simp [state] at waited

theorem Head.StartedAs.trans (first : x.StartedAs now y) (next : y.StartedAs now z) : x.StartedAs now z := by
  obtain rfl | started := first
  · exact next
  · rw [next.of_tuning started.2.1]
    exact .inr started

/-- What starts of tunes leave of a state. -/
structure State.Starts (s u : State) : Prop where
  wf      : u.heads.wf = true
  elapsed : u.elapsed = s.elapsed
  turn    : ∀ m, (u.line m).turn = (s.line m).turn
  heads   : ∀ o x, s.head? o = some x → ∃ y, u.head? o = some y ∧ x.StartedAs s.elapsed y

theorem State.Starts.refl (wf : s.heads.wf = true) : s.Starts s := ⟨wf, rfl, fun _ => rfl, fun _ x held => ⟨x, held, .inl rfl⟩⟩

theorem State.Starts.trans (first : s.Starts t) (next : t.Starts u) : s.Starts u where
  wf := next.wf
  elapsed := next.elapsed.trans first.elapsed
  turn m := (next.turn m).trans (first.turn m)
  heads o x held := by
    obtain ⟨y, there, started⟩ := first.heads o x held
    obtain ⟨z, then_there, again⟩ := next.heads o y there
    rw [first.elapsed] at again
    exact ⟨z, then_there, started.trans again⟩

/-- The head of a start, by the state it waited in. -/
theorem head_startTune_waiting (held : s.head? h = some hd) (waited : hd.state = .PROBING ∨ hd.state = .ONLINE) :
    ∃ y, (s.startTune h (if hd.state = .PROBING then .LONG else .SHORT)).head? h = some y ∧ y.state = .TUNING
      ∧ y.tuneTimer = some ⟨s.elapsed, if hd.state = .PROBING then 3000 else 500⟩ ∧ hd.StartedAs s.elapsed y := by
  obtain ⟨x, left, -, started, -⟩ := head_startTune held (if hd.state = .PROBING then .LONG else .SHORT)
  have timer : some (⟨s.elapsed, tuneMs (if hd.state = .PROBING then .LONG else .SHORT)⟩ : Timer)
      = some ⟨s.elapsed, if hd.state = .PROBING then 3000 else 500⟩ := by
    split <;> rfl
  exact ⟨_, started, rfl, timer, .inr ⟨waited, rfl, rfl, timer, left.cls_eq, left.bound_eq, left.missed_eq⟩⟩

theorem startTune_starts (wf : s.heads.wf = true) (held : s.head? h = some hd) (waited : hd.state = .PROBING ∨ hd.state = .ONLINE) :
    s.Starts (s.startTune h (if hd.state = .PROBING then .LONG else .SHORT)) where
  wf := by
    obtain ⟨_, -, -, heads⟩ := heads_startTune held (if hd.state = .PROBING then .LONG else .SHORT)
    rw [heads]
    exact Table.wf_set _ _ wf
  elapsed := startTune_keeps s h _ .elapsed (by simp)
  turn m := turn_startTune s h _ m
  heads o x there := by
    by_cases here : o = h
    · subst here
      obtain rfl := Option.some.inj (held.symm.trans there)
      obtain ⟨y, now_there, -, -, started⟩ := head_startTune_waiting held waited
      exact ⟨y, now_there, started⟩
    · obtain ⟨_, -, -, -, others⟩ := head_startTune held (if hd.state = .PROBING then .LONG else .SHORT)
      exact ⟨x, (others o here).trans there, .inl rfl⟩

theorem waited_of_nextStart (wf : s.heads.wf = true) (next : s.nextStart = some h) (held : s.head? h = some hd) :
    hd.state = .PROBING ∨ hd.state = .ONLINE := by
  obtain ⟨_, candidate, -⟩ := nextStart_first wf next held
  exact (isSome_waitsSince_state candidate.1).symm

theorem scheduleOne_starts (wf : s.heads.wf = true) : s.Starts s.scheduleOne := by
  cases next : s.nextStart with
  | none => rw [scheduleOne_of_none next]; exact .refl wf
  | some o =>
    cases held : s.head? o with
    | none =>
      have still : s.scheduleOne = s := by simp only [State.scheduleOne, next, held]
      rw [still]
      exact .refl wf
    | some y =>
      rw [scheduleOne_of_nextStart next held]
      exact startTune_starts wf held (waited_of_nextStart wf next held)

theorem repeat_starts (wf : s.heads.wf = true) (n : Nat) : s.Starts (Nat.repeat State.scheduleOne n s) := by
  induction n with
  | zero => exact .refl wf
  | succ n ih => exact ih.trans (scheduleOne_starts ih.wf)

theorem attemptStarts_starts (wf : s.heads.wf = true) : s.Starts s.attemptStarts := by
  rw [State.attemptStarts, schedule_eq_repeat]
  exact repeat_starts wf _

/-- R173: the first waiting head that may start is TUNING after an attempt. -/
theorem attemptStarts_first (wf : s.heads.wf = true) (next : s.nextStart = some o) (held : s.head? o = some y) :
    ∃ z, s.attemptStarts.head? o = some z ∧ z.state = .TUNING
      ∧ z.tuneTimer = some ⟨s.elapsed, if y.state = .PROBING then 3000 else 500⟩ := by
  have waited := waited_of_nextStart wf next held
  obtain ⟨x, started, tuning, timer, -⟩ := head_startTune_waiting held waited
  have one := startTune_starts wf held waited
  obtain ⟨n, size⟩ : ∃ n, s.heads.size = n + 1 := Nat.exists_eq_succ_of_ne_zero (by
    have cell := cell_of_head held
    have some_cell := List.length_pos_of_mem cell
    exact Nat.ne_of_gt some_cell)
  have first : s.attemptStarts = Nat.repeat State.scheduleOne n (s.startTune o (if y.state = .PROBING then .LONG else .SHORT)) := by
    rw [State.attemptStarts, schedule_eq_repeat, size, ← scheduleOne_of_nextStart next held, repeat_scheduleOne]
    rfl
  obtain ⟨z, there, again⟩ := (repeat_starts one.wf n).heads o x started
  obtain rfl := again.of_tuning tuning
  exact ⟨z, first ▸ there, tuning, timer⟩

end Attempts

section Idents

variable {s : State} {l : Nat} {t : Turn} {hd : Head} {code : Byte}

/-! ## Polls of a PROBING or TUNING head (R148, R167) -/

/-- The state once the poll of a head has been answered. -/
def State.polled (s : State) (h : HeadId) (x : Head) : State :=
  { s with lines := s.lines.set h.line { s.line h.line with turn := none }, heads := s.heads.set h.key x }

theorem heard_of_tuningPoll (frame : t.frame = .tuningPoll) (hd : Head) :
    s.heard l t hd = s.polled ⟨l, t.target⟩ { hd with missed := 0, lastTurnEnd := some s.elapsed } := by
  simp only [State.heard, State.polled, Line.turnOver, Head.turnEnded, frame]

theorem heard_of_ident (frame : t.frame = .ident) (hd : Head) :
    s.heard l t hd =
      s.polled ⟨l, t.target⟩ { hd with missed := 0, lastTurnEnd := some s.elapsed, lastIdentEnd := some s.elapsed } := by
  simp only [State.heard, State.polled, Line.turnOver, Head.turnEnded, frame]

section Polled

variable {h : HeadId} {x y : Head} (held : s.head? h = some hd)

theorem line_polled (s : State) (h : HeadId) (x : Head) : (s.polled h x).line h.line = { s.line h.line with turn := none } :=
  (State.line_set rfl h.line).trans (if_pos rfl)

theorem polled_keeps (s : State) (h : HeadId) (x : Head) : Keeps [.lines, .heads] s (s.polled h x) := keeps_linesHeads s _ _

include held

theorem head_polled (x : Head) : (s.polled h x).head? h = some x :=
  (State.head_set (State.inRange_of_head held) rfl h).trans (if_pos rfl)

theorem head_polled_other {o : HeadId} (x : Head) (other : o ≠ h) : (s.polled h x).head? o = s.head? o :=
  (State.head_set (State.inRange_of_head held) rfl o).trans (if_neg other)

theorem modifyHead_polled (x : Head) (f : Head → Head) : (s.polled h x).modifyHead h f = s.polled h (f x) := by
  rw [modifyHead_of_head (head_polled held x)]
  simp only [State.polled, Table.set_set]

end Polled

/-! ## The IDENT answer (R167) -/

theorem receiveAnswer_ident (turn : (s.line l).turn = some t) (held : s.head? ⟨l, t.target⟩ = some hd) (kept : t.dropped = false)
    (frame : t.frame = .ident) (code : Byte) :
    s.receiveAnswer l (answerFrame t.target 0x85#8 [code]) =
      (s.polled ⟨l, t.target⟩ { hd with missed := 0, lastTurnEnd := some s.elapsed, lastIdentEnd := some s.elapsed }).takeIdent
        ⟨l, t.target⟩ (hd.turnEnded t s.elapsed) code.toNat := by
  obtain ⟨-, -, single⟩ := (HeadId.inRange_iff _).1 (State.inRange_of_head held)
  have good : judge t (answerFrame t.target 0x85#8 [code]) = .good (.ident code.toNat) :=
    judge_answerFrame (Nat.lt_of_le_of_lt single (by decide)) (by simp) (headAnswerOf_ident code) (by simp)
      (by simp [TurnFrame.allows, frame])
  rw [receiveAnswer_of_good turn held kept good, heard_of_ident frame]
  rfl

theorem takeIdent_of_other {h : HeadId} (state : hd.state ≠ .PROBING) (n : Nat) : s.takeIdent h hd n = s := if_neg state

theorem takeIdent_of_class {h : HeadId} {n : Nat} (state : hd.state = .PROBING) (same : n = hd.cls.ctorIdx + 1) :
    s.takeIdent h hd n = (s.modifyHead h (fun x => { x with tuneWait := some (x.tuneWait.getD s.elapsed) })).attemptStarts :=
  (if_pos state).trans (if_pos same)

theorem takeIdent_of_mismatch {h : HeadId} {n : Nat} (state : hd.state = .PROBING) (other : n ≠ hd.cls.ctorIdx + 1) :
    s.takeIdent h hd n = (s.modifyHead h (fun x => { x with tuneWait := none })).faultHead h .CLASS_MISMATCH 0 :=
  (if_pos state).trans (if_neg other)

/-- A PROBING head that has given its class and waits to tune. -/
def Head.identified (hd : Head) (now : Nat) : Head :=
  { hd with missed := 0, lastTurnEnd := some now, lastIdentEnd := some now, tuneWait := some (hd.tuneWait.getD now) }

theorem receiveAnswer_ident_class (turn : (s.line l).turn = some t) (held : s.head? ⟨l, t.target⟩ = some hd) (kept : t.dropped = false)
    (frame : t.frame = .ident) (state : hd.state = .PROBING) (same : code.toNat = hd.cls.ctorIdx + 1) :
    s.receiveAnswer l (answerFrame t.target 0x85#8 [code]) = (s.polled ⟨l, t.target⟩ (hd.identified s.elapsed)).attemptStarts := by
  rw [receiveAnswer_ident turn held kept frame,
    takeIdent_of_class (hd := hd.turnEnded t s.elapsed) state same, modifyHead_polled held]
  rfl

/-- A head that has given another class (R167, R172). -/
def Head.mismatched (hd : Head) (now : Nat) : Head :=
  Head.faulted { hd with missed := 0, lastTurnEnd := some now, lastIdentEnd := some now, tuneWait := none } .CLASS_MISMATCH none

theorem receiveAnswer_ident_mismatch (turn : (s.line l).turn = some t) (held : s.head? ⟨l, t.target⟩ = some hd)
    (kept : t.dropped = false) (frame : t.frame = .ident) (state : hd.state = .PROBING) (other : code.toNat ≠ hd.cls.ctorIdx + 1) :
    s.receiveAnswer l (answerFrame t.target 0x85#8 [code]) =
      (s.polled ⟨l, t.target⟩ (hd.mismatched s.elapsed)).raise .HEAD_STATE
        (.headState ⟨l, t.target⟩ (some .FAULTED) (some .CLASS_MISMATCH) 0) := by
  rw [receiveAnswer_ident turn held kept frame,
    takeIdent_of_mismatch (hd := hd.turnEnded t s.elapsed) state other, modifyHead_polled held,
    faultHead_of_notOnline (head_polled held _) (by simp [state])]
  simp only [State.polled, Table.set_set]
  rfl

end Idents

end Sys2Proof.Machine
end

section
/-! PROOFS. The end of a tune (R169 to R171): the corrected field strength, the outcome it decides, and the indicator of a door head's cabin
that enters ONLINE (R164, R28). -/

namespace Sys2Proof.Machine

open Sys2Proof

section Readings

variable {value : Option Nat} {v low high field refLow refHigh : Nat}

/-! ## The corrected field strength (R170, R171) -/

theorem corrected_of_le (le : high ≤ low) : corrected low high field refLow refHigh = none := by
  unfold corrected
  exact if_pos (by omega)

/-- R170: the quotient rounded half up, limited to 0..1000. -/
theorem corrected_of_lt (lt : low < high) : ∃ q : Int,
    let d : Int := high - low
    let n : Int := ((field : Int) - low) * ((refHigh : Int) - refLow)
    2 * d * q ≤ 2 * n + d ∧ 2 * n + d < 2 * d * (q + 1)
      ∧ corrected low high field refLow refHigh = some (max 0 (min 1000 ((refLow : Int) + q))).toNat := by
  have pos : 0 < 2 * ((high : Int) - low) := by omega
  refine ⟨_, ?_, ?_, if_neg (by omega)⟩
  · rw [Int.fdiv_eq_ediv_of_nonneg _ (Int.le_of_lt pos)]
    exact Int.mul_ediv_self_le (Int.ne_of_gt pos)
  · rw [Int.fdiv_eq_ediv_of_nonneg _ (Int.le_of_lt pos), Int.mul_add, Int.mul_one]
    exact Int.lt_mul_ediv_self_add pos

theorem outcomeOf_eq_none : outcomeOf value = none ↔ ∀ v, value = some v → v < 300 := by
  cases value with
  | none => simp [outcomeOf]
  | some v =>
    by_cases low : v < 300
    · simp [outcomeOf, low]
    · by_cases weak : v < 600 <;> simp [outcomeOf, low, weak]

theorem outcomeOf_of_ge (enough : 300 ≤ v) : outcomeOf (some v) = some (if v < 600 then .WEAK else .GOOD) := by
  have notLow : ¬ v < 300 := by omega
  by_cases weak : v < 600 <;> simp [outcomeOf, notLow, weak]

end Readings

section Indicators

variable {s : State} {h : HeadId} {hd x : Head} {k : Nat}

/-! ## Entering ONLINE (R164, R28) -/

theorem head_written (held : s.head? h = some hd) (y : Head) : ({ s with heads := s.heads.set h.key y } : State).head? h = some y :=
  (State.head_set (State.inRange_of_head held) rfl h).trans (if_pos rfl)

theorem enterOnline_of_head (held : s.head? h = some x) :
    s.enterOnline h =
      ({ s with heads := s.heads.set h.key { x with state := .ONLINE } } : State).cabinEntry { x with state := .ONLINE } := by
  unfold State.enterOnline
  dsimp only
  rw [modifyHead_of_head held, head_written held]

theorem cabinEntry_of_noCabin (noCabin : hd.cls ≠ .CABIN_DOOR ∨ s.cabinSlot hd.bound = none) : s.cabinEntry hd = s := by
  unfold State.cabinEntry
  split
  · rename_i door
    obtain none := noCabin.resolve_left (not_not_intro door)
    rw [none]
  all_goals rfl

theorem cabinEntry_of_cabin (door : hd.cls = .CABIN_DOOR) (slot : s.cabinSlot hd.bound = some k) : s.cabinEntry hd = s.indicatorWork k := by
  simp only [State.cabinEntry, door, slot]

theorem online_of_heads {t : State} (heads : t.heads = s.heads) (d : HeadId) : t.online d = s.online d := by
  rw [State.online, State.online, State.head_of_heads heads]

/-- R28: what the indicator work makes of the lines and the cabins, by the door head of the cabin. -/
theorem indicatorWork_cases {cb : Cabin} (cell : s.cabins.get k = some cb) :
    (cb.doorHead = none →
      (s.indicatorWork k).lines = s.lines ∧ (s.indicatorWork k).cabins = s.cabins.set k { cb with owed := false })
    ∧ ∀ d, cb.doorHead = some d →
      (s.online d = true → 0 < (s.line d.line).free →
        (s.indicatorWork k).lines = s.lines.set d.line
            { s.line d.line with queue := (s.line d.line).queue ++ [⟨d.address, .indicator cb.number cb.privacy⟩] }
          ∧ (s.indicatorWork k).cabins = s.cabins.set k { cb with owed := false })
      ∧ ((s.online d = false ∨ (s.line d.line).free = 0) →
          (s.indicatorWork k).lines = s.lines ∧ (s.indicatorWork k).cabins = s.cabins.set k { cb with owed := true }) := by
  rw [indicatorWork_of_get s cell]
  refine ⟨fun noDoor => ?_, fun d door => ⟨fun online free => ?_, fun other => ?_⟩⟩
  · rw [noDoor]
    exact ⟨rfl, rfl⟩
  · rw [door]
    dsimp only
    rw [if_pos ⟨online, free⟩]
    exact ⟨rfl, rfl⟩
  · have notSent : ¬ (s.online d = true ∧ 0 < (s.line d.line).free) := by
      rintro ⟨online, free⟩
      rcases other with offline | full
      · rw [online] at offline
        cases offline
      · omega
    rw [door]
    dsimp only
    rw [if_neg notSent]
    exact ⟨rfl, rfl⟩

end Indicators

section Tunes

variable {s : State} {h : HeadId} {hd x : Head} {low high field : Nat} {quality : Quality}

/-! ## The outcome of a tune (R169, R171) -/

/-- A head whose tune has failed by its field strength. -/
def Head.fieldFailed (x : Head) (value : Option Nat) (retry : Timer) : Head :=
  Head.faulted { x with field := value, quality := .UNTUNED, nextDue := none } .FIELD_FAILED (some retry)

/-- A head whose tune has left it ONLINE with a quality. -/
def Head.tunedTo (x : Head) (value : Option Nat) (quality : Quality) (now next : Nat) : Head :=
  { x.tuneOver with field := value, quality, lastTune := some now, nextDue := some next, notified := false, due := false,
                    state := .ONLINE }

theorem finishTune_of_failed (held : s.head? h = some x) (state : x.state ≠ .ONLINE)
    (failed : outcomeOf (corrected low high field s.params.refLow s.params.refHigh) = none) :
    s.finishTune h hd low high field =
      let y := x.fieldFailed (corrected low high field s.params.refLow s.params.refHigh) ⟨s.elapsed, 1000 * s.params.faultRetry⟩
      ({ s with heads := s.heads.set h.key y } : State).raise .HEAD_STATE (.headState h (some .FAULTED) (some .FIELD_FAILED) 0) := by
  unfold State.finishTune
  simp only [failed]
  rw [modifyHead_of_head held, faultHead_of_notOnline (head_written held _) (by exact state)]
  simp only [Table.set_set]
  rfl

theorem finishTune_of_quality (held : s.head? h = some x)
    (tuned : outcomeOf (corrected low high field s.params.refLow s.params.refHigh) = some quality) :
    s.finishTune h hd low high field =
      let y := x.tunedTo (corrected low high field s.params.refLow s.params.refHigh) quality s.elapsed
        (s.after (dueAfter s.params.shortTune quality))
      let w := ({ s with heads := s.heads.set h.key y } : State).cabinEntry y
      if quality = .WEAK ∧ hd.quality ≠ .WEAK then w.raise .HEAD_STATE (.headState h (some .ONLINE) none 0) else w := by
  unfold State.finishTune
  simp only [tuned]
  rw [modifyHead_of_head held, enterOnline_of_head (head_written held _)]
  simp only [Table.set_set]
  rfl

end Tunes

section Answers

variable {s : State} {l : Nat} {t : Turn} {hd : Head} {low high field : Nat} {quality : Quality}
  (turn : (s.line l).turn = some t) (kept : t.dropped = false) (held : s.head? ⟨l, t.target⟩ = some hd) (frame : t.frame = .tuningPoll)

/-! ## The answers to a tuning poll (R169) -/

include turn kept held frame

theorem receiveAnswer_tuning :
    s.receiveAnswer l (answerFrame t.target 0x83#8 []) =
      s.polled ⟨l, t.target⟩ { hd with missed := 0, lastTurnEnd := some s.elapsed } := by
  obtain ⟨-, -, single⟩ := (HeadId.inRange_iff _).1 (State.inRange_of_head held)
  have good : judge t (answerFrame t.target 0x83#8 []) = .good .tuning :=
    judge_answerFrame (Nat.lt_of_le_of_lt single (by decide)) (by simp) rfl (by simp) (by simp [TurnFrame.allows, frame])
  rw [receiveAnswer_of_good turn held kept good, heard_of_tuningPoll frame]
  rfl

theorem receiveAnswer_tuneDone (low high field : Nat) :
    s.receiveAnswer l (answerFrame t.target 0x84#8 (u16 low ++ u16 high ++ u16 field)) =
      if hd.state = .TUNING then
        (s.polled ⟨l, t.target⟩ { hd with missed := 0, lastTurnEnd := some s.elapsed }).finishTune ⟨l, t.target⟩
          (hd.turnEnded t s.elapsed) (numberOf (u16 low)) (numberOf (u16 high)) (numberOf (u16 field))
      else s.polled ⟨l, t.target⟩ { hd with missed := 0, lastTurnEnd := some s.elapsed } := by
  obtain ⟨-, -, single⟩ := (HeadId.inRange_iff _).1 (State.inRange_of_head held)
  have good : judge t (answerFrame t.target 0x84#8 (u16 low ++ u16 high ++ u16 field)) =
      .good (.tuneDone (numberOf (u16 low)) (numberOf (u16 high)) (numberOf (u16 field))) :=
    judge_answerFrame (Nat.lt_of_le_of_lt single (by decide)) (by simp [u16]) (headAnswerOf_tuneDone low high field) (by simp)
      (by simp [TurnFrame.allows, frame])
  rw [receiveAnswer_of_good turn held kept good, heard_of_tuningPoll frame]
  rfl

variable (state : hd.state = .TUNING) (low_le : low ≤ 4095) (high_le : high ≤ 4095) (field_le : field ≤ 4095)

include state low_le high_le field_le

theorem receiveAnswer_tuneDone_of_tuning :
    s.receiveAnswer l (answerFrame t.target 0x84#8 (u16 low ++ u16 high ++ u16 field)) =
      (s.polled ⟨l, t.target⟩ { hd with missed := 0, lastTurnEnd := some s.elapsed }).finishTune ⟨l, t.target⟩
        (hd.turnEnded t s.elapsed) low high field := by
  rw [receiveAnswer_tuneDone turn kept held frame, if_pos state, numberOf_u16 (by omega), numberOf_u16 (by omega),
    numberOf_u16 (by omega)]

theorem receiveAnswer_tuneDone_failed (failed : outcomeOf (corrected low high field s.params.refLow s.params.refHigh) = none) :
    s.receiveAnswer l (answerFrame t.target 0x84#8 (u16 low ++ u16 high ++ u16 field)) =
      (s.polled ⟨l, t.target⟩ (Head.fieldFailed { hd with missed := 0, lastTurnEnd := some s.elapsed }
        (corrected low high field s.params.refLow s.params.refHigh) ⟨s.elapsed, 1000 * s.params.faultRetry⟩)).raise
        .HEAD_STATE (.headState ⟨l, t.target⟩ (some .FAULTED) (some .FIELD_FAILED) 0) := by
  rw [receiveAnswer_tuneDone_of_tuning turn kept held frame state low_le high_le field_le,
    finishTune_of_failed (head_polled held _) (by simp [state]) failed]
  simp only [State.polled, Table.set_set]

theorem receiveAnswer_tuneDone_tuned
    (tuned : outcomeOf (corrected low high field s.params.refLow s.params.refHigh) = some quality) :
    s.receiveAnswer l (answerFrame t.target 0x84#8 (u16 low ++ u16 high ++ u16 field)) =
      let y := Head.tunedTo { hd with missed := 0, lastTurnEnd := some s.elapsed }
        (corrected low high field s.params.refLow s.params.refHigh) quality s.elapsed (s.after (dueAfter s.params.shortTune quality))
      let w := (s.polled ⟨l, t.target⟩ y).cabinEntry y
      if quality = .WEAK ∧ hd.quality ≠ .WEAK then w.raise .HEAD_STATE (.headState ⟨l, t.target⟩ (some .ONLINE) none 0) else w := by
  rw [receiveAnswer_tuneDone_of_tuning turn kept held frame state low_le high_le field_le,
    finishTune_of_quality (head_polled held _) tuned]
  simp only [State.polled, Table.set_set]
  rfl

end Answers

end Sys2Proof.Machine
end

section
/-! PROOFS. What IDENT and TUNE_DONE answers leave of a head, of the other heads, of a cabin and of the notices (R167 to R173). -/

namespace Sys2Proof.Machine

open Sys2Proof

section Outcomes

variable {s u w : State} {h : HeadId} {hd : Head} {quality : Quality}

theorem gives_of_receiveAnswer {l : Nat} {bytes : List Byte} (answered : s.receiveAnswer l bytes = u) :
    Gives (.answerReceived l bytes) s u := congrArg Host.Outcome.next answered

/-! ## A head after its IDENT answer (R167, R173) -/

/-- R167: a PROBING head that has given its class waits to tune or is TUNING, LONG. -/
theorem Head.StartedAs.of_identified {now : Nat} {y : Head} (started : (hd.identified now).StartedAs now y) (state : hd.state = .PROBING) :
    y.missed = 0 ∧ ((y.state = .PROBING ∧ y.tuneWait = some (hd.tuneWait.getD now))
      ∨ (y.state = .TUNING ∧ y.tuneKind = .LONG ∧ y.tuneTimer = some ⟨now, 3000⟩)) := by
  have probing : (hd.identified now).state = .PROBING := state
  obtain rfl | ⟨-, tuning, kind, timer, -, -, missed⟩ := started
  · exact ⟨rfl, .inl ⟨state, rfl⟩⟩
  · rw [if_pos probing] at kind timer
    exact ⟨missed, .inr ⟨tuning, kind, timer⟩⟩

/-- R173: another head after the attempt. -/
theorem Head.StartedAs.cases {now : Nat} {x y : Head} (started : x.StartedAs now y) : y = x
    ∨ (y.state = .TUNING ∧ y.cls = x.cls ∧ y.bound = x.bound ∧ (x.state = .PROBING ∨ x.state = .ONLINE)) := by
  obtain same | ⟨waited, tuning, -, -, cls, bound, -⟩ := started
  · exact .inl same
  · exact .inr ⟨tuning, cls, bound, waited⟩

/-! ## The notice of a tune (R171, R176) -/

/-- A HEAD_STATE raise, or none, changes no part but the latches. -/
theorem raisedOr_same {p : Prop} [Decidable p] {x : Subject} (is : u = if p then w.raise .HEAD_STATE x else w) :
    u.heads = w.heads ∧ u.lines = w.lines ∧ u.cabins = w.cabins ∧ Keeps [.latches] w u
      ∧ u.latch .HEAD_STATE = if p then (w.latch .HEAD_STATE).raised x w.clock.time else w.latch .HEAD_STATE := by
  by_cases raises : p
  · rw [if_pos raises] at is
    subst is
    rw [if_pos raises]
    exact ⟨rfl, rfl, rfl, raise_keeps w _ _, (State.latch_raise w .HEAD_STATE .HEAD_STATE x).trans (if_pos rfl)⟩
  · rw [if_neg raises] at is
    subst is
    rw [if_neg raises]
    exact ⟨rfl, rfl, rfl, keeps_refl _ u, rfl⟩

end Outcomes

/-- Settles O51: each answer by its kind and the state of the head, the attempt by the starts it makes, and the outcome of a tune by the
corrected field strength. -/
theorem identAndTuneDone : Obligations.IdentAndTuneDone := by
  intro s l a t hd turn target kept _ held wf
  subst target
  refine ⟨fun frame => gives_of_receiveAnswer (receiveAnswer_tuning turn kept held frame), fun frame other code => ?_,
    fun frame other low high field =>
      gives_of_receiveAnswer ((receiveAnswer_tuneDone turn kept held frame low high field).trans (if_neg other)),
    fun frame state code => ?_, fun frame state low high field low_le high_le field_le => ?_⟩
  · exact gives_of_receiveAnswer ((receiveAnswer_ident turn held kept frame code).trans (takeIdent_of_other other _))
  · intro waiting start
    have starts : start = State.scheduleOne := rfl
    have others {o : HeadId} (x : Head) (other : o ≠ ⟨l, t.target⟩) := head_polled_other held x other
    by_cases same : code.toNat = hd.cls.ctorIdx + 1
    case pos =>
      have answered := receiveAnswer_ident_class turn held kept frame state same
      have waiting_wf : waiting.heads.wf = true := Table.wf_set _ _ wf
      have attempt := attemptStarts_starts waiting_wf
      obtain ⟨hd', there, started⟩ := attempt.heads _ _ (head_polled held (hd.identified s.elapsed))
      obtain ⟨missed, waits⟩ := started.of_identified state
      refine ⟨_, hd', gives_of_receiveAnswer answered, there, ?_, ?_, missed, fun _ => waits, fun _ => ⟨?_, fun o y next here => ?_,
        fun o y other here => ?_⟩, fun differs => absurd same differs⟩
      · exact (attempt.turn l).trans (congrArg Line.turn (line_polled s ⟨l, t.target⟩ (hd.identified s.elapsed)))
      · exact ((polled_keeps s _ _).weaken (by simp)).trans (attemptStarts_keeps _)
      · rw [starts]
        exact schedule_eq_repeat _ _
      · exact attemptStarts_first waiting_wf next here
      · obtain ⟨y', there, started⟩ := attempt.heads o y ((others _ other).trans here)
        obtain rfl | ⟨tuning, cls, bound, waited⟩ := started.cases
        · exact .inl there
        · exact .inr ⟨y', there, tuning, cls, bound, waited⟩
    case neg =>
      refine ⟨_, hd.mismatched s.elapsed, gives_of_receiveAnswer (receiveAnswer_ident_mismatch turn held kept frame state same),
        head_polled held _, congrArg Line.turn (line_polled s ⟨l, t.target⟩ (hd.mismatched s.elapsed)), ?_, rfl,
        fun is => absurd is same, fun is => absurd is same, fun _ => ⟨rfl, rfl, rfl, rfl, fun o other => others _ other, ?_⟩⟩
      · exact ((polled_keeps s _ _).weaken (by simp)).trans ((raise_keeps _ _ _).weaken (by simp))
      · exact (State.latch_raise _ .HEAD_STATE .HEAD_STATE _).trans (if_pos rfl)
  · intro value freed interval
    cases outcome : outcomeOf value with
    | none =>
      have below := outcomeOf_eq_none.1 outcome
      have no_cabin {v : Nat} (is : value = some v) (enough : 300 ≤ v) : False := by
        have less := below v is
        omega
      refine ⟨_, _, gives_of_receiveAnswer (receiveAnswer_tuneDone_failed turn kept held frame state low_le high_le field_le outcome),
        head_polled held _, ?_, fun o other => head_polled_other held _ other, rfl, rfl, rfl, fun _ => ⟨rfl, rfl⟩,
        fun v k cb is enough => (no_cabin is enough).elim, corrected_of_le, corrected_of_lt, fun _ => ⟨rfl, ?_⟩,
        fun v is enough => (no_cabin is enough).elim⟩
      · exact ((polled_keeps s _ _).weaken (by simp)).trans ((raise_keeps _ _ _).weaken (by simp))
      · exact (State.latch_raise _ .HEAD_STATE .HEAD_STATE _).trans (if_pos rfl)
    | some quality =>
      let y := Head.tunedTo { hd with missed := 0, lastTurnEnd := some s.elapsed } value quality s.elapsed
        (s.after (dueAfter s.params.shortTune quality))
      let p := s.polled ⟨l, t.target⟩ y
      obtain ⟨heads, lines, cabins, keeps, latch⟩ :=
        raisedOr_same (w := p.cabinEntry y) (receiveAnswer_tuneDone_tuned turn kept held frame state low_le high_le field_le outcome)
      have entry := cabinEntry_keeps p y
      have heads_p : _ = p.heads := heads.trans (entry .heads (by simp))
      have notBelow (below : ∀ v, value = some v → v < 300) : False := by
        have failed := outcomeOf_eq_none.2 below
        rw [outcome] at failed
        cases failed
      have is_quality {v : Nat} (is : value = some v) (enough : 300 ≤ v) : quality = if v < 600 then .WEAK else .GOOD := by
        rw [is, outcomeOf_of_ge enough] at outcome
        exact (Option.some.inj outcome).symm
      refine ⟨_, y, gives_of_receiveAnswer rfl, (State.head_of_heads heads_p _).trans (head_polled held y), ?_,
        fun o other => (State.head_of_heads heads_p o).trans (head_polled_other held y other), rfl, rfl, rfl, fun noCabin => ?_,
        fun v k cb is enough door slot cell => ?_, corrected_of_le, corrected_of_lt, fun below => (notBelow below).elim,
        fun v is enough => ⟨rfl, fun weak => ?_, fun good => ?_, fun weak first => ?_, fun still => ?_⟩⟩
      · exact (((polled_keeps s _ y).weaken (by simp)).trans (entry.weaken (by simp))).trans (keeps.weaken (by simp))
      · have unchanged : p.cabinEntry y = p :=
          cabinEntry_of_noCabin (noCabin.imp_right fun other => other.resolve_left fun below => notBelow below)
        rw [lines, cabins, unchanged]
        exact ⟨rfl, rfl⟩
      · have work : p.cabinEntry y = p.indicatorWork k := cabinEntry_of_cabin door slot
        obtain ⟨noDoor, byDoor⟩ := indicatorWork_cases (s := p) cell
        rw [lines, cabins, work]
        refine ⟨noDoor, fun d is => ?_⟩
        rw [online_of_heads heads_p d]
        exact byDoor d is
      · obtain rfl := (is_quality is enough).trans (if_pos weak)
        exact ⟨rfl, rfl⟩
      · obtain rfl := (is_quality is enough).trans (if_neg (Nat.not_lt_of_le good))
        exact ⟨rfl, rfl⟩
      · have is_weak := (is_quality is enough).trans (if_pos weak)
        have latch_w : (p.cabinEntry y).latch .HEAD_STATE = s.latch .HEAD_STATE := State.latch_of_latches (entry .latches (by simp)) _
        have clock_w : (p.cabinEntry y).clock = s.clock := entry .clock (by simp)
        rw [latch, if_pos ⟨is_weak, first⟩, latch_w, clock_w]
      · refine (latch.trans (if_neg ?_)).trans (State.latch_of_latches (entry .latches (by simp)) _)
        rintro ⟨is_weak, first⟩
        rcases still with good | was
        · have is_good := (is_quality is enough).trans (if_neg (Nat.not_lt_of_le good))
          rw [is_weak] at is_good
          cases is_good
        · exact first was

end Sys2Proof.Machine
end

section
/-! PROOFS. The bindings of heads to cabins and lanes (R25, R106, R165): what making and undoing one leaves. -/

namespace Sys2Proof.Machine

open Sys2Proof

section Cabins

variable {s t : State} {k m n : Nat}

/-! ## The cabin of a number after a write -/

/-- A write that keeps a cabin's number changes the cabin of that number alone. -/
theorem cabin_modifyCabin (wf : s.cabins.wf = true) {f : Cabin → Cabin} (number : ∀ c, (f c).number = c.number)
    (slot : s.cabinSlot n = some k) (m : Nat) : (s.modifyCabin k f).cabin? m = if m = n then (s.cabin? m).map f else s.cabin? m := by
  obtain ⟨c, cell, is⟩ := cabin_of_cabinSlot wf slot
  have slots : (s.modifyCabin k f).cabinSlot m = s.cabinSlot m := by
    rw [modifyCabin_of_get s cell]
    exact Table.findKey_set wf cell (by simp [number])
  unfold State.cabin?
  rw [slots, modifyCabin_of_get s cell]
  by_cases same : m = n
  · subst same
    simp [slot, cell]
  · rw [if_neg same]
    cases found : s.cabinSlot m with
    | none => rfl
    | some j =>
      obtain ⟨d, there, isd⟩ := cabin_of_cabinSlot wf found
      have other : j ≠ k := by
        rintro rfl
        rw [cell] at there
        obtain rfl := Option.some.inj there
        exact same (isd.symm.trans is)
      simp [other]

theorem cabin_unbindCabin (wf : s.cabins.wf = true) (n m : Nat) :
    (s.unbindCabin n).cabin? m =
      if m = n then (s.cabin? m).map (fun c => { c with doorHead := none, deadbolt := .UNKNOWN, owed := false }) else s.cabin? m := by
  unfold State.unbindCabin
  cases slot : s.cabinSlot n with
  | none =>
    have absent : s.cabin? n = none := by simp [State.cabin?, slot]
    by_cases same : m = n
    · subst same
      simp [absent]
    · exact (if_neg same).symm
  | some k => exact cabin_modifyCabin wf (fun _ => by rfl) slot m

theorem cabin_bindCabin (wf : s.cabins.wf = true) (n : Nat) (h : HeadId) (m : Nat) :
    (s.bindCabin n h).cabin? m = if m = n then (s.cabin? m).map (fun c => { c with doorHead := some h }) else s.cabin? m := by
  unfold State.bindCabin
  cases slot : s.cabinSlot n with
  | none =>
    have absent : s.cabin? n = none := by simp [State.cabin?, slot]
    by_cases same : m = n
    · subst same
      simp [absent]
    · exact (if_neg same).symm
  | some k => exact cabin_modifyCabin wf (fun _ => by rfl) slot m

theorem unbind_cabins_wf (wf : s.cabins.wf = true) (cls : HeadClass) (bound : Nat) : (s.unbind cls bound).cabins.wf = true := by
  cases cls with
  | CABIN_DOOR =>
    unfold State.unbind State.unbindCabin
    dsimp only
    split
    · exact wf
    · exact Table.wf_modify _ _ wf
  | VENUE_TERMINAL | GANGWAY_LANE => exact wf

end Cabins

section Bindings

variable {s t : State} {h : HeadId} {cls c : HeadClass} {bound b : Nat}

/-! ## Bindings (R165) -/

/-- The bound object of a head has its binding: a cabin its door head, a lane its head. -/
def State.Bound (t : State) (h : HeadId) (cls : HeadClass) (bound : Nat) : Prop :=
  (cls = .CABIN_DOOR → ∃ cb, t.cabin? bound = some cb ∧ cb.doorHead = some h)
    ∧ (cls = .GANGWAY_LANE → (t.lane bound).head = some h)

/-- The bound object of a head has no binding. -/
def State.Unbound (t : State) (cls : HeadClass) (bound : Nat) : Prop :=
  (cls = .CABIN_DOOR → ∀ cb, t.cabin? bound = some cb → cb.doorHead = none ∧ cb.deadbolt = .UNKNOWN ∧ cb.owed = false)
    ∧ (cls = .GANGWAY_LANE → (t.lane bound).head = none)

theorem cabin_of_cabins (cabins : t.cabins = s.cabins) (n : Nat) : t.cabin? n = s.cabin? n := by
  rw [State.cabin?, State.cabin?, State.cabinSlot, State.cabinSlot, cabins]

theorem State.Bound.of_same (is : s.Bound h cls bound) (cabins : t.cabins = s.cabins) (lanes : t.lanes = s.lanes) :
    t.Bound h cls bound := by
  unfold State.Bound
  rw [cabin_of_cabins cabins, State.lane_of_lanes lanes]
  exact is

theorem State.Unbound.of_same (is : s.Unbound cls bound) (cabins : t.cabins = s.cabins) (lanes : t.lanes = s.lanes) :
    t.Unbound cls bound := by
  unfold State.Unbound
  rw [cabin_of_cabins cabins, State.lane_of_lanes lanes]
  exact is

/-- R165: the owner of the bound object makes the binding. -/
theorem bind_bound (wf : s.cabins.wf = true) (there : cls = .CABIN_DOOR → s.cabin? bound ≠ none) :
    (s.bind h cls bound).Bound h cls bound := by
  cases cls with
  | CABIN_DOOR =>
    obtain ⟨cb, held⟩ := Option.ne_none_iff_exists'.1 (there rfl)
    refine ⟨fun _ => ⟨{ cb with doorHead := some h }, ?_, rfl⟩, nofun⟩
    exact (cabin_bindCabin wf bound h bound).trans (by simp [held])
  | VENUE_TERMINAL => exact ⟨nofun, nofun⟩
  | GANGWAY_LANE => exact ⟨nofun, fun _ => congrArg Lane.head ((State.lane_setLane s bound bound _).trans (if_pos rfl))⟩

/-- R165 and R166: the owner of the bound object undoes the binding. -/
theorem unbind_unbound (wf : s.cabins.wf = true) (cls : HeadClass) (bound : Nat) : (s.unbind cls bound).Unbound cls bound := by
  cases cls with
  | CABIN_DOOR =>
    refine ⟨fun _ cb held => ?_, nofun⟩
    have unbound := (cabin_unbindCabin wf bound bound).symm.trans held
    rw [if_pos rfl] at unbound
    obtain ⟨_, -, rfl⟩ := Option.map_eq_some_iff.1 unbound
    exact ⟨rfl, rfl, rfl⟩
  | VENUE_TERMINAL => exact ⟨nofun, nofun⟩
  | GANGWAY_LANE => exact ⟨nofun, fun _ => congrArg Lane.head ((State.lane_setLane s bound bound _).trans (if_pos rfl))⟩

/-- The binding of one object is made without touching another. -/
theorem State.Unbound.bind (is : s.Unbound c b) (wf : s.cabins.wf = true) (other : c ≠ cls ∨ b ≠ bound) :
    (s.bind h cls bound).Unbound c b := by
  cases cls with
  | CABIN_DOOR =>
    refine ⟨fun door cb held => is.1 door cb ?_, fun lane =>
      (congrArg Lane.head (State.lane_of_lanes (bindCabin_keeps s bound h .lanes (by simp)) b)).trans (is.2 lane)⟩
    rw [← held]
    exact ((cabin_bindCabin wf bound h b).trans (if_neg (other.resolve_left (not_not_intro door)))).symm
  | VENUE_TERMINAL => exact is
  | GANGWAY_LANE =>
    refine ⟨is.1, fun lane => ?_⟩
    have apart : b ≠ bound := other.resolve_left (not_not_intro lane)
    exact (congrArg Lane.head ((State.lane_setLane s bound b _).trans (if_neg apart))).trans (is.2 lane)

theorem cabin_unbind_ne_none (wf : s.cabins.wf = true) (there : s.cabin? b ≠ none) : (s.unbind cls bound).cabin? b ≠ none := by
  cases cls with
  | CABIN_DOOR =>
    refine fun gone => there ?_
    have unbound := (cabin_unbindCabin wf bound b).symm.trans gone
    split at unbound
    · exact Option.map_eq_none_iff.1 unbound
    · exact unbound
  | VENUE_TERMINAL => exact there
  | GANGWAY_LANE => exact there

end Bindings

end Sys2Proof.Machine
end

section
/-! PROOFS. HEAD PUT and HEAD DROP (R165, R166): the checks in their order, what the head had in hand, and what its place, its line, its
bindings and the notices become. -/

namespace Sys2Proof.Machine

open Sys2Proof

section Checks

variable {s : State} {h : HeadId} {cls : HeadClass} {bound : Nat} {f : HeadFields}

/-! ## The checks of HEAD PUT (R165) -/

theorem ctorIdx_of_ofCode {code : Nat} (is : HeadClass.ofCode code = some cls) : cls.ctorIdx = code := by
  unfold HeadClass.ofCode at is
  split at is <;> cases is <;> rfl

theorem inRange_of_headClassOf (is : headClassOf h f = some cls) : h.inRange = true ∧ cls.ctorIdx = f.cls := by
  unfold headClassOf at is
  split at is
  case h_1 c code =>
    split at is
    case isTrue fields =>
      obtain rfl := Option.some.inj is
      simp only [Bool.and_eq_true] at fields
      obtain ⟨⟨⟨hh, -⟩, -⟩, -⟩ := fields
      exact ⟨hh, ctorIdx_of_ofCode code⟩
    case isFalse => cases is
  case h_2 => cases is

/-- The bound object does not exist. -/
def State.bindMissing (s : State) (cls : HeadClass) (bound : Nat) : Prop :=
  (cls = .CABIN_DOOR ∧ s.cabin? bound = none) ∨ (cls = .VENUE_TERMINAL ∧ s.venues.get bound = none)

/-- The bound object has another head. -/
def State.bindInUse (s : State) (h : HeadId) (cls : HeadClass) (bound : Nat) : Prop :=
  (cls = .CABIN_DOOR ∧ ∃ cb d, s.cabin? bound = some cb ∧ cb.doorHead = some d ∧ d ≠ h)
    ∨ (cls = .GANGWAY_LANE ∧ ∃ d, (s.lane bound).head = some d ∧ d ≠ h)

/-- The head is TUNING, and the neighbourhood it is to move to has another TUNING head. -/
def State.moveBusy (s : State) (h : HeadId) (neighbourhood : Nat) : Prop :=
  neighbourhood ≠ 0 ∧ (∃ hd, s.head? h = some hd ∧ hd.state = .TUNING)
    ∧ ∃ x ∈ s.heads.cells, x.1 ≠ h.key ∧ x.2.state = .TUNING ∧ x.2.neighbourhood = neighbourhood

theorem bindingRefusal_of_missing (missing : s.bindMissing cls bound) : s.bindingRefusal h cls bound = some .NOT_FOUND := by
  obtain ⟨rfl, absent⟩ | ⟨rfl, absent⟩ := missing <;> simp [State.bindingRefusal, absent]

theorem boundElsewhere_iff {o : Option HeadId} : o.any (fun d => decide (d ≠ h)) = true ↔ ∃ d, o = some d ∧ d ≠ h := by
  cases o <;> simp

theorem bindingRefusal_of_inUse (inUse : s.bindInUse h cls bound) : s.bindingRefusal h cls bound = some .IN_USE := by
  obtain ⟨rfl, cb, d, held, bound, other⟩ | ⟨rfl, d, bound, other⟩ := inUse
  · simp only [State.bindingRefusal, held]
    exact if_pos (boundElsewhere_iff.2 ⟨d, bound, other⟩)
  · exact if_pos (boundElsewhere_iff.2 ⟨d, bound, other⟩)

theorem bindingRefusal_of_free (there : ¬ s.bindMissing cls bound) (free : ¬ s.bindInUse h cls bound) :
    s.bindingRefusal h cls bound = none := by
  cases cls with
  | CABIN_DOOR =>
    obtain ⟨cb, held⟩ := Option.ne_none_iff_exists'.1 fun absent => there (.inl ⟨rfl, absent⟩)
    simp only [State.bindingRefusal, held]
    refine if_neg fun elsewhere => free ?_
    obtain ⟨d, bound, other⟩ := boundElsewhere_iff.1 elsewhere
    exact .inl ⟨rfl, cb, d, held, bound, other⟩
  | VENUE_TERMINAL =>
    obtain ⟨v, held⟩ := Option.ne_none_iff_exists'.1 fun absent => there (.inr ⟨rfl, absent⟩)
    simp [State.bindingRefusal, held]
  | GANGWAY_LANE =>
    refine if_neg fun elsewhere => free (.inr ⟨rfl, ?_⟩)
    exact boundElsewhere_iff.1 elsewhere

theorem headPutRefusal_of_binding {status : Status} (refusal : s.bindingRefusal h cls f.bound = some status) :
    s.headPutRefusal h cls f = some status := by
  simp only [State.headPutRefusal, refusal]

theorem moveBusy_iff : ((s.head? h).any (fun hd => decide (hd.state = .TUNING)) && decide (f.neighbourhood ≠ 0)
    && decide (s.tuningCount (fun k x => decide (k ≠ h.key) && decide (x.neighbourhood = f.neighbourhood)) ≠ 0)) = true
      ↔ s.moveBusy h f.neighbourhood := by
  have tuning : (s.head? h).any (fun hd => decide (hd.state = .TUNING)) = true ↔ ∃ hd, s.head? h = some hd ∧ hd.state = .TUNING := by
    cases s.head? h <;> simp
  have others : s.tuningCount (fun k x => decide (k ≠ h.key) && decide (x.neighbourhood = f.neighbourhood)) ≠ 0 ↔
      ∃ x ∈ s.heads.cells, x.1 ≠ h.key ∧ x.2.state = .TUNING ∧ x.2.neighbourhood = f.neighbourhood := by
    rw [ne_eq, tuningCount_eq_zero]
    simp only [Bool.and_eq_false_iff, decide_eq_false_iff_not]
    grind
  simp only [Bool.and_eq_true, decide_eq_true_eq, tuning, others, State.moveBusy]
  exact ⟨fun ⟨⟨held, n⟩, other⟩ => ⟨n, held, other⟩, fun ⟨n, held, other⟩ => ⟨⟨held, n⟩, other⟩⟩

theorem headPutRefusal_of_busy (binding : s.bindingRefusal h cls f.bound = none) (busy : s.moveBusy h f.neighbourhood) :
    s.headPutRefusal h cls f = some .BUSY := by
  simp only [State.headPutRefusal, binding]
  exact if_pos (moveBusy_iff.2 busy)

theorem headPutRefusal_of_free (binding : s.bindingRefusal h cls f.bound = none) (free : ¬ s.moveBusy h f.neighbourhood) :
    s.headPutRefusal h cls f = none := by
  simp only [State.headPutRefusal, binding]
  exact if_neg fun busy => free (moveBusy_iff.1 busy)

theorem headPutWork_of_outOfRange (outside : headClassOf h f = none) : s.headPutWork h f = s.refuse .OUT_OF_RANGE := by
  simp only [State.headPutWork, outside]

theorem headPutWork_of_refusal {status : Status} (is : headClassOf h f = some cls) (refusal : s.headPutRefusal h cls f = some status) :
    s.headPutWork h f = s.refuse status := by
  simp only [State.headPutWork, is, refusal]

end Checks

end Sys2Proof.Machine
end

section
/-! PROOFS. What HEAD PUT and HEAD DROP leave of a head that was there: its record, its line, its bindings and the notices (R165, R166). -/

namespace Sys2Proof.Machine

open Sys2Proof

section InHand

variable {s : State} {h : HeadId} {hd x : Head}

/-! ## What the head has in hand ends (R165 step 1) -/

/-- The state a head takes by its line (R165, R179). -/
def State.stateOn (s : State) (l : Nat) : HeadState := if (s.line l).state = .RUNNING then .PROBING else .IDLE

theorem byLine_lineRunning (x : Head) (s : State) (l : Nat) :
    x.byLine (s.lineRunning l) =
      { x with state := s.stateOn l, missed := if s.stateOn l = .PROBING then 0 else x.missed,
               lastSeq := if s.stateOn l = .PROBING then none else x.lastSeq,
               lastIdentEnd := if s.stateOn l = .PROBING then none else x.lastIdentEnd } := by
  by_cases running : (s.line l).state = .RUNNING
  · simp [State.lineRunning, State.stateOn, Head.byLine, Head.probing, running]
  · simp [State.lineRunning, State.stateOn, Head.byLine, running]

theorem tuneFrameEnds_lines (held : s.head? h = some x) :
    (s.tuneFrameEnds h).lines = if x.state = .TUNING then s.linesWithoutTune h else s.lines := by
  simp only [State.tuneFrameEnds, held, removeTuneFrame_eq]
  split <;> rfl

/-- What the head has in hand ends: a TUNING head loses its queued TUNE frame, an ONLINE one what its departure takes. -/
theorem endInHand_lines (held : s.head? h = some hd) :
    (s.endInHand h).lines = if hd.state = .TUNING then s.linesWithoutTune h else (s.leaveOnline h).lines := by
  obtain ⟨x, left, gone, -⟩ := leaveOnline_modify held
  refine (tuneFrameEnds_lines gone).trans ?_
  rw [left.state_eq]
  by_cases tuning : hd.state = .TUNING
  · rw [if_pos tuning, if_pos tuning, leaveOnline_of_notOnline held (by simp [tuning])]
  · rw [if_neg tuning, if_neg tuning]

/-- A head with nothing in hand. -/
def Head.released (x : Head) : Head := { x.tuneOver with retryTimer := none, tuneWait := none }

theorem endInHand_heads (held : s.head? h = some hd) :
    ∃ x, hd.LeftAs x ∧ (s.leaveOnline h).head? h = some x ∧ (s.endInHand h).heads = s.heads.set h.key x.released := by
  obtain ⟨x, left, gone, written⟩ := leaveOnline_modify held
  refine ⟨x, left, gone, ?_⟩
  have kept : ((s.leaveOnline h).tuneFrameEnds h).heads = (s.leaveOnline h).heads := tuneFrameEnds_keeps _ h .heads (by simp)
  rw [← written, State.endInHand, State.modifyHead_heads, State.modifyHead_heads, kept]
  rfl

theorem endInHand_keeps_gone (s : State) (h : HeadId) : Keeps [.lines, .heads] (s.leaveOnline h) (s.endInHand h) :=
  ((tuneFrameEnds_keeps _ h).weaken (by simp)).trans ((modifyHead_keeps _ h _).weaken (by simp))

theorem line_endInHand_other (held : s.head? h = some hd) {m : Nat} (other : m ≠ h.line) : (s.endInHand h).line m = s.line m := by
  have lines := endInHand_lines held
  by_cases tuning : hd.state = .TUNING
  · rw [if_pos tuning] at lines
    exact (State.line_set lines m).trans (if_neg other)
  · rw [if_neg tuning] at lines
    rw [State.line_of_lines lines, line_leaveOnline_other s h other]

theorem line_endInHand_tuning (held : s.head? h = some hd) (tuning : hd.state = .TUNING) :
    (s.endInHand h).line h.line = { s.line h.line with
      queue := (s.line h.line).queueWithout (fun f => decide (f.dest = h.address ∧ f.content.kind = 0x06)) } :=
  (State.line_set ((endInHand_lines held).trans (if_pos tuning)) _).trans (if_pos rfl)

theorem line_endInHand_still (held : s.head? h = some hd) (still : hd.state ≠ .TUNING) (m : Nat) :
    (s.endInHand h).line m = (s.leaveOnline h).line m := State.line_of_lines ((endInHand_lines held).trans (if_neg still)) m

/-- A line stays as it is, RUNNING or DOWN, when what a head has in hand ends. -/
theorem lineState_endInHand (held : s.head? h = some hd) : ((s.endInHand h).line h.line).state = (s.line h.line).state := by
  by_cases tuning : hd.state = .TUNING
  · rw [line_endInHand_tuning held tuning]
  · rw [line_endInHand_still held tuning]
    obtain same | ⟨push, reserved, line⟩ := line_leaveOnline s h
    · rw [same]
    · rw [line]
      rfl

end InHand

section Notices

variable {w : State} {h : HeadId} {was : HeadState}

/-! ## The notice of a head that leaves FAULTED (R176) -/

theorem raiseRecovered_latch (w : State) (h : HeadId) (was : HeadState) :
    ((w.raiseRecovered h was).latch .HEAD_STATE =
      if was = .FAULTED then
        (w.latch .HEAD_STATE).raised (.headState h ((w.head? h).map (·.state)) none 0) w.clock.time
      else w.latch .HEAD_STATE)
    ∧ (w.raiseRecovered h was).latch .PENDING_LOST = w.latch .PENDING_LOST := by
  unfold State.raiseRecovered
  split
  · exact ⟨(State.latch_raise w .HEAD_STATE .HEAD_STATE _).trans (if_pos rfl),
      (State.latch_raise w .HEAD_STATE .PENDING_LOST _).trans (if_neg (by decide))⟩
  · exact ⟨rfl, rfl⟩

end Notices

section Moves

variable {s : State} {h : HeadId} {hd : Head} {cls : HeadClass} {f : HeadFields}

/-! ## A head moved to another class or bound object (R165) -/

/-- The state once the bindings of a moved head have changed. -/
def State.rebound (s : State) (h : HeadId) (hd : Head) (cls : HeadClass) (f : HeadFields) : State :=
  ((s.endInHand h).unbind hd.cls hd.bound).bind h cls f.bound

/-- A moved head, in the state its line gives it. -/
def Head.moved (x : Head) (cls : HeadClass) (f : HeadFields) (state : HeadState) : Head :=
  { x with cls := cls, bound := f.bound, neighbourhood := f.neighbourhood, group := f.group, state := state,
           faultReason := none, field := none, quality := .UNTUNED, lastTune := none, nextDue := none,
           tuneWait := none, notified := false, tuneTimer := none, retryTimer := none, frameWaits := false,
           due := false, missed := if state = .PROBING then 0 else x.missed,
           lastSeq := if state = .PROBING then none else x.lastSeq,
           lastIdentEnd := if state = .PROBING then none else x.lastIdentEnd }

theorem rebound_keeps (s : State) (h : HeadId) (hd : Head) (cls : HeadClass) (f : HeadFields) :
    Keeps [.cabins, .lanes] (s.endInHand h) (s.rebound h hd cls f) := (unbind_keeps _ _ _).trans (bind_keeps _ h cls f.bound)

theorem headChanged_eq (held : s.head? h = some hd) (cls : HeadClass) (f : HeadFields) :
    ∃ x, hd.LeftAs x ∧ (s.leaveOnline h).head? h = some x ∧ s.headChanged h hd cls f =
      ({ s.rebound h hd cls f with heads := s.heads.set h.key (x.moved cls f (s.stateOn h.line)) } : State).raiseRecovered h hd.state := by
  obtain ⟨x, left, gone, ended⟩ := endInHand_heads held
  have heads : (s.rebound h hd cls f).heads = s.heads.set h.key x.released := (rebound_keeps s h hd cls f .heads (by simp)).trans ended
  have there : (s.rebound h hd cls f).head? h = some x.released :=
    (State.head_set (State.inRange_of_head held) heads h).trans (if_pos rfl)
  have running : (s.rebound h hd cls f).lineRunning h.line = s.lineRunning h.line := by
    rw [State.lineRunning, State.line_of_lines (rebound_keeps s h hd cls f .lines (by simp)), lineState_endInHand held]
    rfl
  have placed : (x.released.changed cls f).byLine ((s.rebound h hd cls f).lineRunning h.line) = x.moved cls f (s.stateOn h.line) := by
    rw [running, byLine_lineRunning]
    rfl
  refine ⟨x, left, gone, ?_⟩
  show ((s.rebound h hd cls f).modifyHead h (fun x => (x.changed cls f).byLine ((s.rebound h hd cls f).lineRunning h.line))).raiseRecovered
    h hd.state = _
  rw [modifyHead_of_head there, placed, heads, Table.set_set]

section Rebound

variable (wf : s.cabins.wf = true)

include wf

theorem endInHand_cabins_wf (h : HeadId) : (s.endInHand h).cabins.wf = true := by
  rw [endInHand_keeps s h .cabins (by simp)]
  exact wf

theorem rebound_bound (there : cls = .CABIN_DOOR → s.cabin? f.bound ≠ none) : (s.rebound h hd cls f).Bound h cls f.bound := by
  have ended := endInHand_cabins_wf wf h
  refine bind_bound (unbind_cabins_wf ended _ _) fun door => cabin_unbind_ne_none ended ?_
  rw [cabin_of_cabins (endInHand_keeps s h .cabins (by simp))]
  exact there door

theorem rebound_unbound (other : hd.cls ≠ cls ∨ hd.bound ≠ f.bound) : (s.rebound h hd cls f).Unbound hd.cls hd.bound := by
  have ended := endInHand_cabins_wf wf h
  exact (unbind_unbound ended hd.cls hd.bound).bind (unbind_cabins_wf ended _ _) other

end Rebound

end Moves

section Drops

variable {s t : State} {h : HeadId} {hd : Head}

/-! ## A dropped head (R166) -/

theorem head_erase {y : Head} (hh : h.inRange = true) (heads : t.heads = (s.heads.set h.key y).erase h.key) (g : HeadId) :
    t.head? g = if g = h then none else s.head? g := by
  unfold State.head?
  rw [heads]
  by_cases hg : g.inRange = true
  · simp only [hg, ↓reduceIte, Table.get_erase, Table.get_set, HeadId.key_inj (HeadId.address_lt hg) (HeadId.address_lt hh)]
    split <;> rfl
  · simp [hg]

/-- A turn in flight to a dropped address runs on with its answer to be discarded. -/
def Turn.droppedFor (a : Nat) (t : Turn) : Turn := if t.target = a then { t with dropped := true } else t

theorem dropHead_eq (ln : Line) (a : Nat) :
    ln.dropHead a = { ln with turn := ln.turn.map (Turn.droppedFor a), queue := ln.queueWithout (fun f => decide (f.dest = a)) } := by
  simp only [Line.dropHead, removeFrames_eq, address_beq]
  rfl

/-- What was removed of an address before goes with the rest of its frames. -/
theorem dropHead_of_removed (ln : Line) (a : Nat) (p : OutFrame → Bool) (only : ∀ f, p f = true → f.dest = a) (push : Option Push)
    (reserved : Nat) :
    Line.dropHead { ln with queue := ln.queueWithout p, push := push, reserved := reserved } a =
      { ln with turn := ln.turn.map (Turn.droppedFor a), queue := ln.queueWithout (fun f => decide (f.dest = a)),
                push := push, reserved := reserved } := by
  have both : (fun f => p f || decide (f.dest = a)) = fun f => decide (f.dest = a) := by
    funext f
    cases is : p f with
    | false => rfl
    | true => simp [only f is]
  have queue := queueWithout_queueWithout ln p (fun f => decide (f.dest = a))
  rw [both] at queue
  rw [dropHead_eq, ← queue]
  rfl

/-- R166 step 2: the line of a dropped head. -/
theorem dropHead_endInHand (held : s.head? h = some hd) :
    ((s.endInHand h).line h.line).dropHead h.address =
      { (s.leaveOnline h).line h.line with
          turn := (s.line h.line).turn.map (Turn.droppedFor h.address),
          queue := (s.line h.line).queueWithout (fun f => decide (f.dest = h.address)) } := by
  by_cases tuning : hd.state = .TUNING
  · rw [line_endInHand_tuning held tuning, leaveOnline_of_notOnline held (by simp [tuning])]
    exact dropHead_of_removed (s.line h.line) h.address _ (fun f tune => (of_decide_eq_true tune).1) _ _
  · rw [line_endInHand_still held tuning]
    obtain same | ⟨push, reserved, line⟩ := line_leaveOnline s h
    · rw [same, dropHead_eq]
    · rw [line]
      exact dropHead_of_removed (s.line h.line) h.address _ (fun f there => of_decide_eq_true there) push reserved

/-- The state once a dropped head's line and binding have been cleared. -/
def State.cleared (s : State) (h : HeadId) (hd : Head) : State :=
  ((s.endInHand h).modifyLine h.line (fun ln => ln.dropHead h.address)).unbind hd.cls hd.bound

theorem cleared_keeps (s : State) (h : HeadId) (hd : Head) :
    Keeps [.cabins, .lanes] ((s.endInHand h).modifyLine h.line (fun ln => ln.dropHead h.address)) (s.cleared h hd) :=
  unbind_keeps _ _ _

theorem headDropped_eq (held : s.head? h = some hd) : ∃ y, s.headDropped h hd =
    ({ s.cleared h hd with heads := (s.heads.set h.key y).erase h.key } : State).raiseRecovered h hd.state := by
  obtain ⟨x, -, -, ended⟩ := endInHand_heads held
  have heads : (s.cleared h hd).heads = s.heads.set h.key x.released := (cleared_keeps s h hd .heads (by simp)).trans ended
  refine ⟨x.released, ?_⟩
  rw [← heads]
  rfl

theorem line_cleared (held : s.head? h = some hd) (m : Nat) : (s.cleared h hd).line m =
    if m = h.line then
      { (s.leaveOnline h).line h.line with
          turn := (s.line h.line).turn.map (Turn.droppedFor h.address),
          queue := (s.line h.line).queueWithout (fun f => decide (f.dest = h.address)) }
    else s.line m := by
  rw [State.line_of_lines (cleared_keeps s h hd .lines (by simp)), State.line_modifyLine, dropHead_endInHand held]
  split
  · rfl
  · exact line_endInHand_other held ‹_›

end Drops

end Sys2Proof.Machine
end

section
/-! PROOFS. HEAD PUT and HEAD DROP settled (R165, R166): a created head, a head that keeps its bindings, a moved one and a dropped one. -/

namespace Sys2Proof.Machine

open Sys2Proof

section Placed

variable {s w : State} {h : HeadId} {hd x y : Head} {cls : HeadClass} {f : HeadFields} {was : HeadState}

/-! ## The notices and frames of a place whose head has left (R166, R176) -/

/-- What holds of a state in which a head has left its bindings and line, and of the notice for having left FAULTED. -/
theorem raiseRecovered_of_left (keeps : Keeps [.cabins, .lines, .heads, .lanes] (s.leaveOnline h) w) (was : HeadState) :
    Keeps [.cabins, .lines, .heads, .lanes, .latches] (s.leaveOnline h) (w.raiseRecovered h was)
      ∧ Keeps turnParts s (w.raiseRecovered h was)
      ∧ (w.raiseRecovered h was).latch .PENDING_LOST = (s.leaveOnline h).latch .PENDING_LOST
      ∧ (was = .FAULTED → (w.raiseRecovered h was).latch .HEAD_STATE =
          (s.latch .HEAD_STATE).raised (.headState h ((w.head? h).map (·.state)) none 0) s.clock.time)
      ∧ (was ≠ .FAULTED → (w.raiseRecovered h was).latch .HEAD_STATE = s.latch .HEAD_STATE) := by
  obtain ⟨headState, pendingLost⟩ := raiseRecovered_latch w h was
  have latches (c : NoticeClass) : w.latch c = (s.leaveOnline h).latch c := State.latch_of_latches (keeps .latches (by simp)) c
  have clock : w.clock = s.clock := (keeps .clock (by simp)).trans (leaveOnline_keeps s h .clock (by simp))
  have fromGone : Keeps [.cabins, .lines, .heads, .lanes, .latches] (s.leaveOnline h) (w.raiseRecovered h was) :=
    (keeps.weaken (by simp)).trans ((raiseRecovered_keeps w h was).weaken (by simp))
  rw [latches, latch_leaveOnline s h (by decide), clock] at headState
  refine ⟨fromGone, ((leaveOnline_keeps s h).weaken (by simp)).trans (fromGone.weaken (by simp)), pendingLost.trans (latches _),
    fun faulted => headState.trans (if_pos faulted), fun other => headState.trans (if_neg other)⟩

/-! ## A moved head (R165) -/

theorem Head.LeftAs.cleared (left : hd.LeftAs x) (state : hd.state = .ONLINE) : x.hold = none ∧ x.lastGrant = none := by
  obtain ⟨other, -⟩ | ⟨-, _, rfl⟩ := left
  · exact absurd state other
  · exact ⟨rfl, rfl⟩

/-- The state once a moved head stands in its place, before the notice for having left FAULTED. -/
def State.movedHead (s : State) (h : HeadId) (hd y : Head) (cls : HeadClass) (f : HeadFields) : State :=
  { s.rebound h hd cls f with heads := s.heads.set h.key y }

theorem movedHead_keeps (s : State) (h : HeadId) (hd y : Head) (cls : HeadClass) (f : HeadFields) :
    Keeps [.cabins, .lines, .heads, .lanes] (s.leaveOnline h) (s.movedHead h hd y cls f) :=
  (((endInHand_keeps_gone s h).weaken (by simp)).trans ((rebound_keeps s h hd cls f).weaken (by simp))).trans
    ((keeps_linesHeads _ _ _).weaken (by simp))

theorem line_movedHead (s : State) (h : HeadId) (hd y : Head) (cls : HeadClass) (f : HeadFields) (m : Nat) :
    ((s.movedHead h hd y cls f).raiseRecovered h was).line m = (s.endInHand h).line m :=
  State.line_of_lines ((raiseRecovered_keeps (s.movedHead h hd y cls f) h was .lines (by simp)).trans
    (rebound_keeps s h hd cls f .lines (by simp))) m

/-! ## A dropped head (R166) -/

/-- The state once a place is empty, before the notice for having left FAULTED. -/
def State.emptied (s : State) (h : HeadId) (hd y : Head) : State :=
  { s.cleared h hd with heads := (s.heads.set h.key y).erase h.key }

theorem cleared_unbound (wf : s.cabins.wf = true) (h : HeadId) (hd : Head) : (s.cleared h hd).Unbound hd.cls hd.bound :=
  unbind_unbound (s := (s.endInHand h).modifyLine h.line _) (endInHand_cabins_wf wf h) hd.cls hd.bound

theorem emptied_keeps (s : State) (h : HeadId) (hd y : Head) :
    Keeps [.cabins, .lines, .heads, .lanes] (s.leaveOnline h) (s.emptied h hd y) :=
  ((((endInHand_keeps_gone s h).weaken (by simp)).trans ((modifyLine_keeps _ h.line _).weaken (by simp))).trans
    ((cleared_keeps s h hd).weaken (by simp))).trans ((keeps_linesHeads _ _ _).weaken (by simp))

/-! ## A created head (R163, R165) -/

theorem fresh_byLine (s : State) (l : Nat) (cls : HeadClass) (f : HeadFields) :
    (Head.fresh cls f).byLine (s.lineRunning l) = { Head.fresh cls f with state := s.stateOn l } := by
  rw [byLine_lineRunning]
  simp [Head.fresh]

/-- The state once a created head stands in its place with its binding. -/
def State.created (s : State) (h : HeadId) (cls : HeadClass) (f : HeadFields) : State :=
  (s.setHead h { Head.fresh cls f with state := s.stateOn h.line }).bind h cls f.bound

theorem created_heads (s : State) (h : HeadId) (cls : HeadClass) (f : HeadFields) :
    (s.created h cls f).heads = s.heads.set h.key { Head.fresh cls f with state := s.stateOn h.line } :=
  bind_keeps (s.setHead h _) h cls f.bound .heads (by simp)

theorem setHead_keeps (s : State) (h : HeadId) (y : Head) : Keeps [.heads] s (s.setHead h y) := by
  intro p hp
  cases p <;> simp_all [Part.same, State.setHead]

theorem created_keeps (s : State) (h : HeadId) (cls : HeadClass) (f : HeadFields) :
    Keeps [.heads, .cabins, .lanes] s (s.created h cls f) :=
  ((setHead_keeps s h _).weaken (by simp)).trans ((bind_keeps (s.setHead h _) h cls f.bound).weaken (by simp))

/-! ## The accepted requests (R165, R166) -/

theorem headPutWork_created (is : headClassOf h f = some cls) (accepted : s.headPutRefusal h cls f = none) (absent : s.head? h = none) :
    s.headPutWork h f = (s.created h cls f).done := by
  simp only [State.headPutWork, is, accepted, absent, State.created, fresh_byLine]

theorem headPutWork_same (is : headClassOf h f = some cls) (accepted : s.headPutRefusal h cls f = none) (held : s.head? h = some hd)
    (same : hd.cls = cls ∧ hd.bound = f.bound) :
    s.headPutWork h f =
      ({ s with heads := s.heads.set h.key { hd with neighbourhood := f.neighbourhood, group := f.group } } : State).done := by
  simp only [State.headPutWork, is, accepted, held, modifyHead_of_head held]
  exact if_pos same

theorem headPutWork_moved (is : headClassOf h f = some cls) (accepted : s.headPutRefusal h cls f = none) (held : s.head? h = some hd)
    (other : hd.cls ≠ cls ∨ hd.bound ≠ f.bound) : s.headPutWork h f = (s.headChanged h hd cls f).done := by
  simp only [State.headPutWork, is, accepted, held]
  exact if_neg fun ⟨sameClass, sameBound⟩ => other.elim (· sameClass) (· sameBound)

theorem headDropWork_of_outside (outside : h.inRange ≠ true) : s.headDropWork h = s.refuse .OUT_OF_RANGE :=
  if_pos (by simpa using outside)

theorem headDropWork_of_absent (hh : h.inRange = true) (absent : s.head? h = none) : s.headDropWork h = s.refuse .NOT_FOUND := by
  rw [State.headDropWork, if_neg (by simp [hh]), absent]

theorem headDropWork_of_head (held : s.head? h = some hd) : s.headDropWork h = (s.headDropped h hd).done := by
  rw [State.headDropWork, if_neg (by simp [State.inRange_of_head held]), held]

end Placed

/-- Settles O49: HEAD PUT by its checks in order and by what stands in the place, HEAD DROP by what it leaves of the head, its line, its
binding and the notices. -/
theorem headPutAndDrop : Obligations.HeadPutAndDrop := by
  intro s tag l a wf h gone bindings unbound
  refine ⟨fun f ready => ⟨fun outside => refused_of_serve rfl ready rfl (headPutWork_of_outOfRange outside), fun cls is => ?_⟩,
    fun ready => ⟨fun outside => ?_, fun hl ha ha' absent => ?_, fun hd held => ?_⟩⟩
  · intro state missing inUse busy
    obtain ⟨hh, ctor⟩ := inRange_of_headClassOf is
    obtain ⟨hl, ha, ha'⟩ := (HeadId.inRange_iff h).1 hh
    refine ⟨hl, ha, ha', ctor, fun gone => ?_, fun there used => ?_, fun there free busy => ?_, fun there unused free => ?_⟩
    · exact refused_of_serve rfl ready rfl
        (headPutWork_of_refusal is (headPutRefusal_of_binding (bindingRefusal_of_missing gone)))
    · exact refused_of_serve rfl ready rfl (headPutWork_of_refusal is (headPutRefusal_of_binding (bindingRefusal_of_inUse used)))
    · exact refused_of_serve rfl ready rfl (headPutWork_of_refusal is (headPutRefusal_of_busy (bindingRefusal_of_free there free) busy))
    have accepted := headPutRefusal_of_free (bindingRefusal_of_free there unused) free
    have cabin (door : cls = .CABIN_DOOR) : s.cabin? f.bound ≠ none := fun absent => there (.inl ⟨door, absent⟩)
    refine ⟨fun absent => ?_, fun hd held sameClass sameBound => ?_, fun hd held other => ?_⟩
    · have heads := created_heads s h cls f
      exact ⟨s.created h cls f, answers_ok_of_serve rfl ready rfl (headPutWork_created is accepted absent), created_keeps s h cls f,
        bind_bound (s := s.setHead h _) wf cabin, fun o other => (State.head_set hh heads o).trans (if_neg other),
        (State.head_set hh heads h).trans (if_pos rfl)⟩
    · exact answers_ok_of_serve rfl ready rfl (headPutWork_same is accepted held ⟨sameClass, sameBound⟩)
    · obtain ⟨x, left, goneHead, changed⟩ := headChanged_eq held cls f
      let y := x.moved cls f (s.stateOn l)
      let w := s.movedHead h hd y cls f
      have work : s.headPutWork h f = (w.raiseRecovered h hd.state).done :=
        (headPutWork_moved is accepted held other).trans (congrArg (fun u : State => u.done) changed)
      obtain ⟨fromGone, fromOld, pendingLost, faulted, notFaulted⟩ := raiseRecovered_of_left (movedHead_keeps s h hd y cls f) hd.state
      have heads : (w.raiseRecovered h hd.state).heads = s.heads.set h.key y := raiseRecovered_keeps w h hd.state .heads (by simp)
      have cabins : (w.raiseRecovered h hd.state).cabins = (s.rebound h hd cls f).cabins :=
        raiseRecovered_keeps w h hd.state .cabins (by simp)
      have lanes : (w.raiseRecovered h hd.state).lanes = (s.rebound h hd cls f).lanes :=
        raiseRecovered_keeps w h hd.state .lanes (by simp)
      have line := line_movedHead (was := hd.state) s h hd y cls f
      have still (now : hd.state ≠ .TUNING) : (w.raiseRecovered h hd.state).line l = gone.line l :=
        (line l).trans (line_endInHand_still held now l)
      refine ⟨w.raiseRecovered h hd.state, x, y, answers_ok_of_serve rfl ready rfl work, (State.head_set hh heads h).trans (if_pos rfl),
        fun o other => (State.head_set hh heads o).trans (if_neg other), goneHead, fromGone, fromOld,
        fun m other => (line m).trans (line_endInHand_other held other), rfl, (rebound_bound wf cabin).of_same cabins lanes,
        (rebound_unbound wf other).of_same cabins lanes, fun online => left.cleared online,
        fun tuning => (line l).trans (line_endInHand_tuning held tuning), still, fun idle => ?_, pendingLost, fun was => ?_, notFaulted⟩
      · have notOnline : hd.state ≠ .ONLINE := fun online => by simp [online] at idle
        have notTuning : hd.state ≠ .TUNING := fun tuning => by simp [tuning] at idle
        rw [still notTuning]
        exact congrArg (State.line · l) (leaveOnline_of_notOnline held notOnline)
      · rw [faulted was, State.head_set hh (s := s) (t := w) (hd := y) rfl h, if_pos rfl]
        rfl
  · refine refused_of_serve rfl ready rfl (headDropWork_of_outside fun hh => ?_)
    obtain ⟨hl, ha, ha'⟩ := (HeadId.inRange_iff _).1 hh
    dsimp only at hl ha ha'
    omega
  · exact refused_of_serve rfl ready rfl (headDropWork_of_absent ((HeadId.inRange_iff h).2 ⟨hl, ha, ha'⟩) absent)
  · have hh := State.inRange_of_head held
    obtain ⟨y, dropped⟩ := headDropped_eq held
    let w := s.emptied h hd y
    have work : s.headDropWork h = (w.raiseRecovered h hd.state).done :=
      (headDropWork_of_head held).trans (congrArg (fun u : State => u.done) dropped)
    obtain ⟨fromGone, fromOld, pendingLost, faulted, notFaulted⟩ := raiseRecovered_of_left (emptied_keeps s h hd y) hd.state
    have heads : (w.raiseRecovered h hd.state).heads = (s.heads.set h.key y).erase h.key :=
      raiseRecovered_keeps w h hd.state .heads (by simp)
    have cabins : (w.raiseRecovered h hd.state).cabins = (s.cleared h hd).cabins := raiseRecovered_keeps w h hd.state .cabins (by simp)
    have lanes : (w.raiseRecovered h hd.state).lanes = (s.cleared h hd).lanes := raiseRecovered_keeps w h hd.state .lanes (by simp)
    have line (m : Nat) : (w.raiseRecovered h hd.state).line m = _ :=
      (State.line_of_lines (raiseRecovered_keeps w h hd.state .lines (by simp)) m).trans (line_cleared held m)
    refine ⟨w.raiseRecovered h hd.state, answers_ok_of_serve rfl ready rfl work, (head_erase hh heads h).trans (if_pos rfl),
      fun o other => (head_erase hh heads o).trans (if_neg other),
      (cleared_unbound wf h hd).of_same cabins lanes, fromOld, fromGone, (line l).trans (if_pos rfl),
      fun m other => (line m).trans (if_neg other), pendingLost, fun was => ?_, notFaulted⟩
    rw [faulted was, head_erase hh (s := s) (t := w) (y := y) rfl h, if_pos rfl]
    rfl

end Sys2Proof.Machine
end

section
/-! PROOFS. Decoding (R191, R192): what each walk of a body field yields fits that field, whatever the bytes, and so what each row of the
kind-code table decodes to. -/

namespace Sys2Proof

open Sys2Proof.Machine (numberOf signedOf requestOf)

/-! ## What a walk yields -/

/-- Whatever the bytes the walk starts on, a value it reads has the property. -/
def Yields {α : Type} (w : Walk α) (P : α → Prop) : Prop := ∀ l x rest, w l = some (x, rest) → P x

section Walks

variable {α β : Type} {w : Walk α} {P Q : α → Prop}

theorem Yields.mono (h : Yields w P) (weaker : ∀ x, P x → Q x) : Yields w Q :=
  fun l x rest read => weaker x (h l x rest read)

theorem Yields.pure {x : α} (h : P x) : Yields (pure x) P := by
  intro l y rest read
  cases (read : some (x, l) = some (y, rest))
  exact h

theorem yields_failure : Yields (failure : Walk α) P := nofun

theorem Yields.bind {f : α → Walk β} {R : β → Prop} (first : Yields w P) (second : ∀ x, P x → Yields (f x) R) :
    Yields (w >>= f) R := by
  intro l y rest read
  obtain ⟨⟨x, left⟩, here, there⟩ : ∃ a, w l = some a ∧ f a.1 a.2 = some (y, rest) := Option.bind_eq_some_iff.1 read
  exact second x (first l x left here) left y rest there

/-! ## The fields of R192 -/

theorem foldl_bytes_lt (l : List Byte) (n : Nat) : l.foldl (fun n b => n * 256 + b.toNat) n < (n + 1) * 256 ^ l.length := by
  induction l generalizing n with
  | nil => simp
  | cons b l ih =>
    have byte : b.toNat < 256 := b.isLt
    calc (b :: l).foldl (fun n b => n * 256 + b.toNat) n
      _ < (n * 256 + b.toNat + 1) * 256 ^ l.length := ih (n * 256 + b.toNat)
      _ ≤ (n + 1) * 256 * 256 ^ l.length := Nat.mul_le_mul_right _ (by omega)
      _ = (n + 1) * 256 ^ (b :: l).length := by rw [List.length_cons, Nat.pow_succ', Nat.mul_assoc]

theorem numberOf_lt (l : List Byte) : numberOf l < 256 ^ l.length := by
  have bound := foldl_bytes_lt l 0
  rwa [Nat.zero_add, Nat.one_mul] at bound

theorem fitsSigned_iff (n : Nat) (v : Int) : fitsSigned n v = true ↔ -(256 ^ n : Int) ≤ 2 * v ∧ 2 * v < (256 ^ n : Int) := by
  simp [fitsSigned]

theorem fitsSigned_signedOf {n v : Nat} (h : v < 256 ^ n) : fitsSigned n (signedOf (256 ^ n) v) = true := by
  have width : (256 : Int) ^ n = (256 ^ n : Nat) := by simp
  rw [fitsSigned_iff, width, signedOf]
  generalize 256 ^ n = m at h
  split <;> omega

theorem yields_walkBytes (n : Nat) : Yields (walkBytes n) (fun l => l.length = n) := by
  intro l x rest read
  unfold walkBytes at read
  split at read
  next enough =>
    obtain ⟨rfl, -⟩ : l.take n = x ∧ l.drop n = rest := by simpa using read
    exact List.length_take_of_le enough
  next => cases read

theorem yields_walkByte : Yields walkByte (fun _ => True) := (yields_walkBytes 1).bind fun _ _ => .pure trivial

theorem yields_walkNat (n : Nat) : Yields (walkNat n) (fun v => fits n v = true) :=
  (yields_walkBytes n).bind fun l length => .pure (decide_eq_true (length ▸ numberOf_lt l))

theorem yields_walkInt (n : Nat) : Yields (walkInt n) (fun v => fitsSigned n v = true) :=
  (yields_walkBytes n).bind fun l length => .pure (fitsSigned_signedOf (length ▸ numberOf_lt l))

theorem yields_walkOpt {p : α → Bool} (h : Yields w (fun x => p x = true)) : Yields (walkOpt w) (fun o => o.all p = true) :=
  (yields_walkNat 1).bind fun presence _ => by
    split
    · exact .pure rfl
    · exact h.bind fun _ fit => .pure fit
    · exact yields_failure

theorem yields_walkMany (h : Yields w P) (n : Nat) : Yields (walkMany w n) (fun l => l.length = n ∧ ∀ x ∈ l, P x) := by
  induction n with
  | zero => exact .pure ⟨rfl, nofun⟩
  | succ n ih =>
    exact h.bind fun x fit => ih.bind fun l ⟨length, fits⟩ => .pure ⟨congrArg (· + 1) length, List.forall_mem_cons.2 ⟨fit, fits⟩⟩

theorem yields_walkList (most : Nat) (h : Yields w P) : Yields (walkList most w) (fun l => l.length ≤ most ∧ ∀ x ∈ l, P x) :=
  (yields_walkNat 1).bind fun n _ => by
    split
    next few => exact (yields_walkMany h n).mono fun l ⟨length, fits⟩ => ⟨Nat.le_trans (Nat.le_of_eq length) few, fits⟩
    next => exact yields_failure

end Walks

theorem pairFits_eq_all (n : Nat) (o : Option (Nat × Nat)) : pairFits n o = o.all (fun p => fits n p.1 && fits n p.2) := by
  cases o <;> rfl

theorem yields_walkPair (n : Nat) : Yields (walkPair n) (fun p => (fits n p.1 && fits n p.2) = true) :=
  (yields_walkNat n).bind fun _ first => (yields_walkNat n).bind fun _ second => .pure (by simp [first, second])

theorem yields_walkOpt_pair (n : Nat) : Yields (walkOpt (walkPair n)) (fun o => pairFits n o = true) :=
  (yields_walkOpt (yields_walkPair n)).mono fun o fit => (pairFits_eq_all n o).trans fit

theorem yields_walkUid : Yields walkUid (fun u => u.wf = true) :=
  (yields_walkNat 1).bind fun _ length => (yields_walkBytes 10).bind fun _ data => .pure (by simp [RawUid.wf, length, data])

theorem yields_walkPage : Yields (walkList 255 walkByte) (fun page => fits 1 page.length = true) :=
  (yields_walkList 255 yields_walkByte).mono fun _ ⟨length, _⟩ => decide_eq_true (Nat.lt_succ_of_le length)

theorem yields_walkMap : Yields (walkOpt (walkBytes 25)) (fun map => map.all (fun m => decide (m.length = 25)) = true) :=
  yields_walkOpt ((yields_walkBytes 25).mono fun _ length => decide_eq_true length)

/-! ## The records of R2, R49, R54 and R165 -/

theorem yields_walkPerson : Yields walkPerson (fun f => f.wf = true) :=
  (yields_walkNat 4).bind fun _ id => (yields_walkNat 1).bind fun _ category => (yields_walkNat 1).bind fun _ roles =>
  (yields_walkNat 4).bind fun _ zones => (yields_walkOpt_pair 4).bind fun _ shift => (yields_walkOpt_pair 4).bind fun _ stay =>
  (yields_walkList 2 (yields_walkNat 2)).bind fun _ ⟨two, cabins⟩ => (yields_walkOpt (yields_walkNat 2)).bind fun _ folio =>
  (yields_walkNat 1).bind fun _ alcohol => (yields_walkOpt (yields_walkNat 4)).bind fun _ childCap =>
  (yields_walkNat 1).bind fun _ chargeHold => (yields_walkNat 1).bind fun _ gangwayHold => (yields_walkNat 1).bind fun _ excused =>
  .pure (by
    simp only [PersonFields.wf, Bool.and_eq_true, decide_eq_true_eq, List.all_eq_true]
    exact ⟨⟨⟨⟨⟨⟨⟨⟨⟨⟨⟨⟨⟨id, category⟩, roles⟩, zones⟩, shift⟩, stay⟩, two⟩, cabins⟩, folio⟩, alcohol⟩, childCap⟩, chargeHold⟩,
      gangwayHold⟩, excused⟩)

theorem yields_walkPackage : Yields walkPackage (fun p => p.wf = true) :=
  (yields_walkNat 1).bind fun _ kind => (yields_walkNat 4).bind fun _ cap => (yields_walkNat 1).bind fun _ units =>
  .pure (by simp [PackageFields.wf, kind, cap, units])

theorem yields_walkFolio : Yields walkFolio (fun f => f.wf = true) :=
  (yields_walkNat 4).bind fun _ id => (yields_walkNat 1).bind fun _ state => (yields_walkNat 4).bind fun _ limit =>
  (yields_walkOpt yields_walkPackage).bind fun _ package => (yields_walkInt 8).bind fun _ posted =>
  (yields_walkNat 4).bind fun _ through => .pure (by simp [FolioFields.wf, id, state, limit, package, posted, through])

theorem yields_walkHead : Yields walkHead (fun f => f.wf = true) :=
  (yields_walkNat 1).bind fun _ cls => (yields_walkNat 2).bind fun _ bound => (yields_walkNat 1).bind fun _ neighbourhood =>
  (yields_walkOpt (yields_walkNat 1)).bind fun _ group => .pure (by simp [HeadFields.wf, cls, bound, neighbourhood, group])

/-! ## The kind-code table -/

/-- The command is the request of the kind and tag, and every field of it fits the bytes that carry it. -/
def RequestFits (kind : Nat) (tag : Byte) (c : Instr) : Prop := requestOf c = some (kind, tag) ∧ c.wf = true

section Rows

variable {kind n m k : Nat} {tag : Byte}

/-- A request whose body is one number. -/
theorem yields_number {c : Nat → Instr} (h : ∀ a, fits n a = true → RequestFits kind tag (c a)) :
    Yields (do return c (← walkNat n)) (RequestFits kind tag) :=
  (yields_walkNat n).bind fun a fit => .pure (h a fit)

/-- A request whose body is two numbers. -/
theorem yields_numbers {c : Nat → Nat → Instr} (h : ∀ a b, (fits n a && fits m b) = true → RequestFits kind tag (c a b)) :
    Yields (do return c (← walkNat n) (← walkNat m)) (RequestFits kind tag) :=
  (yields_walkNat n).bind fun a first => (yields_walkNat m).bind fun b second => .pure (h a b (by simp [first, second]))

/-- A request whose body is three numbers. -/
theorem yields_threeNumbers {c : Nat → Nat → Nat → Instr}
    (h : ∀ a b d, (fits n a && fits m b && fits k d) = true → RequestFits kind tag (c a b d)) :
    Yields (do return c (← walkNat n) (← walkNat m) (← walkNat k)) (RequestFits kind tag) :=
  (yields_walkNat n).bind fun a first => (yields_walkNat m).bind fun b second => (yields_walkNat k).bind fun d third =>
    .pure (h a b d (by simp [first, second, third]))

/-- A request whose body is a UID and a number. -/
theorem yields_uidNumber {c : RawUid → Nat → Instr} (h : ∀ u a, (u.wf && fits n a) = true → RequestFits kind tag (c u a)) :
    Yields (do return c (← walkUid) (← walkNat n)) (RequestFits kind tag) :=
  yields_walkUid.bind fun u uid => (yields_walkNat n).bind fun a fit => .pure (h u a (by simp [uid, fit]))

end Rows

/-- The rows stand in the groups of R191's table. -/
theorem requestRows_yield (tag : Byte) : ∀ row ∈ requestRows tag, Yields row.2 (RequestFits row.1 tag) := by
  simp only [requestRows, List.forall_mem_append, List.forall_mem_cons]
  refine ⟨⟨⟨⟨⟨?port, ?roster⟩, ?cabins⟩, ?folios⟩, ?gangway⟩, ?heads⟩
  case port =>
    exact ⟨yields_number fun _ time => ⟨rfl, time⟩,
      .pure ⟨rfl, rfl⟩,
      (yields_walkNat 1).bind fun _ ident => (yields_walkInt 4).bind fun _ value => .pure ⟨rfl, by simp [Instr.wf, ident, value]⟩,
      (yields_walkOpt (yields_walkNat 1)).bind fun _ ident => .pure ⟨rfl, ident⟩,
      yields_number fun _ classes => ⟨rfl, classes⟩,
      yields_number fun _ classes => ⟨rfl, classes⟩,
      .pure ⟨rfl, rfl⟩,
      .pure ⟨rfl, rfl⟩, nofun⟩
  case roster =>
    exact ⟨(yields_walkNat 2).bind fun _ slot => yields_walkPerson.bind fun _ fields => .pure ⟨rfl, by simp [Instr.wf, slot, fields]⟩,
      yields_numbers fun _ _ fit => ⟨rfl, fit⟩,
      yields_number fun _ slot => ⟨rfl, slot⟩,
      yields_walkUid.bind fun _ uid => (yields_walkNat 2).bind fun _ slot => (yields_walkNat 1).bind fun _ issue =>
        (yields_walkNat 1).bind fun _ state => .pure ⟨rfl, by simp [Instr.wf, uid, slot, issue, state]⟩,
      yields_uidNumber fun _ _ fit => ⟨rfl, fit⟩,
      yields_uidNumber fun _ _ fit => ⟨rfl, fit⟩,
      yields_uidNumber fun _ _ fit => ⟨rfl, fit⟩,
      yields_walkUid.bind fun _ uid => .pure ⟨rfl, uid⟩,
      .pure ⟨rfl, rfl⟩, nofun⟩
  case cabins =>
    exact ⟨yields_numbers fun _ _ fit => ⟨rfl, fit⟩,
      yields_number fun _ number => ⟨rfl, number⟩,
      yields_number fun _ number => ⟨rfl, number⟩,
      yields_numbers fun _ _ fit => ⟨rfl, fit⟩, nofun⟩
  case folios =>
    exact ⟨(yields_walkNat 2).bind fun _ slot => yields_walkFolio.bind fun _ fields => .pure ⟨rfl, by simp [Instr.wf, slot, fields]⟩,
      yields_numbers fun _ _ fit => ⟨rfl, fit⟩,
      yields_numbers fun _ _ fit => ⟨rfl, fit⟩,
      yields_numbers fun _ _ fit => ⟨rfl, fit⟩,
      yields_number fun _ slot => ⟨rfl, slot⟩,
      yields_threeNumbers fun _ _ _ fit => ⟨rfl, fit⟩,
      yields_number fun _ value => ⟨rfl, value⟩,
      yields_number fun _ number => ⟨rfl, number⟩,
      yields_numbers fun _ _ fit => ⟨rfl, fit⟩,
      yields_number fun _ number => ⟨rfl, number⟩, nofun⟩
  case gangway =>
    exact ⟨yields_threeNumbers fun _ _ _ fit => ⟨rfl, fit⟩,
      yields_number fun _ lane => ⟨rfl, lane⟩,
      yields_number fun _ lane => ⟨rfl, lane⟩,
      yields_number fun _ lane => ⟨rfl, lane⟩,
      yields_number fun _ lane => ⟨rfl, lane⟩,
      yields_number fun _ lane => ⟨rfl, lane⟩,
      .pure ⟨rfl, rfl⟩,
      yields_numbers fun _ _ fit => ⟨rfl, fit⟩,
      yields_number fun _ bank => ⟨rfl, bank⟩,
      yields_number fun _ number => ⟨rfl, number⟩,
      yields_numbers fun _ _ fit => ⟨rfl, fit⟩,
      .pure ⟨rfl, rfl⟩,
      .pure ⟨rfl, rfl⟩,
      yields_numbers fun _ _ fit => ⟨rfl, fit⟩, nofun⟩
  case heads =>
    exact ⟨yields_number fun _ line => ⟨rfl, line⟩,
      yields_number fun _ line => ⟨rfl, line⟩,
      yields_number fun _ line => ⟨rfl, line⟩,
      (yields_walkNat 1).bind fun _ line => (yields_walkNat 1).bind fun _ address => yields_walkHead.bind fun _ fields =>
        .pure ⟨rfl, by simp [Instr.wf, line, address, fields]⟩,
      yields_numbers fun _ _ fit => ⟨rfl, fit⟩,
      yields_numbers fun _ _ fit => ⟨rfl, fit⟩,
      yields_threeNumbers fun _ _ _ fit => ⟨rfl, fit⟩,
      (yields_walkNat 1).bind fun _ line => (yields_walkNat 1).bind fun _ dest => yields_walkPage.bind fun _ page =>
        yields_walkMap.bind fun _ map => .pure ⟨rfl, by simp only [Instr.wf, line, dest, page, map, Bool.and_self]⟩, nofun⟩

/-- A body decodes to what the walk of its kind's row reads from it, when that walk leaves no byte over. -/
theorem decodeRequest_request {kind : Nat} {tag : Byte} {body : List Byte} {c : Instr} (h : decodeRequest kind tag body = .request c) :
    ∃ row ∈ requestRows tag, row.1 = kind ∧ row.2 body = some (c, []) := by
  unfold decodeRequest at h
  split at h
  next => cases h
  next code walk found =>
    have same := List.find?_some found
    refine ⟨_, List.mem_of_find?_eq_some found, beq_iff_eq.1 same, ?_⟩
    split at h
    next read =>
      cases h
      exact read
    next => cases h

/-- Settles O54: the row of the kind code yields only requests of its kind and tag whose fields fit. -/
theorem decodedRequestsFit : Obligations.DecodedRequestsFit := by
  intro kind tag body c decoded
  obtain ⟨row, mem, rfl, read⟩ := decodeRequest_request decoded
  exact requestRows_yield tag row mem body c [] read

end Sys2Proof
end

section
/-! PROOFS. Which command a step runs. -/

namespace Sys2Proof.Machine

open Sys2Proof

/-- Settles O1: a queue with a front command takes the second branch of the step. -/
theorem stepTakesFront : Obligations.StepTakesFront := by
  intro c rest s front
  unfold step
  rw [front]

end Sys2Proof.Machine
end
